-- ==== Sys2Proof/Word.lean ====
section
/-!
DEFINITION. The one bit-vector type the block uses: a byte of a frame, a record or a reply.
Every measured or counted quantity of the manual is a whole number (00_scope.md, 4.1) and is a `Nat` or an `Int`.
-/
namespace Sys2Proof

/-- One byte of a notice frame, a pendant frame, a step record or a reply (R193 to R198). -/
abbrev Byte := BitVec 8

end Sys2Proof
end

