-- ==== Sys2Proof/Syntax.lean ====
section
/-!
DEFINITION. The commands: one constructor for each row of spec/opcode_table.json, with its operands.
-/
namespace Sys2Proof

/-- What one sample event of a channel reads (R3, R5): the loop current in nA (log 5) of the five loop
channels; the GV sample is the station's own pulse count, so its event reads nothing. -/
inductive SampleInput where
  | load (nanoamp : Nat)
  | ext (nanoamp : Nat)
  | gp (nanoamp : Nat)
  | gv
  | wl (nanoamp : Nat)
  | wt (nanoamp : Nat)
deriving DecidableEq, Repr

/-- The levels of the four contact circuits at one read (R15, R16). -/
structure ContactRead where
  seatClosed : Bool
  jackHomeClosed : Bool
  flowFaultClosed : Bool
  estopOpen : Bool
deriving DecidableEq, Repr

/-- One bit time of the wall line (R54): whether any other station drives the line dominant at each of
the three sampling points, and whether the station's own driver fails to drive it (R64). -/
structure BitTime where
  first : Bool
  second : Bool
  third : Bool
  driverFails : Bool
deriving DecidableEq, Repr

/-- One character of the pendant link (R185): its byte, and whether its stop bit reads low. -/
structure PendantChar where
  byte : Byte
  stopLow : Bool
deriving DecidableEq, Repr

/-- The commands of the block, one constructor for each row of spec/opcode_table.json. -/
inductive Instr where
  | powerUp
  | setup (body : List Byte)
  | startWinch (body : List Byte)
  | startGrout (body : List Byte)
  | startStress (body : List Byte)
  | pause (body : List Byte)
  | resume (body : List Byte)
  | abort (body : List Byte)
  | acknowledge (body : List Byte)
  | acceptDrift (body : List Byte)
  | setMask (body : List Byte)
  | clearSeen (body : List Byte)
  | restart (body : List Byte)
  | readStatus (body : List Byte)
  | readNeighbours (body : List Byte)
  | readLog (body : List Byte)
  | readResults (body : List Byte)
  | undefinedRequest (code : Byte) (body : List Byte)
  | requestFrameDiscard (chars : List PendantChar)
  | pendantGapTimeout (chars : List PendantChar)
  | overlappedRequest (code : Byte) (body : List Byte)
  | replyStart
  | replySent
  | sampleEvent (input : SampleInput) (contacts : Option ContactRead)
  | contactDebounced (levels : ContactRead)
  | estopReleased (levels : ContactRead)
  | breakDriveEnd (bits : List BitTime)
  | flowPulse
  | drainWindowClose
  | channelLost (input : SampleInput)
  | driftLoadVoid (nanoamp : Nat)
  | winchStall
  | seatingLimit
  | releaseLimit
  | settleWaitEnd
  | noticeTick
  | jobClockAdvance
  | cureClockAdvance
  | entryLapsed (station : Nat)
  | entryRemoved (station : Nat)
  | raiseIntentEnd
  | gateTimeout
  | groutIntentEnd
  | claimLimit
  | restEnd
  | rateSlow
  | holdReading
  | holdEnd
  | lineIdle (bits : List BitTime)
  | lineBreakDetect (bits : List BitTime)
  | frameComplete (bits : List BitTime)
  | frameDiscard (bits : List BitTime)
  | noticeApplied
  | attemptStart (bits : List BitTime)
  | attemptLost (bits : List BitTime)
  | noticeDropped (bits : List BitTime)
  | backoffEnd (bits : List BitTime)
  | attemptSuccess (bits : List BitTime)
  | lineBusy (bits : List BitTime)
  | characterFormed (bits : List BitTime)
  | pendantStartCharacter (char : PendantChar)
deriving DecidableEq, Repr

end Sys2Proof
end

