-- ==== Sys2Proof/Decode.lean ====
section
/-!
DEFINITION. The command that a word spells. No row of spec/opcode_table.json has bits ("fields" is empty in
each and none has "fixed"), so no word spells a command (log 3).
-/
namespace Sys2Proof

/-- The command read from an instruction word of `nbits` bits: none, for every word. -/
def decodeTableWord (_nbits _w : Nat) : Option Instr := none

end Sys2Proof
end

