-- ==== Sys2Proof/Config.lean ====
section
/-!
DEFINITION. What the manual fixes for every AS418 as a number, and the two free values.
-/
namespace Sys2Proof.Config

/-- The order in which two reactions of one moment act, where the manual lets either act first (R25, R168,
R172, R181, and chapter 6 on the winch and grout decisions). Free: it has no body, so nothing can be
proved about its value (log 8). It is applied to the count of the times it has been asked for. -/
opaque freeOrder : Nat → Bool

/-- Whether the REST period is counted in seconds of the job clock (R1), and not from the tick at which it began (R97):
the two rules differ where REST begins off an advance of the job clock. Free: it has no body (log 39). -/
opaque restByJobClock : Bool

/-- Sizes of the stores: receive queue (R61), neighbour table (R74), step log and READ_LOG body in bytes
(R176, R184), readings of one step (R148). -/
def queueSize : Nat := 4
def tableSize : Nat := 24
def logSize : Nat := 4096
def readLogSize : Nat := 512

/-- The job clock, the ramp clock and the hold clock stop at this many seconds (R37, R119). -/
def clockMax : Nat := 16777215

/-- The GV pulse count stops here (R4). -/
def gvMax : Nat := 999999

/-- Void-run count at which a channel is lost: 2 s of sample events (R12). -/
def lostCount : Nat := 100

/-- The two run counts of the line monitor stop here (R56). -/
def runMax : Nat := 100

/-- Dominant run that enters BREAK, recessive run that enters IDLE (R56). -/
def breakRun : Nat := 33
def idleRun : Nat := 12

/-- The least number of bit times for which the station drives a break (R68). -/
def breakDriveMin : Nat := 66

/-- Characters and bit times of a notice frame (R57, R65). -/
def noticeBytes : Nat := 15
def noticeBits : Nat := 165

/-- Losses at which a notice is dropped (R66). -/
def lossLimit : Nat := 16

end Sys2Proof.Config
end

