-- ==== Sys2Proof/Machine/State.lean ====
section
/-!
DEFINITION. The state of the station, block by block as 00_scope.md 2.1 lists the blocks, its value after
power-up, and the reasons a step can stop.
-/
namespace Sys2Proof.Machine

/-! ## Named values (their codes are R199's, in Machine/Formats.lean) -/

/-- The six measurement channels (R2). -/
inductive ChannelName where
  | load | ext | gp | gv | wl | wt
deriving DecidableEq, Repr

/-- Run states (R32). -/
inductive RunState where
  | unconfigured | idle | running | paused | faulted | stopped | aborting
deriving DecidableEq, Repr

/-- Stages (R32). -/
inductive Stage where
  | none | winch | grout | stress
deriving DecidableEq, Repr

/-- Anchor progress (R32). -/
inductive Progress where
  | none | winched | grouted | locked
deriving DecidableEq, Repr

/-- Step phases (R119). -/
inductive StepPhase where
  | none | raiseWait | raiseIntent | rampUp | hold | rampDown | seating | release | settle
deriving DecidableEq, Repr

/-- Grout phases (chapter 5.5, R199). -/
inductive GroutPhase where
  | none | wait | intent | draw | throttled | rest
deriving DecidableEq, Repr

/-- Notice phases (R52). -/
inductive NoticePhase where
  | quiet | winching | grouting | stressWait | raising | holding | lowering | seating | halted
deriving DecidableEq, Repr

/-- Line states (R56). -/
inductive LineState where
  | idle | busy | broken
deriving DecidableEq, Repr

/-- The sixteen fault kinds of R162, in order of priority. -/
inductive FaultKind where
  | wallStop | loadLimit | strokeEnd | seatFail | channelLost | winchSnag | voidTest | groutRefusal
  | creepExcess | lengthOut | lockLoss | gateTimeout | anchorDrift | neighbourLost | rateSlow | lineFault
deriving DecidableEq, Repr

/-- The details of R162. -/
inductive Detail where
  | none
  | channel (c : ChannelName)
  | creep | length
  | seat | release
  | tension | stall
  | short | long
  | band | loadVoid
  | check | overrun | blocked | clash | malformed | tableFull
  | station (n : Nat)
deriving DecidableEq, Repr

/-- The end of a piece of work (R39), named by what ends and what lies beyond it. A held boundary (R40) is
one of these. -/
inductive Boundary where
  /-- RAISE_WAIT into RAISE_INTENT (R85). -/
  | raiseWaitEnd
  /-- RAISE_INTENT into RAMP_UP (R88). -/
  | raiseIntentEnd
  /-- RAISE_INTENT back into RAISE_WAIT (R89). -/
  | withdrawn
  /-- RAMP_UP back into RAISE_WAIT on a conflict in flight (R90). -/
  | turnedBack
  /-- the wait ends by its gate timeout (R92). -/
  | gateTimeout
  /-- RAISE_WAIT into RAMP_DOWN on a lock approach made after the step's start (R125). -/
  | approachAbove
  /-- RAISE_WAIT into SEATING on a lock approach made after the step's start (R125). -/
  | approachWithin
  /-- RAMP_UP ends on the ramp stop (R126). -/
  | rampUpEnd
  /-- RAMP_DOWN ends on the unload stop (R129). -/
  | rampDownEnd
  /-- HOLD ends at its length (R130). -/
  | holdEnd
  /-- SEATING into RELEASE (R133). -/
  | seatingEnd
  /-- RELEASE into SETTLE (R134). -/
  | releaseEnd
  /-- GROUT_WAIT into GROUT_INTENT (R94). -/
  | groutWaitEnd
  /-- GROUT_WAIT into DRAW on grout main 0 (R98). -/
  | groutWaitDraw
  /-- GROUT_INTENT into DRAW (R95). -/
  | groutIntentEnd
  /-- GROUT_INTENT back into GROUT_WAIT (R95). -/
  | gaveWay
  /-- DRAW into THROTTLED (R111). -/
  | throttled
  /-- THROTTLED into DRAW (R112). -/
  | reopened
  /-- a claim ends at its limit, into REST (R97). -/
  | claimLimit
  /-- a claim ends on an unmasked refusal, into GROUT_WAIT (R113). -/
  | refusal
  /-- REST ends (R97). -/
  | restEnd
  /-- the stage ends; `refused` for a grout stage that ends on a masked refusal (R36, R113). -/
  | stageEnd (refused : Bool)
deriving DecidableEq, Repr

/-! ## Measurement channels and contacts (chapter 1) -/

/-- One valid sample: its value, and whether it was clamped (R3, R5). -/
structure Sample where
  value : Nat
  overMark : Bool
deriving DecidableEq, Repr

/-- What one channel keeps. The fill count, the filtered value and the OVER indication are computed from
the window (R7, R10). -/
structure Channel where
  /-- filter length N (R6) -/
  filterLen : Nat
  /-- the window of recent valid samples, oldest first (R7) -/
  window : List Sample
  /-- void-run count (R12) -/
  voidRun : Nat
  /-- REFILLED mark (R11) -/
  refilled : Bool
  /-- lost and needed at the channel's previous sample event (R12) -/
  lostBefore : Bool
deriving DecidableEq, Repr

structure Channels where
  load : Channel
  ext : Channel
  gp : Channel
  gv : Channel
  wl : Channel
  wt : Channel
  /-- LOAD lost under a locked anchor at its previous sample event (R13) -/
  driftLostBefore : Bool
  /-- GV pulse count and its overflow mark (R4) -/
  gvCount : Nat
  gvOver : Bool
  /-- the 2 s drain window after a closing of the grout valve (R4) -/
  drainOpen : Bool
deriving DecidableEq, Repr

/-- A contact's debounced state and its count of consecutive reads at the other level (R15, R16). -/
structure Contact where
  active : Bool
  count : Nat
deriving DecidableEq, Repr

structure Contacts where
  seat : Contact
  jackHome : Contact
  flowFault : Contact
  estop : Contact
deriving DecidableEq, Repr

/-! ## Configuration (R189) -/

/-- The figures of SETUP, in the units of R189. The filter lengths live in the channels and the initial mask
in the fault unit as well; they are kept here as accepted. -/
structure Setup where
  station : Nat
  bay : Nat
  row : Nat
  span : Nat
  main : Nat
  concurrency : Nat
  claimLimit : Nat
  cureTime : Nat
  groutAge : Nat
  progress : Progress
  lockedLoad : Nat
  area : Nat
  modulus : Nat
  freeLength : Nat
  bondLength : Nat
  loadLimit : Nat
  strokeLimit : Nat
  loadTolerance : Nat
  rampRate : Nat
  imbalanceLimit : Nat
  driftBand : Nat
  lockTolerance : Nat
  creepLimit : Nat
  gateTimeout : Nat
  filterLoad : Nat
  filterExt : Nat
  filterGp : Nat
  filterGv : Nat
  filterWl : Nat
  filterWt : Nat
  logInterval : Nat
  initialMask : List FaultKind
deriving DecidableEq, Repr

/-! ## Sequence controller (chapter 3) -/

/-- The cure clock (R38), with the tick it has counted towards its next second. -/
structure Cure where
  hours : Nat
  seconds : Nat
  running : Bool
  half : Bool
deriving DecidableEq, Repr

structure Sequencer where
  runState : RunState
  stage : Stage
  progress : Progress
  cure : Cure
  /-- job clock in seconds (R37), and the tick counted towards its next second -/
  jobClock : Nat
  jobHalf : Bool
  /-- held boundary (R40) -/
  held : Option Boundary
  abortMark : Bool
  config : Option Setup
deriving DecidableEq, Repr

/-- The five drives (R53). -/
structure Drives where
  raise : Bool
  lower : Bool
  seating : Bool
  grout : Bool
  winch : Bool
deriving DecidableEq, Repr

/-! ## Winch and grout control (chapter 6) -/

inductive WinchOutcome where
  | inProgress | complete | aborted
deriving DecidableEq, Repr

/-- The winch run record (R101); its drive is the winch drive of `Drives`. -/
structure WinchRecord where
  target : Nat
  snag : Nat
  stallRef : Option Nat
  stallTimer : Nat
  installed : Option Nat
  outcome : WinchOutcome
deriving DecidableEq, Repr

inductive GroutMark where
  | inProgress | complete | refused | part
deriving DecidableEq, Repr

/-- The grout stage record (R108); its volume is the GV pulse count. -/
structure GroutRecord where
  target : Nat
  limit : Nat
  reopen : Nat
  claimsMade : Nat
  throttles : Nat
  mark : GroutMark
deriving DecidableEq, Repr

/-- A grout claim (R96): the notice ticks since it began (its age is half of them) and its throttle count. -/
structure Claim where
  ticks : Nat
  throttles : Nat
deriving DecidableEq, Repr

structure GroutControl where
  record : Option GroutRecord
  phase : GroutPhase
  claim : Option Claim
  /-- notice ticks of the REST period (R97) -/
  restTicks : Nat
  /-- notice ticks of the grout intent interval (R95) -/
  intentTicks : Nat
deriving DecidableEq, Repr

/-! ## Jack control (chapter 7) -/

inductive StepKind where
  | load | unload | lock
deriving DecidableEq, Repr

/-- One step of the stress schedule (R120). -/
structure ScheduleStep where
  kind : StepKind
  target : Nat
  hold : Nat
  datum : Bool
  evaluate : Bool
  extend : Bool
  elastic : Bool
deriving DecidableEq, Repr

inductive LockApproach where
  | none | pending | made
deriving DecidableEq, Repr

/-- The ramp record (R126 to R128). -/
structure Ramp where
  startLoad : Nat
  clock : Nat
  /-- rate history, oldest first, each a filtered LOAD or VOID (R127) -/
  history : List (Option Nat)
  slow : Bool
deriving DecidableEq, Repr

structure Jack where
  schedule : List ScheduleStep
  stepIndex : Nat
  phase : StepPhase
  approach : LockApproach
  /-- none held, or a raw EXT value, or VOID (R132) -/
  datum : Option (Option Nat)
  lockedLoad : Option Nat
  ramp : Ramp
  holdClock : Nat
  /-- current hold length in minutes (R130) -/
  holdLength : Option Nat
  topUp : Bool
  lockOffTimer : Nat
  /-- the second part of an abort's lowering has begun (R49) -/
  lowerSecond : Bool
deriving DecidableEq, Repr

/-! ## Hold evaluator (chapter 8) -/

/-- A computed figure (00_scope.md 4.3): NOT_EVALUATED, VOID or a number. -/
inductive Figure where
  | notEvaluated
  | void
  | value (n : Int)
deriving DecidableEq, Repr

/-- A hold reading (R148). -/
structure Reading where
  index : Nat
  minutes : Nat
  ext : Option Int
  load : Option Nat
deriving DecidableEq, Repr

/-- Step outcomes (R146). -/
inductive StepOutcome where
  | inProgress | extending | done | pass | extendedPass | excess | extendedExcess | void | aborted
deriving DecidableEq, Repr

/-- An entry of the step results table (R146). -/
structure StepEntry where
  index : Nat
  kind : StepKind
  target : Nat
  reached : Option Nat
  plannedHold : Nat
  actualHold : Nat
  readings : List Reading
  k : Figure
  outcome : StepOutcome
  disturbed : Bool
  topUps : Nat
deriving DecidableEq, Repr

inductive LengthOutcome where
  | notEvaluated | pass | short | long | void
deriving DecidableEq, Repr

inductive LockOutcome where
  | none | pass | loss
deriving DecidableEq, Repr

inductive JobStatus where
  | none | running | complete | aborted
deriving DecidableEq, Repr

/-- The job summary (R158, R159). -/
structure JobSummary where
  deltaP : Figure
  deltaS : Figure
  lApp : Figure
  lengthOutcome : LengthOutcome
  lockedLoad : Option Nat
  lockOutcome : LockOutcome
  jobStatus : JobStatus
deriving DecidableEq, Repr

/-- A load and an extension, each possibly VOID (R155). -/
structure LoadExt where
  load : Option Nat
  ext : Option Int
deriving DecidableEq, Repr

structure Evaluator where
  results : List StepEntry
  summary : JobSummary
  peak : Option LoadExt
deriving DecidableEq, Repr

/-! ## Fault unit (chapter 9) -/

/-- The phase field of the taken fault record (R169). -/
inductive WorkPhase where
  | none
  | step (p : StepPhase)
  | grout (p : GroutPhase)
deriving DecidableEq, Repr

/-- The taken fault record (R169). -/
structure TakenFault where
  kind : FaultKind
  detail : Detail
  stage : Stage
  stepIndex : Nat
  phase : WorkPhase
  load : Option Nat
  time : Nat
deriving DecidableEq, Repr

/-- The four holdings of R163. The sets are lists in order of priority with no repeats, so that equal sets
are equal data. -/
structure FaultUnit where
  mask : List FaultKind
  seen : List FaultKind
  pending : List (FaultKind × Detail)
  taken : Option TakenFault
deriving DecidableEq, Repr

/-! ## Wall line interface (chapter 4) -/

/-- The receiver between and within characters (R58). `bits` are the majority values since the start bit,
oldest first, true for dominant; `noisy` says that one of them was a disagreeing bit. -/
inductive LineReceiver where
  | waiting
  | character (bits : List Bool) (noisy : Bool)
  | awaitRecessive
deriving DecidableEq, Repr

/-- The frame being assembled (R59). -/
structure Assembly where
  bytes : List Byte
  noisy : Nat
deriving DecidableEq, Repr

/-- The application in progress (R61): its frame, and whether that frame still stands at the queue's head. -/
structure Applying where
  frame : List Byte
  counted : Bool
deriving DecidableEq, Repr

inductive SlotStatus where
  | waiting
  | backoff
  /-- being sent; the number of bits already sent and read back -/
  | sending (sent : Nat)
deriving DecidableEq, Repr

/-- The notice in the transmit slot (R62). `retry` is cleared by a RESTART during its attempt (R67). -/
structure Slot where
  frame : List Byte
  status : SlotStatus
  retry : Bool
deriving DecidableEq, Repr

structure Line where
  state : LineState
  domRun : Nat
  recRun : Nat
  receiver : LineReceiver
  assembling : Option Assembly
  queue : List (List Byte)
  applying : Option Applying
  slot : Option Slot
  followOn : Bool
  lossCount : Nat
  breakDrive : Bool
  breakBits : Nat
deriving DecidableEq, Repr

/-! ## Neighbour table and wall gates (chapter 5) -/

/-- The six flags of a notice (R57, R81). -/
structure Flags where
  hold : Bool
  drift : Bool
  groutDraw : Bool
  groutPending : Bool
  raisePending : Bool
  locked : Bool
deriving DecidableEq, Repr

/-- A neighbour entry (R74). -/
structure Entry where
  station : Nat
  bay : Nat
  row : Nat
  main : Nat
  phase : NoticePhase
  flags : Flags
  load : Option Nat
  locked : Option Nat
  drawAge : Nat
  sequence : Nat
  age : Nat
  lapsed : Bool
  overstay : Bool
deriving DecidableEq, Repr

structure Table where
  /-- entries in rising station number (R74: they have no order of their own) -/
  entries : List Entry
  ownSequence : Nat
  /-- DRIFT own flag (R139); the other five are computed (R81) -/
  drift : Bool
  /-- notice ticks of the raise intent interval (R86) -/
  raiseTicks : Nat
  /-- gate timer in seconds (R92) -/
  gateTimer : Nat
deriving DecidableEq, Repr

/-! ## Step log (chapter 10) -/

/-- The stage's field of a step record (R177). -/
inductive LogField where
  | meas (load : Option Nat) (ext : Option Int)
  | grout (pressure volume : Option Nat)
  | winch (length tension : Option Nat)
deriving DecidableEq, Repr

/-- Event codes (R179). -/
inductive EventCode where
  | stageStart | stageEnd | stepStart | phase | gateBackoff | claimStart | claimEnd | throttle
  | faultTaken | stop | resume | pause | abort | reading | locked
deriving DecidableEq, Repr

/-- A stored step record (R177). It always carries TIME and never EMPTY. -/
structure LogRecord where
  field : Option LogField
  time : Nat
  event : Option (EventCode × Nat)
  gap : Bool
  refilled : Bool
deriving DecidableEq, Repr

/-! ## Pendant port (chapter 11) -/

/-- WAITING, or RECEIVING with the bytes received after the start character (R185). -/
inductive PendantReceiver where
  | waiting
  | receiving (bytes : List Byte)
deriving DecidableEq, Repr

/-- The reply in progress (R187, R188); `sending` while the driver is on. -/
structure Reply where
  code : Byte
  outcome : Nat
  argument : Nat
  body : List Byte
  sending : Bool
deriving DecidableEq, Repr

structure Port where
  receiver : PendantReceiver
  /-- request buffer: code and body (R186) -/
  buffer : Option (Byte × List Byte)
  reply : Option Reply
  overlap : Bool
  /-- the model's own: the bytes of the last reply sent (log 21) -/
  lastSent : Option (List Byte)
deriving DecidableEq, Repr

/-! ## The station -/

structure State where
  chans : Channels
  contacts : Contacts
  seq : Sequencer
  drives : Drives
  winch : Option WinchRecord
  grout : GroutControl
  jack : Jack
  eval : Evaluator
  faults : FaultUnit
  line : Line
  table : Table
  log : List LogRecord
  port : Port
  /-- the model's own: how often an order left open has been asked for (log 8) -/
  freeCount : Nat
  /-- the model's own: the commands that wait, first in first out (log 2) -/
  pending : List Instr
deriving DecidableEq, Repr

/-- A fault that stops the model: there is none. The block's fault kinds (R162) are states of the block, and
every command answers a next state; this is safe, since nothing is left out by stopping. -/
inductive Fault where
deriving DecidableEq, Repr

/-- Why a command is turned away by the model. -/
inductive Refusal where
  /-- raised by an arm of exec whose command has no meaning yet: there is none. Safe: the model stops. -/
  | notModelled (mnemonic : String)
deriving DecidableEq, Repr

/-- A channel after power-up (R17). -/
def Channel.reset : Channel :=
  { filterLen := 8, window := [], voidRun := 0, refilled := false, lostBefore := false }

/-- A contact after power-up (R15, R16, R17). -/
def Contact.reset : Contact := { active := false, count := 0 }

/-- A cleared ramp record (R119). -/
def Ramp.cleared : Ramp := { startLoad := 0, clock := 0, history := [], slow := false }

/-- A cleared job summary (R145). -/
def JobSummary.cleared : JobSummary :=
  { deltaP := .notEvaluated, deltaS := .notEvaluated, lApp := .notEvaluated,
    lengthOutcome := .notEvaluated, lockedLoad := none, lockOutcome := .none, jobStatus := .none }

/-- All five drives shut or off (R53). -/
def Drives.off : Drives :=
  { raise := false, lower := false, seating := false, grout := false, winch := false }

/-- The station right after power-up: R17, R32, R73, R100, R101, R108, R119, R145, R175, R176, R188. What the
manual only implies (half seconds, previous sample events, driven bit times) starts at none (log 29). -/
def State.reset : State where
  chans :=
    { load := .reset, ext := .reset, gp := .reset, gv := .reset, wl := .reset, wt := .reset,
      driftLostBefore := false, gvCount := 0, gvOver := false, drainOpen := false }
  contacts := { seat := .reset, jackHome := .reset, flowFault := .reset, estop := .reset }
  seq :=
    { runState := .unconfigured, stage := .none, progress := .none,
      cure := { hours := 0, seconds := 0, running := false, half := false },
      jobClock := 0, jobHalf := false, held := none, abortMark := false, config := none }
  drives := .off
  winch := none
  grout := { record := none, phase := .none, claim := none, restTicks := 0, intentTicks := 0 }
  jack :=
    { schedule := [], stepIndex := 0, phase := .none, approach := .none, datum := none,
      lockedLoad := none, ramp := .cleared, holdClock := 0, holdLength := none, topUp := false,
      lockOffTimer := 0, lowerSecond := false }
  eval := { results := [], summary := .cleared, peak := none }
  faults := { mask := [], seen := [], pending := [], taken := none }
  line :=
    { state := .busy, domRun := 0, recRun := 0, receiver := .waiting, assembling := none, queue := [],
      applying := none, slot := none, followOn := false, lossCount := 0, breakDrive := false,
      breakBits := 0 }
  table := { entries := [], ownSequence := 0, drift := false, raiseTicks := 0, gateTimer := 0 }
  log := []
  port := { receiver := .waiting, buffer := none, reply := none, overlap := false, lastSent := none }
  freeCount := 0
  pending := []

end Sys2Proof.Machine
end

