-- ==== Sys2Proof/Machine/Ops.lean ====
section
/-!
DEFINITION. The named operations that several blocks share: numbers and bytes, the frame check, sets of fault
kinds, the channel filter, readings of channels, and the order that the manual leaves open.
-/
namespace Sys2Proof.Machine

/-! ## Numbers and bytes (R193, 00_scope.md 4.5) -/

/-- The low `n` bytes of `v`, most significant first (R193). -/
def beBytes : Nat → Nat → List Byte
  | 0, _ => []
  | n + 1, v => BitVec.ofNat 8 (v / 256 ^ n) :: beBytes n v

/-- The number whose bytes these are, most significant first (R193). -/
def beNat (bytes : List Byte) : Nat := bytes.foldl (fun acc b => acc * 256 + b.toNat) 0

/-- Bytes `start` to `start + n - 1` of a body as a number. -/
def fieldAt (body : List Byte) (start n : Nat) : Nat := beNat ((body.drop start).take n)

/-- Bit `i` of a number. -/
def bitOf (v i : Nat) : Bool := (v / 2 ^ i) % 2 == 1

/-- `num ÷ den` rounded half up, for a positive `den`. -/
def roundHalfUp (num : Int) (den : Nat) : Int := (2 * num + den) / (2 * den)

/-- `num ÷ den` rounded to nearest, ties away from zero, for a positive `den` (R151). -/
def roundTiesAway (num : Int) (den : Nat) : Int :=
  let q := (2 * num.natAbs + den) / (2 * den)
  if num < 0 then -(q : Int) else q

/-- `v` kept within `lo` to `hi`. -/
def clampInt (lo hi v : Int) : Int := max lo (min hi v)

/-! ## The frame check (R57) -/

/-- One bit of the register: shift left, and take in the polynomial x^16 + x^12 + x^5 + 1 when a 1 leaves. -/
def crcShift (r : BitVec 16) : BitVec 16 :=
  if r.msb then (r <<< 1) ^^^ 0x1021#16 else r <<< 1

/-- One byte, most significant bit first. -/
def crcByte (r : BitVec 16) (b : Byte) : BitVec 16 :=
  let r := r ^^^ (b.zeroExtend 16 <<< 8)
  crcShift (crcShift (crcShift (crcShift (crcShift (crcShift (crcShift (crcShift r)))))))

/-- CRC-16 over the bytes: register all ones at the start, result neither reflected nor inverted (R57). -/
def crc16 (bytes : List Byte) : BitVec 16 := bytes.foldl crcByte 0xFFFF#16

/-- The two bytes of the check, high-order byte first (R57, R185). -/
def crcBytes (bytes : List Byte) : List Byte := beBytes 2 (crc16 bytes).toNat

/-! ## Fault kinds and sets of them (R162, R163) -/

/-- Every kind, in order of priority (R162). -/
def FaultKind.all : List FaultKind :=
  [.wallStop, .loadLimit, .strokeEnd, .seatFail, .channelLost, .winchSnag, .voidTest, .groutRefusal,
   .creepExcess, .lengthOut, .lockLoss, .gateTimeout, .anchorDrift, .neighbourLost, .rateSlow, .lineFault]

/-- The fixed priority of a kind, 1 the highest (R162); it is the kind's code too (R199). -/
def FaultKind.priority : FaultKind → Nat
  | .wallStop => 1 | .loadLimit => 2 | .strokeEnd => 3 | .seatFail => 4 | .channelLost => 5
  | .winchSnag => 6 | .voidTest => 7 | .groutRefusal => 8 | .creepExcess => 9 | .lengthOut => 10
  | .lockLoss => 11 | .gateTimeout => 12 | .anchorDrift => 13 | .neighbourLost => 14
  | .rateSlow => 15 | .lineFault => 16

/-- The ten kinds of class maskable (R162). -/
def FaultKind.maskable (k : FaultKind) : Bool := 7 ≤ k.priority

/-- A set with one more kind; a kind already in leaves it as it stands (R163). -/
def insertKind (k : FaultKind) (set : List FaultKind) : List FaultKind :=
  FaultKind.all.filter fun j => j == k || set.contains j

/-- The pending set with one more kind and its detail. A kind already pending keeps its detail (R163). -/
def insertPending (k : FaultKind) (d : Detail) :
    List (FaultKind × Detail) → List (FaultKind × Detail)
  | [] => [(k, d)]
  | (j, e) :: rest =>
    if k.priority < j.priority then (k, d) :: (j, e) :: rest
    else if k = j then (j, e) :: rest
    else (j, e) :: insertPending k d rest

/-- The maskable kinds whose marks are set in a two-byte set of kinds (R173, R193). -/
def maskOf (v : Nat) : List FaultKind :=
  FaultKind.all.filter fun k => k.maskable && bitOf v (k.priority - 1)

/-! ## Samples and the filter (R3 to R11) -/

/-- The six channels (R2). -/
def ChannelName.all : List ChannelName := [.load, .ext, .gp, .gv, .wl, .wt]

/-- The top of a channel's range (R2). -/
def ChannelName.top : ChannelName → Nat
  | .load => 60000 | .ext => 250000 | .gp => 10000 | .gv => 999999 | .wl => 80000 | .wt => 500

/-- The sample of a loop current in nA on a channel with range top `top` (R3); none is VOID. -/
def loopSample (top nanoamp : Nat) : Option Sample :=
  if nanoamp < 3600000 || 21000000 < nanoamp then none
  else
    let v := roundHalfUp (((nanoamp : Int) - 4000000) * top) 16000000
    if v < 0 then some { value := 0, overMark := true }
    else if (top : Int) < v then some { value := top, overMark := true }
    else some { value := v.toNat, overMark := false }

/-- The filtered value: the mean of a full window rounded half up, VOID while it is not full (R7). -/
def Channel.value (c : Channel) : Option Nat :=
  if c.window.length = c.filterLen then
    some (((c.window.map Sample.value).sum + c.filterLen / 2) / c.filterLen)
  else none

/-- The OVER indication (R10); false beside a VOID value. -/
def Channel.overShown (c : Channel) : Bool := c.value.isSome && c.window.any Sample.overMark

/-- The window after one sample: the oldest leaves a full window (R7), a VOID sample empties it (R8). -/
def windowAfter (len : Nat) (window : List Sample) : Option Sample → List Sample
  | none => []
  | some x =>
    let w := window ++ [x]
    w.drop (w.length - len)

/-- A channel after one sample: window (R7, R8), REFILLED mark on a turn from VOID to valid (R11), void-run
count (R12). -/
def Channel.take (c : Channel) (x : Option Sample) : Channel :=
  let d := { c with window := windowAfter c.filterLen c.window x }
  { d with
    refilled := c.refilled || (c.value.isNone && d.value.isSome)
    voidRun := if d.value.isNone then min (c.voidRun + 1) Config.lostCount else 0 }

/-- A filter restart (R9). -/
def Channel.restart (c : Channel) : Channel :=
  { c with window := [], voidRun := 0, refilled := false }

/-- A channel at the acceptance of SETUP: only a length other than 8 restarts it (R6). -/
def Channel.configure (len : Nat) (c : Channel) : Channel :=
  if len = 8 then c else { c.restart with filterLen := len }

/-! ## Contacts (R15, R16) -/

/-- One read of SEAT, JACK_HOME or FLOW_FAULT: the third consecutive read at the new level changes it (R15). -/
def Contact.read (closed : Bool) (c : Contact) : Contact :=
  if closed = c.active then { c with count := 0 }
  else if 3 ≤ c.count + 1 then { active := closed, count := 0 }
  else { c with count := c.count + 1 }

/-- One read of ESTOP: active at once, inactive after 25 consecutive inactive reads (R16). -/
def Contact.readEstop (isOpen : Bool) (c : Contact) : Contact :=
  if isOpen then { active := true, count := 0 }
  else if c.active then
    if 25 ≤ c.count + 1 then { active := false, count := 0 } else { c with count := c.count + 1 }
  else { c with count := 0 }

/-! ## Reading the state -/

/-- The channel of a name. -/
def State.chan (s : State) : ChannelName → Channel
  | .load => s.chans.load | .ext => s.chans.ext | .gp => s.chans.gp
  | .gv => s.chans.gv | .wl => s.chans.wl | .wt => s.chans.wt

/-- The channels with one of them changed. -/
def Channels.update (f : Channel → Channel) (cs : Channels) : ChannelName → Channels
  | .load => { cs with load := f cs.load } | .ext => { cs with ext := f cs.ext }
  | .gp => { cs with gp := f cs.gp } | .gv => { cs with gv := f cs.gv }
  | .wl => { cs with wl := f cs.wl } | .wt => { cs with wt := f cs.wt }

/-- The state with one channel changed. -/
def State.updateChan (s : State) (c : ChannelName) (f : Channel → Channel) : State :=
  { s with chans := s.chans.update f c }

/-- The filtered value of a channel; none is VOID. -/
def State.filtered (s : State) (c : ChannelName) : Option Nat := (s.chan c).value

/-- A figure of the configuration; `d` before SETUP, where no rule asks for one. -/
def State.cfg {α : Type} (s : State) (f : Setup → α) (d : α) : α := (s.seq.config.map f).getD d

/-- The current step of the schedule (R119). -/
def State.currentStep (s : State) : Option ScheduleStep :=
  if s.jack.stepIndex = 0 then none else s.jack.schedule[s.jack.stepIndex - 1]?

/-- The step target: the current step's, which in a LOCK step is the lock target (R27). -/
def State.stepTarget (s : State) : Nat := (s.currentStep.map ScheduleStep.target).getD 0

/-- The datum target: step 1's target (R27). -/
def State.datumTarget (s : State) : Nat := (s.jack.schedule.head?.map ScheduleStep.target).getD 0

/-- Whether a stage is active (R32). -/
def State.stageActive (s : State) : Bool := s.seq.stage != .none

/-- The extension used in arithmetic, readings and MEAS fields: relative to the datum extension while one is
held, raw while none is, VOID where either is (R14). -/
def State.extension (s : State) : Option Int :=
  match s.jack.datum with
  | none => (s.filtered .ext).map Int.ofNat
  | some none => none
  | some (some d) => (s.filtered .ext).map fun e => (e : Int) - (d : Int)

/-! ## An order left open -/

/-- Two reactions of one moment, either of which may act first (R25, R168, R172, R181). Where both orders end
alike there is nothing to choose; where they do not, the free value chooses, a fresh one at each choice
(log 8). -/
def eitherOrder (f g : State → State) (s : State) : State :=
  if g (f s) = f (g s) then g (f s)
  else
    let n := max (g (f s)).freeCount (f (g s)).freeCount
    if Config.freeOrder n then { g (f s) with freeCount := n + 1 }
    else { f (g s) with freeCount := n + 1 }

end Sys2Proof.Machine
end

