-- ==== Sys2Proof/Machine/Flags.lean ====
section
/-!
DEFINITION. What is computed from the state at the moment of asking: the comparator and the named tests
(chapter 2), the notice phase (R52), the own flags (R81), the needed channels (R12), and where each drive
may work (R53).
-/
namespace Sys2Proof.Machine

/-! ## The comparator and the named tests -/

/-- The four conditions (R18). -/
inductive Condition where
  | below | within | above | void
deriving DecidableEq, Repr

/-- A comparison of `v` with the band from `t - d` to `t + d`: signed and exact (R18). -/
def compare (v : Option Int) (t d : Int) : Condition :=
  match v with
  | none => .void
  | some v => if v < t - d then .below else if t + d < v then .above else .within

/-- A filtered value or load against a target, both unsigned. -/
def compareNat (v : Option Nat) (t d : Nat) : Condition := compare (v.map Int.ofNat) t d

/-- The seven named tests (R20); OVER is `overTest`. -/
inductive Test where
  | reached | short | overTest | inband | clear | out | present
deriving DecidableEq, Repr

/-- The aware form: R20's table, and false on VOID (R21). -/
def Test.holds : Test → Condition → Bool
  | _, .void => false
  | .reached, c => c == .within || c == .above
  | .short, c => c == .below
  | .overTest, c => c == .above
  | .inband, c => c == .within
  | .clear, c => c == .below || c == .within
  | .out, c => c == .below || c == .above
  | .present, _ => true

/-! ## Notice phase and own flags -/

/-- The notice phase of R52. -/
def State.noticePhase (s : State) : NoticePhase :=
  match s.seq.runState, s.seq.stage, s.jack.phase with
  | .unconfigured, _, _ => .quiet
  | .idle, _, _ => .quiet
  | .stopped, .none, _ => .quiet
  | .stopped, _, _ => .halted
  | .faulted, _, _ => .halted
  | .aborting, _, _ => .lowering
  | .running, .winch, _ => .winching
  | .running, .grout, _ => .grouting
  | .running, .stress, .raiseWait => .stressWait
  | .running, .stress, .raiseIntent => .stressWait
  | .running, .stress, .rampUp => .raising
  | .running, .stress, .hold => .holding
  | .running, .stress, .rampDown => .lowering
  | .running, .stress, .seating => .seating
  | .running, .stress, .release => .seating
  | .running, .stress, .settle => .seating
  | .running, .stress, .none => .stressWait
  | .running, .none, _ => .quiet
  | .paused, .stress, .hold => .holding
  | .paused, _, _ => .halted

/-- The own flags of R81, each from the state it reflects. -/
def State.ownFlags (s : State) : Flags where
  hold := (s.seq.runState == .faulted || s.seq.runState == .stopped) && s.seq.stage == .stress
  drift := s.table.drift
  groutDraw := s.grout.claim.isSome
  groutPending := s.grout.phase == .intent
  raisePending := s.jack.phase == .raiseIntent
  locked := s.seq.progress == .locked

/-! ## Needed channels -/

/-- Whether the station's stage and run state need a channel (R12). -/
def State.needed (s : State) (c : ChannelName) : Bool :=
  (s.seq.runState == .running || s.seq.runState == .paused || s.seq.runState == .aborting) &&
  match s.seq.stage with
  | .winch => c == .wl || c == .wt
  | .grout => c == .gp || c == .gv
  | .stress => c == .load || c == .ext
  | .none => false

/-- A channel that is needed and whose void-run count stands at its end (R12). -/
def State.standsLost (s : State) (c : ChannelName) : Bool :=
  decide ((s.chan c).voidRun = Config.lostCount) && s.needed c

/-- The drift watch is in force: LOCKED, no stage, after SETUP (R13, R139). -/
def State.driftWatched (s : State) : Bool :=
  s.seq.config.isSome && s.seq.progress == .locked && s.seq.stage == .none

/-! ## Drives (R53) -/

/-- Where the raise valve may be open. -/
def State.raiseAllowed (s : State) : Bool :=
  s.seq.stage == .stress &&
  ((s.seq.runState == .running && s.jack.phase == .rampUp) ||
   ((s.seq.runState == .running || s.seq.runState == .paused) && s.jack.phase == .hold))

/-- Where the lower valve may be open. -/
def State.lowerAllowed (s : State) : Bool :=
  s.seq.stage == .stress &&
  (s.seq.runState == .aborting ||
   (s.seq.runState == .running && (s.jack.phase == .rampDown || s.jack.phase == .release)))

/-- Where the seating drive may be on. -/
def State.seatingAllowed (s : State) : Bool :=
  s.seq.stage == .stress && s.seq.runState == .running && s.jack.phase == .seating

/-- Where the grout valve may be open: in DRAW, RUNNING, while a claim is held (R53, R96). -/
def State.groutAllowed (s : State) : Bool :=
  s.seq.stage == .grout && s.seq.runState == .running && s.grout.phase == .draw &&
  s.grout.claim.isSome

/-- Where the winch drive may be on. -/
def State.winchAllowed (s : State) : Bool :=
  s.seq.stage == .winch && s.seq.runState == .running

/-- Close the grout valve; a closing opens the GV drain window (R4). -/
def closeGrout (s : State) : State :=
  if s.drives.grout then
    { s with drives := { s.drives with grout := false }, chans := { s.chans with drainOpen := true } }
  else s

/-- Open the grout valve; the counting window is then open by the valve (R4). -/
def openGrout (s : State) : State :=
  { s with drives := { s.drives with grout := true }, chans := { s.chans with drainOpen := false } }

/-- A change of run state or phase that takes a drive out of the row where it works shuts it (R53). -/
def enforceDrives (s : State) : State :=
  let s := if s.groutAllowed then s else closeGrout s
  { s with
    drives :=
      { s.drives with
        raise := s.drives.raise && s.raiseAllowed
        lower := s.drives.lower && s.lowerAllowed
        seating := s.drives.seating && s.seatingAllowed
        winch := s.drives.winch && s.winchAllowed } }

end Sys2Proof.Machine
end

