-- ==== Sys2Proof/Machine/Formats.lean ====
section
/-!
DEFINITION. The codes of named values (R199) and the byte layouts that a pendant or a peer station sees
(R187, R193, R195 to R198).
-/
namespace Sys2Proof.Machine

/-! ## Codes (R199) -/

def RunState.code : RunState → Nat
  | .unconfigured => 0 | .idle => 1 | .running => 2 | .paused => 3 | .faulted => 4 | .stopped => 5
  | .aborting => 6

def Stage.code : Stage → Nat
  | .none => 0 | .winch => 1 | .grout => 2 | .stress => 3

def Progress.code : Progress → Nat
  | .none => 0 | .winched => 1 | .grouted => 2 | .locked => 3

def StepPhase.code : StepPhase → Nat
  | .none => 0 | .raiseWait => 1 | .raiseIntent => 2 | .rampUp => 3 | .hold => 4 | .rampDown => 5
  | .seating => 6 | .release => 7 | .settle => 8

def GroutPhase.code : GroutPhase → Nat
  | .none => 0 | .wait => 1 | .intent => 2 | .draw => 3 | .throttled => 4 | .rest => 5

def NoticePhase.code : NoticePhase → Nat
  | .quiet => 0 | .winching => 1 | .grouting => 2 | .stressWait => 3 | .raising => 4 | .holding => 5
  | .lowering => 6 | .seating => 7 | .halted => 8

/-- The notice phase of a code; none for an undefined one. -/
def noticePhaseOf : Nat → Option NoticePhase
  | 0 => some .quiet | 1 => some .winching | 2 => some .grouting | 3 => some .stressWait
  | 4 => some .raising | 5 => some .holding | 6 => some .lowering | 7 => some .seating
  | 8 => some .halted | _ => none

def LineState.code : LineState → Nat
  | .idle => 0 | .busy => 1 | .broken => 2

/-- A status condition: NO_TARGET (none) or one of the comparator's four (R31). -/
def conditionCode : Option Condition → Nat
  | none => 0 | some .below => 1 | some .within => 2 | some .above => 3 | some .void => 4

def ChannelName.code : ChannelName → Nat
  | .load => 1 | .ext => 2 | .gp => 3 | .gv => 4 | .wl => 5 | .wt => 6

def Detail.code : Detail → Nat
  | .none => 0
  | .channel c => c.code
  | .creep => 7 | .length => 8
  | .seat => 1 | .release => 2
  | .tension => 1 | .stall => 2
  | .short => 1 | .long => 2
  | .band => 1 | .loadVoid => 2
  | .check => 1 | .overrun => 2 | .blocked => 3 | .clash => 4 | .malformed => 5 | .tableFull => 6
  | .station n => n

def EventCode.code : EventCode → Nat
  | .stageStart => 1 | .stageEnd => 2 | .stepStart => 3 | .phase => 4 | .gateBackoff => 5
  | .claimStart => 6 | .claimEnd => 7 | .throttle => 8 | .faultTaken => 9 | .stop => 10
  | .resume => 11 | .pause => 12 | .abort => 13 | .reading => 14 | .locked => 15

/-- Arguments of STAGE_END and of CLAIM_END. -/
def argComplete : Nat := 1
def argRefused : Nat := 2
def argAborted : Nat := 3
def claimByLimit : Nat := 1
def claimByVolume : Nat := 2
def claimByRefusal : Nat := 3
def claimByFault : Nat := 4
def claimByAbort : Nat := 5

def StepKind.code : StepKind → Nat
  | .load => 1 | .unload => 2 | .lock => 3

def StepOutcome.code : StepOutcome → Nat
  | .inProgress => 0 | .extending => 1 | .done => 2 | .pass => 3 | .extendedPass => 4 | .excess => 5
  | .extendedExcess => 6 | .void => 7 | .aborted => 8

def LengthOutcome.code : LengthOutcome → Nat
  | .notEvaluated => 0 | .pass => 1 | .short => 2 | .long => 3 | .void => 4

def LockOutcome.code : LockOutcome → Nat
  | .none => 0 | .pass => 1 | .loss => 2

def JobStatus.code : JobStatus → Nat
  | .none => 0 | .running => 1 | .complete => 2 | .aborted => 3

def WinchOutcome.code : WinchOutcome → Nat
  | .inProgress => 1 | .complete => 2 | .aborted => 3

def GroutMark.code : GroutMark → Nat
  | .inProgress => 1 | .complete => 2 | .refused => 3 | .part => 4

def WorkPhase.code : WorkPhase → Nat
  | .none => 0 | .step p => p.code | .grout p => p.code

/-! ## Fields (R193) -/

/-- An unsigned field of `n` bytes that can hold VOID or none: all ones. -/
def optField (n : Nat) (v : Option Nat) : List Byte := beBytes n (v.getD (256 ^ n - 1))

/-- A signed field of `n` bytes in sign and magnitude. -/
def signedField (n : Nat) (v : Int) : List Byte :=
  beBytes n (if v < 0 then 256 ^ n / 2 + v.natAbs else v.natAbs)

/-- A signed field that can hold VOID. -/
def optSignedField (n : Nat) : Option Int → List Byte
  | none => beBytes n (256 ^ n - 1)
  | some v => signedField n v

/-- A signed computed figure: NOT_EVALUATED is negative zero. -/
def figureSigned (n : Nat) : Figure → List Byte
  | .notEvaluated => beBytes n (256 ^ n / 2)
  | .void => beBytes n (256 ^ n - 1)
  | .value v => signedField n v

/-- The unsigned L_app figure: NOT_EVALUATED is all ones less one. -/
def figureUnsigned (n : Nat) : Figure → List Byte
  | .notEvaluated => beBytes n (256 ^ n - 2)
  | .void => beBytes n (256 ^ n - 1)
  | .value v => beBytes n v.toNat

/-- A set of fault kinds: priority p at bit p - 1 of two bytes. -/
def kindSet (ks : List FaultKind) : List Byte :=
  beBytes 2 ((ks.map fun k => 2 ^ (k.priority - 1)).sum)

/-- The flags byte of a notice (R195). -/
def Flags.byte (f : Flags) : Nat :=
  f.hold.toNat + 2 * f.drift.toNat + 4 * f.groutDraw.toNat + 8 * f.groutPending.toNat +
  16 * f.raisePending.toNat + 32 * f.locked.toNat

/-- The flags of a byte; positions that name no flag are ignored (R76). -/
def flagsOf (v : Nat) : Flags where
  hold := bitOf v 0
  drift := bitOf v 1
  groutDraw := bitOf v 2
  groutPending := bitOf v 3
  raisePending := bitOf v 4
  locked := bitOf v 5

/-- A two-byte field in which all ones is VOID. -/
def voidable (v : Nat) : Option Nat := if v = 65535 then none else some v

/-! ## The notice (R82, R195) -/

/-- The claim age in seconds: one for every second notice tick of the claim (R96). -/
def Claim.age (c : Claim) : Nat := c.ticks / 2

/-- The claim age of the station, 0 with no claim. -/
def State.claimAge (s : State) : Nat := (s.grout.claim.map Claim.age).getD 0

/-- The thirteen bytes that the frame check covers, as they stand at placement. -/
def noticeData (s : State) : List Byte :=
  beBytes 1 (s.cfg Setup.station 0) ++ beBytes 2 (s.cfg Setup.bay 0) ++
  beBytes 1 (s.cfg Setup.row 0 * 16 + s.cfg Setup.main 0) ++
  beBytes 1 s.noticePhase.code ++ beBytes 1 s.ownFlags.byte ++
  optField 2 (s.filtered .load) ++
  beBytes 2 (if s.ownFlags.locked then s.jack.lockedLoad.getD 0 else 0) ++
  beBytes 2 (if s.ownFlags.groutDraw then s.claimAge else 0) ++
  beBytes 1 s.table.ownSequence

/-- The fifteen bytes of the notice frame, its check last (R57). -/
def formNotice (s : State) : List Byte := noticeData s ++ crcBytes (noticeData s)

/-! ## Step records (R177, R197) -/

/-- The size of a record in bytes (R177). -/
def LogRecord.size (r : LogRecord) : Nat :=
  1 + (if r.field.isSome then 5 else 0) + 3 + (if r.event.isSome then 2 else 0)

/-- The header byte (R197). -/
def LogRecord.header (r : LogRecord) : Nat :=
  (match r.field with
   | some (.meas _ _) => 128
   | some (.grout _ _) => 64
   | some (.winch _ _) => 32
   | none => 0) +
  16 + (if r.event.isSome then 8 else 0) + 4 * r.gap.toNat + 2 * r.refilled.toNat

def LogField.bytes : LogField → List Byte
  | .meas load ext => optField 2 load ++ optSignedField 3 ext
  | .grout p v => optField 2 p ++ optField 3 v
  | .winch l t => optField 3 l ++ optField 2 t

/-- A record as the pendant receives it. -/
def LogRecord.bytes (r : LogRecord) : List Byte :=
  beBytes 1 r.header ++ (r.field.map LogField.bytes).getD [] ++ beBytes 3 r.time ++
  match r.event with
  | none => []
  | some (e, a) => beBytes 1 e.code ++ beBytes 1 a

/-- The log bytes used (R176). -/
def logUsed (log : List LogRecord) : Nat := (log.map LogRecord.size).sum

/-! ## Neighbour entries (R75, R196) -/

/-- The bay distance from the own bay (R75). -/
def State.bayDistance (s : State) (e : Entry) : Nat :=
  let own := s.cfg Setup.bay 0
  (own - e.bay) + (e.bay - own)

/-- Whether an entry is in span, worked out afresh (R75). -/
def State.inSpan (s : State) (e : Entry) : Bool := s.bayDistance e ≤ s.cfg Setup.span 0

def entryBytes (s : State) (e : Entry) : List Byte :=
  beBytes 1 e.station ++ beBytes 2 e.bay ++ beBytes 1 (e.row * 16 + e.main) ++
  beBytes 1 e.phase.code ++ beBytes 1 e.flags.byte ++ optField 2 e.load ++ optField 2 e.locked ++
  beBytes 2 e.drawAge ++ beBytes 1 e.sequence ++ beBytes 1 e.age ++
  beBytes 1 (e.lapsed.toNat + 2 * e.overstay.toNat + 4 * (s.inSpan e).toNat)

/-! ## Results (R198) -/

def readingBytes (r : Reading) : List Byte :=
  beBytes 1 r.index ++ beBytes 1 r.minutes ++ optSignedField 3 r.ext ++ optField 2 r.load

def stepEntryBytes (e : StepEntry) : List Byte :=
  beBytes 1 e.index ++ beBytes 1 e.kind.code ++ beBytes 2 e.target ++ optField 2 e.reached ++
  beBytes 1 e.plannedHold ++ beBytes 3 e.actualHold ++ figureSigned 3 e.k ++
  beBytes 1 e.outcome.code ++ beBytes 1 e.disturbed.toNat ++ beBytes 2 e.topUps ++
  beBytes 1 e.readings.length ++ (e.readings.map readingBytes).flatten

def summaryBytes (j : JobSummary) : List Byte :=
  figureSigned 3 j.deltaP ++ figureSigned 3 j.deltaS ++ figureUnsigned 3 j.lApp ++
  beBytes 1 j.lengthOutcome.code ++ optField 2 j.lockedLoad ++ beBytes 1 j.lockOutcome.code ++
  beBytes 1 j.jobStatus.code

/-! ## Status record (R31, R195) -/

/-- The target and tolerance that the status record compares a channel's filtered value with; none where
no row of R31 applies. -/
def State.statusTarget (s : State) (c : ChannelName) : Option (Nat × Nat) :=
  match s.seq.config with
  | none => none
  | some g =>
    match c with
    | .load =>
      match s.seq.stage with
      | .stress =>
        if s.seq.abortMark then some (s.datumTarget, g.loadTolerance)
        else
          match s.jack.phase with
          | .seating | .release | .settle => some (s.stepTarget, g.lockTolerance)
          | .raiseWait | .raiseIntent | .rampUp | .hold | .rampDown =>
            some (s.stepTarget, g.loadTolerance)
          | .none => some (g.loadLimit, 0)
      | .none =>
        if s.seq.progress = .locked then some (s.jack.lockedLoad.getD 0, g.driftBand)
        else some (g.loadLimit, 0)
      | .winch | .grout => some (g.loadLimit, 0)
    | .ext => some (g.strokeLimit, 0)
    | .gp =>
      if s.seq.stage = .grout then
        match s.grout.phase, s.grout.record with
        | .draw, some r => some (r.limit, 0)
        | .throttled, some r => some (r.reopen, 0)
        | _, _ => none
      else none
    | .gv => if s.seq.stage = .grout then s.grout.record.map fun r => (r.target, 0) else none
    | .wl => if s.seq.stage = .winch then s.winch.map fun r => (r.target, 0) else none
    | .wt => if s.seq.stage = .winch then s.winch.map fun r => (r.snag, 0) else none

/-- The condition the status record reports for a channel; none is NO_TARGET (R31). -/
def State.statusCondition (s : State) (c : ChannelName) : Option Condition :=
  (s.statusTarget c).map fun td => compareNat (s.filtered c) td.1 td.2

def channelByte (s : State) (c : ChannelName) : List Byte :=
  beBytes 1 (conditionCode (s.statusCondition c) + 128 * (s.chan c).overShown.toNat)

/-- The taken fault record; with none taken every byte is 0, the load among them (log 47). -/
def takenBytes : Option TakenFault → List Byte
  | none => beBytes 10 0
  | some t =>
    beBytes 1 t.kind.priority ++ beBytes 1 t.detail.code ++ beBytes 1 t.stage.code ++
    beBytes 1 t.stepIndex ++ beBytes 1 t.phase.code ++ optField 2 t.load ++ beBytes 3 t.time

def winchBytes : Option WinchRecord → List Byte
  | none => optField 3 none ++ optField 3 none ++ beBytes 1 0
  | some w => beBytes 3 w.target ++ optField 3 w.installed ++ beBytes 1 w.outcome.code

/-- The grout stage record; the claim's throttle count is 0 while no claim is held (log 46). -/
def groutBytes (s : State) : List Byte :=
  match s.grout.record with
  | none => beBytes 13 0
  | some r =>
    beBytes 3 r.target ++ beBytes 2 r.limit ++ beBytes 3 s.chans.gvCount ++
    beBytes 1 ((s.grout.claim.map Claim.throttles).getD 0) ++ beBytes 1 r.claimsMade ++
    beBytes 2 r.throttles ++ beBytes 1 r.mark.code

/-- The status record of 78 bytes (R195). -/
def statusRecord (s : State) : List Byte :=
  beBytes 1 s.seq.runState.code ++ beBytes 1 s.seq.stage.code ++ beBytes 1 s.seq.progress.code ++
  beBytes 1 s.jack.stepIndex ++ beBytes 1 s.jack.phase.code ++ beBytes 1 s.grout.phase.code ++
  optField 2 (s.filtered .load) ++ optField 3 (s.filtered .ext) ++ optField 2 (s.filtered .gp) ++
  optField 3 (s.filtered .gv) ++ optField 3 (s.filtered .wl) ++ optField 2 (s.filtered .wt) ++
  channelByte s .load ++ channelByte s .ext ++ channelByte s .gp ++ channelByte s .gv ++
  channelByte s .wl ++ channelByte s .wt ++
  beBytes 1 s.ownFlags.byte ++ beBytes 1 s.noticePhase.code ++ beBytes 1 s.line.state.code ++
  takenBytes s.faults.taken ++
  kindSet (s.faults.pending.map Prod.fst) ++ kindSet s.faults.seen ++ kindSet s.faults.mask ++
  beBytes 1 s.table.entries.length ++ beBytes 2 (logUsed s.log) ++
  beBytes 2 s.seq.cure.hours ++ beBytes 3 (if s.jack.phase = .hold then s.jack.holdClock else 0) ++
  beBytes 2 s.claimAge ++
  winchBytes s.winch ++ groutBytes s ++ optField 2 s.jack.lockedLoad

/-! ## Replies (R187) -/

/-- A reply frame, with its flags byte as it is sent. -/
def replyFrame (r : Reply) (overlap : Bool) : List Byte :=
  let data :=
    beBytes 2 (4 + r.body.length) ++ [r.code] ++ beBytes 1 r.outcome ++ beBytes 1 r.argument ++
    r.body ++ beBytes 1 overlap.toNat
  beBytes 1 195 ++ data ++ crcBytes data

end Sys2Proof.Machine
end

