-- ==== Sys2Proof/Machine/StepLog.lean ====
section
/-!
DEFINITION. Writing and reading the step log (chapter 10): records, REFILLED, overflow, READ_LOG.
-/
namespace Sys2Proof.Machine

/-- Discard records from the head, one whole record at a time, until one of `size` bytes fits (R182). -/
def makeRoom (size : Nat) : List LogRecord → List LogRecord
  | [] => []
  | r :: rest =>
    if logUsed (r :: rest) + size ≤ Config.logSize then r :: rest else makeRoom size rest

/-- Append a record; it carries GAP exactly when its writing discarded one (R182). -/
def appendRecord (log : List LogRecord) (r : LogRecord) : List LogRecord :=
  let kept := makeRoom r.size log
  kept ++ [{ r with gap := kept.length != log.length }]

/-- Which stage's field a record carries. -/
inductive FieldKind where
  | meas | grout | winch
deriving DecidableEq, Repr

/-- The field's values as they stand at the moment of writing (R177, R14). -/
def State.logField (s : State) : FieldKind → LogField
  | .meas => .meas (s.filtered .load) s.extension
  | .grout => .grout (s.filtered .gp) (s.filtered .gv)
  | .winch => .winch (s.filtered .wl) (s.filtered .wt)

/-- The two channels among a record's fields (R183). -/
def FieldKind.channels : FieldKind → ChannelName × ChannelName
  | .meas => (.load, .ext)
  | .grout => (.gp, .gv)
  | .winch => (.wl, .wt)

/-- Writing a record of these channels consumes their REFILLED marks (R11, R183). -/
def consumeRefilled (f : Option FieldKind) (s : State) : State :=
  match f with
  | none => s
  | some f =>
    (s.updateChan f.channels.1 fun c => { c with refilled := false }).updateChan f.channels.2
      fun c => { c with refilled := false }

/-- Whether a channel among the fields has its REFILLED mark set (R183). -/
def State.refilledAmong (s : State) : Option FieldKind → Bool
  | none => false
  | some f => (s.chan f.channels.1).refilled || (s.chan f.channels.2).refilled

/-- Write one record: TIME always, the field and the event as given (R177, R182, R183). -/
def writeRecord (f : Option FieldKind) (event : Option (EventCode × Nat)) (s : State) : State :=
  let r : LogRecord :=
    { field := f.map s.logField, time := s.seq.jobClock, event := event, gap := false,
      refilled := s.refilledAmong f }
  { consumeRefilled f s with log := appendRecord s.log r }

/-- Write an event record: with MEAS in a STRESS stage, without otherwise (R179). -/
def logEvent (e : EventCode) (arg : Nat) (s : State) : State :=
  writeRecord (if s.seq.stage = .stress then some .meas else none) (some (e, arg)) s

/-- The field of the stage's periodic record (R178). -/
def stageField : Stage → Option FieldKind
  | .winch => some .winch
  | .grout => some .grout
  | .stress => some .meas
  | .none => none

/-- The periodic record, at a job clock that is a whole multiple of the log interval, while a stage is active
(R178). -/
def periodicRecord (s : State) : State :=
  if s.stageActive && s.seq.jobClock % s.cfg Setup.logInterval 1 == 0 then
    writeRecord (stageField s.seq.stage) none s
  else s

/-- The records that READ_LOG takes from the head: as many as fit in `room` bytes, and those left (R184). -/
def takeRecords : Nat → List LogRecord → List LogRecord × List LogRecord
  | _, [] => ([], [])
  | room, r :: rest =>
    if r.size ≤ room then
      let (taken, left) := takeRecords (room - r.size) rest
      (r :: taken, left)
    else ([], r :: rest)

end Sys2Proof.Machine
end

