-- ==== Sys2Proof/Machine/Faults.lean ====
section
/-!
DEFINITION. The fault unit (chapter 9) with what taking a fault does to the work (R50, R115), the forms of a
named test (R21 to R23), and the decisions that stand in every run state (overload, stroke, drift).
-/
namespace Sys2Proof.Machine

/-! ## Phases, as the taking of a fault needs them -/

/-- Change the step phase; a change writes a PHASE record (R123). An UNLOAD step that follows an UNLOAD step with hold 0 goes
on in RAMP_DOWN, which is no change and writes none (log 15). -/
def setStepPhase (p : StepPhase) (s : State) : State :=
  if s.jack.phase = p then s
  else logEvent .phase p.code { s with jack := { s.jack with phase := p } }

def setGroutPhase (p : GroutPhase) (s : State) : State :=
  { s with grout := { s.grout with phase := p } }

/-- The end of a claim, for a cause (R96): the valve closes, GROUT_DRAW clears with the claim, CLAIM_END. -/
def endClaim (cause : Nat) (s : State) : State :=
  if s.grout.claim.isSome then
    let s := closeGrout s
    logEvent .claimEnd cause { s with grout := { s.grout with claim := none } }
  else s

/-! ## Taking a fault -/

/-- What a taken fault does to the work, by stage and phase (R50, R115). -/
def stopWork (s : State) : State :=
  match s.seq.stage with
  | .none => s
  | .winch => { s with drives := { s.drives with winch := false } }
  | .grout =>
    let s := closeGrout s
    if s.grout.claim.isSome then setGroutPhase .wait (endClaim claimByFault s)
    else if s.grout.phase = .intent then setGroutPhase .wait s
    else s
  | .stress =>
    let s :=
      { s with
        drives := { s.drives with raise := false, lower := false, seating := false }
        jack := { s.jack with topUp := false } }
    if s.jack.phase = .raiseIntent then setStepPhase .raiseWait s else s

/-- The phase that the taken fault record shows (R169). -/
def State.workPhase (s : State) : WorkPhase :=
  match s.seq.stage with
  | .stress => .step s.jack.phase
  | .grout => .grout s.grout.phase
  | .winch | .none => .none

/-- Write the taken fault record from the state as it stands (R169). -/
def writeTaken (k : FaultKind) (d : Detail) (s : State) : State :=
  { s with
    faults :=
      { s.faults with
        taken := some
          { kind := k, detail := d, stage := s.seq.stage
            stepIndex := if s.seq.stage = .stress then s.jack.stepIndex else 0
            phase := s.workPhase, load := s.filtered .load, time := s.seq.jobClock } } }

/-- The log record of a taking: STOP for WALL_STOP, FAULT_TAKEN with the kind for another (R166). -/
def logTaken (k : FaultKind) (s : State) : State :=
  if k = .wallStop then logEvent .stop 0 s else logEvent .faultTaken k.priority s

/-- The run state a taken kind gives (R50). -/
def runStateOf (k : FaultKind) : RunState := if k = .wallStop then .stopped else .faulted

def setRunState (r : RunState) (s : State) : State := { s with seq := { s.seq with runState := r } }

/-- Take a fault: its log record comes before those of the changes it makes (R181), the record shows the phase
as those changes leave it (R169). -/
def takeFault (k : FaultKind) (d : Detail) (s : State) : State :=
  writeTaken k d (setRunState (runStateOf k) (stopWork (logTaken k s)))

/-- A kind that would be taken at once meets a taken fault: a higher priority replaces it (R170). -/
def replaceTaken (k : FaultKind) (d : Detail) (s : State) : State :=
  let s := logTaken k s
  let s := if k = .wallStop then setRunState .stopped s else s
  writeTaken k d s

/-- A kind taken at once, or a second failure (R166, R170, R171). -/
def takeAtOnce (k : FaultKind) (d : Detail) (s : State) : State :=
  match s.seq.runState with
  | .stopped => s
  | .faulted =>
    match s.faults.taken with
    | some t => if k.priority < t.kind.priority then replaceTaken k d s else s
    | none => takeFault k d s
  | _ => takeFault k d s

def seeKind (k : FaultKind) (s : State) : State :=
  { s with faults := { s.faults with seen := insertKind k s.faults.seen } }

def pendKind (k : FaultKind) (d : Detail) (s : State) : State :=
  { s with faults := { s.faults with pending := insertPending k d s.faults.pending } }

def State.masked (s : State) (k : FaultKind) : Bool := k.maskable && s.faults.mask.contains k

/-- One detection, and what becomes of it (R164): the rows of the table in its order. -/
def detect (k : FaultKind) (d : Detail) (s : State) : State :=
  if k = .anchorDrift && s.masked k then s
  else
    let s := seeKind k s
    if k = .wallStop then
      if s.seq.runState = .unconfigured then s else takeAtOnce k d s
    else if !k.maskable then
      if s.stageActive then takeAtOnce k d s else s
    else if s.masked k then s
    else if k = .voidTest then takeAtOnce k d s
    else if s.stageActive then pendKind k d s
    else s

/-- Taking at a step boundary: the highest kind pending, with its detail; the set empties and the boundary is
held (R167, R40). -/
def takeAtBoundary (k : FaultKind) (d : Detail) (b : Boundary) (s : State) : State :=
  let s := { s with faults := { s.faults with pending := [] } }
  let s := takeFault k d s
  { s with seq := { s.seq with held := some b } }

/-- The work reaches a step boundary: with nothing pending it passes, by `pass` (R40, R167). -/
def reachWith (pass : Boundary → State → State) (b : Boundary) (s : State) : State :=
  match s.faults.pending with
  | [] => pass b s
  | (k, d) :: _ => takeAtBoundary k d b s

/-! ## The unaware form (R22, R23) -/

/-- Ask an unaware test. On VOID it detects VOID_TEST with the detail given: unmasked, the fault is taken and the
decision is not acted on; masked, the decision acts on false. -/
def unaware (d : Detail) (t : Test) (c : Condition) (onTrue onFalse : State → State) (s : State) :
    State :=
  if c = .void then
    if s.masked .voidTest then onFalse (detect .voidTest d s) else detect .voidTest d s
  else if t.holds c then onTrue s
  else onFalse s

/-! ## Overload and stroke (R137, R138) -/

/-- The overload decision gives true: in force after SETUP while the lower valve is closed. -/
def State.overloaded (s : State) : Bool :=
  match s.seq.config with
  | none => false
  | some g =>
    !s.drives.lower && Test.overTest.holds (compareNat (s.filtered .load) g.loadLimit 0)

/-- The stroke decision, on the raw filtered EXT, gives true. -/
def State.strokeEnded (s : State) : Bool :=
  match s.seq.config with
  | none => false
  | some g =>
    !s.drives.lower && Test.reached.holds (compareNat (s.filtered .ext) g.strokeLimit 0)

/-- A detection whose rule has been asked: the answer stands, whatever acts before it (R168, log 7). -/
def detectIf (asked : Bool) (k : FaultKind) (d : Detail) (s : State) : State :=
  if asked then detect k d s else s

/-- Both decisions as they were asked in state `u`, when they come into force together; either may act first (R172). -/
def watchAsked (u s : State) : State :=
  eitherOrder (detectIf u.overloaded .loadLimit .none) (detectIf u.strokeEnded .strokeEnd .none) s

def watchDecisions (s : State) : State := watchAsked s s

/-- Kinds taken at once beside the work of the same moment: either acts first, but the end of the stage does not act before
them, since in either order the run state is FAULTED or STOPPED (R25, R168, log 42). The end of an abort's lowering is no
step boundary (R39), and either may act first beside it. -/
def besideKinds (kinds work : State → State) (s : State) : State :=
  if s.stageActive && s.seq.runState != .aborting && !(work s).stageActive then work (kinds s)
  else eitherOrder work kinds s

/-- The lower valve shuts. Where it stood open, the overload and stroke decisions come into force at this moment and are
asked at once, and what the closing brings acts beside them (R137, R138, R168). -/
def shutLower (work : State → State) (s : State) : State :=
  let t := { s with drives := { s.drives with lower := false } }
  if s.drives.lower then besideKinds (watchAsked t) work t else work t

/-! ## Drift (R139, R30) -/

/-- The drift decisions of a locked anchor: OUT with the drift band while DRIFT is clear, INBAND with half of
it while DRIFT is set, both aware. -/
def driftDecision (s : State) : State :=
  if s.driftWatched then
    let band := s.cfg Setup.driftBand 0
    let locked := s.jack.lockedLoad.getD 0
    if s.table.drift then
      if Test.inband.holds (compareNat (s.filtered .load) locked (band / 2)) then
        { s with table := { s.table with drift := false } }
      else s
    else
      if Test.out.holds (compareNat (s.filtered .load) locked band) then
        detect .anchorDrift .band { s with table := { s.table with drift := true } }
      else s
  else s

end Sys2Proof.Machine
end

