-- ==== Sys2Proof/Machine/Operands.lean ====
section
/-!
DEFINITION. The request bodies: their lengths and fields (R186, R189, R194), the field checks, and the
schedule checks of R120 to R122.
-/
namespace Sys2Proof.Machine

/-- Reasons of refusal (R187). -/
inductive Reason where
  | notConfigured | alreadyConfigured | wrongState | range | scheduleOrder | notCured | lineBreak
  | estopActive | voidValue
deriving DecidableEq, Repr

/-- The outcome code of a refusal (R187). -/
def Reason.code : Reason → Nat
  | .notConfigured => 1 | .alreadyConfigured => 2 | .wrongState => 3 | .range => 4
  | .scheduleOrder => 5 | .notCured => 6 | .lineBreak => 7 | .estopActive => 8 | .voidValue => 9

/-- The request codes (R186). -/
def codeSetup : Byte := 1
def codeStartWinch : Byte := 2
def codeStartGrout : Byte := 3
def codeStartStress : Byte := 4
def codePause : Byte := 5
def codeResume : Byte := 6
def codeAbort : Byte := 7
def codeAcknowledge : Byte := 8
def codeAcceptDrift : Byte := 9
def codeSetMask : Byte := 10
def codeClearSeen : Byte := 11
def codeRestart : Byte := 12
def codeReadStatus : Byte := 13
def codeReadNeighbours : Byte := 14
def codeReadLog : Byte := 15
def codeReadResults : Byte := 16

/-- A refusal: reason and argument (R187). -/
abbrev Refused := Reason × Nat

/-- The first of a list of checks that fails; each check is a truth value with its refusal. -/
def firstFailing : List (Bool × Refused) → Option Refused
  | [] => none
  | (ok, why) :: rest => if ok then firstFailing rest else some why

/-- The index of the first field out of range, of fields numbered from `n` on. -/
def firstBadField (n : Nat) : List Bool → Option Nat
  | [] => none
  | ok :: rest => if ok then firstBadField (n + 1) rest else some n

/-! ## SETUP (R189) -/

/-- The progress code of R189, field 10. -/
def progressOf : Nat → Progress
  | 1 => .winched | 2 => .grouted | 3 => .locked | _ => .none

/-- The 49 bytes of a SETUP body, field by field in the order of R189. -/
def setupOf (b : List Byte) : Setup where
  station := fieldAt b 0 1
  bay := fieldAt b 1 2
  row := fieldAt b 3 1
  span := fieldAt b 4 1
  main := fieldAt b 5 1
  concurrency := fieldAt b 6 1
  claimLimit := fieldAt b 7 1
  cureTime := fieldAt b 8 1
  groutAge := fieldAt b 9 2
  progress := progressOf (fieldAt b 11 1)
  lockedLoad := fieldAt b 12 2
  area := fieldAt b 14 2
  modulus := fieldAt b 16 3
  freeLength := fieldAt b 19 2
  bondLength := fieldAt b 21 2
  loadLimit := fieldAt b 23 2
  strokeLimit := fieldAt b 25 3
  loadTolerance := fieldAt b 28 1
  rampRate := fieldAt b 29 2
  imbalanceLimit := fieldAt b 31 2
  driftBand := fieldAt b 33 2
  lockTolerance := fieldAt b 35 2
  creepLimit := fieldAt b 37 2
  gateTimeout := fieldAt b 39 1
  filterLoad := fieldAt b 40 1
  filterExt := fieldAt b 41 1
  filterGp := fieldAt b 42 1
  filterGv := fieldAt b 43 1
  filterWl := fieldAt b 44 1
  filterWt := fieldAt b 45 1
  logInterval := fieldAt b 46 1
  initialMask := maskOf (fieldAt b 47 2)

def within (lo hi v : Nat) : Bool := lo ≤ v && v ≤ hi

/-- The allowed filter lengths (R6). -/
def filterLengthOk (n : Nat) : Bool := [1, 2, 4, 8, 16, 32].contains n

/-- The range checks of fields 1 to 31, in field order; `progressCode` is field 10 as received (R189). -/
def setupChecks (progressCode : Nat) (g : Setup) : List Bool :=
  [within 1 63 g.station, within 0 999 g.bay, within 1 8 g.row, within 1 8 g.span,
   within 0 15 g.main, within 1 4 g.concurrency, within 1 30 g.claimLimit, within 1 240 g.cureTime,
   within 0 9999 g.groutAge, within 0 3 progressCode,
   progressCode != 3 || within 0 60000 g.lockedLoad,
   within 50 6000 g.area, within 150000 210000 g.modulus, within 1000 60000 g.freeLength,
   within 1000 20000 g.bondLength, within 100 60000 g.loadLimit, within 10000 250000 g.strokeLimit,
   within 5 200 g.loadTolerance, within 1 500 g.rampRate, within 0 60000 g.imbalanceLimit,
   within 5 5000 g.driftBand, within 5 2000 g.lockTolerance, within 100 10000 g.creepLimit,
   within 1 60 g.gateTimeout,
   filterLengthOk g.filterLoad, filterLengthOk g.filterExt, filterLengthOk g.filterGp,
   filterLengthOk g.filterGv, filterLengthOk g.filterWl, filterLengthOk g.filterWt,
   within 1 60 g.logInterval]

/-- The refusal of a SETUP body, if any: its length, then its fields in order (R186, R189). -/
def setupRefusal (b : List Byte) : Option Refused :=
  if b.length ≠ 49 then some (.range, 0)
  else (firstBadField 1 (setupChecks (fieldAt b 11 1) (setupOf b))).map fun n => (.range, n)

/-! ## START_WINCH and START_GROUT (R102, R109, R194) -/

def winchRefusal (b : List Byte) : Option Refused :=
  if b.length ≠ 5 then some (.range, 0)
  else (firstBadField 1 [within 1000 80000 (fieldAt b 0 3), within 10 500 (fieldAt b 3 2)]).map
    fun n => (.range, n)

def groutRefusal (b : List Byte) : Option Refused :=
  if b.length ≠ 5 then some (.range, 0)
  else (firstBadField 1 [within 1 999999 (fieldAt b 0 3), within 100 10000 (fieldAt b 3 2)]).map
    fun n => (.range, n)

/-! ## START_STRESS (R120 to R122, R194) -/

/-- The kind of a step: bits 7 and 6 of its first byte; none for 0 (R194). -/
def stepKindOf (v : Nat) : Option StepKind :=
  match v / 64 with
  | 1 => some .load | 2 => some .unload | 3 => some .lock | _ => none

/-- Step `i` (from 0) of a body: kind and flags, target, hold (R194). -/
def stepOf (b : List Byte) (i : Nat) : ScheduleStep :=
  let v := fieldAt b (1 + 4 * i) 1
  { kind := (stepKindOf v).getD .load
    target := fieldAt b (2 + 4 * i) 2
    hold := fieldAt b (4 + 4 * i) 1
    datum := bitOf v 0, evaluate := bitOf v 1, extend := bitOf v 2, elastic := bitOf v 3 }

/-- The schedule of a body of `n` steps. -/
def scheduleOf (b : List Byte) : List ScheduleStep :=
  (List.range (fieldAt b 0 1)).map (stepOf b)

/-- The range checks of fields 2 to 4n + 1: of each step its kind, target, hold, and flags, which cannot be out
of range (R120). -/
def stressFieldChecks (b : List Byte) : List Bool :=
  ((List.range (fieldAt b 0 1)).map fun i =>
    [(stepKindOf (fieldAt b (1 + 4 * i) 1)).isSome, within 0 60000 (stepOf b i).target,
     within 0 60 (stepOf b i).hold, true]).flatten

/-- The allowed holds in minutes (R122, check 11). -/
def allowedHolds : List Nat := [0, 1, 2, 3, 5, 10, 15, 20, 30, 45, 60]

/-- The peaks of the loading runs that have ended before the last of the given steps, latest first: the targets
of the LOAD steps followed by a step that is not a LOAD step (R122). A LOAD step at the end of the list
belongs to the run of the LOAD step under check. -/
def runPeaks : List ScheduleStep → List Nat → List Nat
  | [], acc => acc
  | [_], acc => acc
  | x :: y :: rest, acc =>
    runPeaks (y :: rest) (if x.kind = .load ∧ y.kind ≠ .load then x.target :: acc else acc)

/-- The schedule checks of one step, in their numbered order (R122): `before` are the steps before it, `x` the
step, `after` the steps after it, `limit` the tendon load limit, `datum` step 1's target. -/
def stepChecks (limit datum : Nat) (before : List ScheduleStep) (x : ScheduleStep)
    (after : List ScheduleStep) : List (Bool × Refused) :=
  let i := before.length + 1
  let order : Refused := (.scheduleOrder, i)
  let prev := before.getLast?
  let prevTarget := (prev.map ScheduleStep.target).getD 0
  let endsRun := x.kind = .load ∧ (after.head?.map ScheduleStep.kind) ≠ some .load
  [ (i ≠ 1 || (x.kind = .load && x.datum && decide (1 ≤ x.target)), order),
    (i = 1 || !x.datum, order),
    (decide (x.kind = .lock) == after.isEmpty, order),
    (i = 1 || x.kind ≠ .load || decide (prevTarget < x.target), order),
    (x.kind ≠ .unload || (decide (x.target < prevTarget) && decide (datum ≤ x.target)), order),
    (!endsRun || match runPeaks before [] with
      | [] => true
      | peak :: _ => decide (peak ≤ x.target), order),
    (decide (x.target ≤ limit), order),
    (x.kind ≠ .lock || decide (datum ≤ x.target), order),
    ((!x.evaluate || (x.kind = .load && decide (5 ≤ x.hold))) && (!x.extend || x.evaluate), order),
    (!x.elastic || (x.kind = .unload && x.target = datum &&
      (prev.map ScheduleStep.kind) = some .load && !before.any ScheduleStep.elastic), order),
    (allowedHolds.contains x.hold, (.range, 4 * i)) ]

/-- The schedule checks, step by step (R121): `before` are the steps already examined. -/
def scheduleChecks (limit datum : Nat) (before : List ScheduleStep) :
    List ScheduleStep → List (Bool × Refused)
  | [] => []
  | x :: after =>
    stepChecks limit datum before x after ++ scheduleChecks limit datum (before ++ [x]) after

/-- The refusal of a schedule under the schedule checks, if any (R121). -/
def scheduleRefusal (limit : Nat) (steps : List ScheduleStep) : Option Refused :=
  firstFailing (scheduleChecks limit ((steps.head?.map ScheduleStep.target).getD 0) [] steps)

/-- The refusal of a START_STRESS body under checks 8 and 9 of R34: empty body, step count, length, fields,
schedule (R120, R121, R186). -/
def stressRefusal (limit : Nat) (b : List Byte) : Option Refused :=
  if b.isEmpty then some (.range, 0)
  else if !within 1 12 (fieldAt b 0 1) then some (.range, 1)
  else if b.length ≠ 1 + 4 * fieldAt b 0 1 then some (.range, 0)
  else
    match firstBadField 2 (stressFieldChecks b) with
    | some n => some (.range, n)
    | none => scheduleRefusal limit (scheduleOf b)

end Sys2Proof.Machine
end

