-- ==== Sys2Proof/Machine/Evaluator.lean ====
section
/-!
DEFINITION. The hold evaluator (chapter 8): step entries, readings, the creep coefficient and its judgement,
the peak and datum pairs, the apparent free length, the job summary.
-/
namespace Sys2Proof.Machine

/-! ## Step entries (R146, R147) -/

/-- A new entry for a step (R146). -/
def StepEntry.opened (index : Nat) (x : ScheduleStep) : StepEntry where
  index := index
  kind := x.kind
  target := x.target
  reached := none
  plannedHold := if x.kind = .lock then 0 else x.hold
  actualHold := 0
  readings := []
  k := .notEvaluated
  outcome := .inProgress
  disturbed := false
  topUps := 0

/-- The entry of the current step. -/
def State.currentEntry (s : State) : Option StepEntry :=
  s.eval.results.find? fun e => e.index == s.jack.stepIndex

/-- Change the entry of the current step. -/
def updateEntry (f : StepEntry → StepEntry) (s : State) : State :=
  { s with
    eval :=
      { s.eval with
        results := s.eval.results.map fun e => if e.index = s.jack.stepIndex then f e else e } }

/-- Set an outcome; one other than IN_PROGRESS or EXTENDING is not changed again (R147). -/
def StepEntry.setOutcome (o : StepOutcome) (e : StepEntry) : StepEntry :=
  if e.outcome = .inProgress ∨ e.outcome = .extending then { e with outcome := o } else e

def updateSummary (f : JobSummary → JobSummary) (s : State) : State :=
  { s with eval := { s.eval with summary := f s.eval.summary } }

/-- A top-up handed as it starts (R131, R147). -/
def countTopUp (s : State) : State :=
  updateEntry (fun e => { e with topUps := min (e.topUps + 1) 65535 }) s

/-! ## Readings (R148) -/

/-- The reading times in minutes; their indexes are 1 to 12 in this order (R148). -/
def readingTimes : List Nat := [1, 2, 3, 4, 5, 6, 10, 15, 20, 30, 45, 60]

/-- The index and time of the reading due at a hold clock, within a current length in minutes (R148). -/
def readingDue (clock length : Nat) : Option (Nat × Nat) :=
  ((readingTimes.zipIdx 1).find? fun (m, _) => clock == m * 60 && decide (m ≤ length)).map
    fun (m, i) => (i, m)

/-- Take a reading: append it to the entry and write its record (R148, R180). -/
def takeReading (index minutes : Nat) (s : State) : State :=
  let r : Reading :=
    { index := index, minutes := minutes, ext := s.extension, load := s.filtered .load }
  logEvent .reading index (updateEntry (fun e => { e with readings := e.readings ++ [r] }) s)

/-! ## The creep coefficient (R150, R151) -/

/-- The log table L (R150): log10 of the minutes × 10000, rounded, at the reading times. -/
def logTable : Nat → Nat
  | 2 => 3010 | 3 => 4771 | 4 => 6021 | 5 => 6990 | 6 => 7782 | 10 => 10000
  | 15 => 11761 | 20 => 13010 | 30 => 14771 | 45 => 16532 | 60 => 17782 | _ => 0

/-- The earlier time of the evaluation pair of a length: the largest reading time no greater than a tenth of it,
or 1 (R150). -/
def pairStart (length : Nat) : Nat :=
  ((readingTimes.filter fun m => decide (10 * m ≤ length)).getLast?).getD 1

/-- The extension recorded at a reading time; VOID where it is VOID. -/
def extensionAt (readings : List Reading) (minutes : Nat) : Option Int :=
  (readings.find? fun r => r.minutes == minutes).bind Reading.ext

/-- k from two extensions and a difference of logs: exact product, nearest with ties away from zero,
saturated (R151). -/
def creepOf (sa sb : Int) (logDiff : Nat) : Int :=
  clampInt (-32767) 32767 (roundTiesAway ((sb - sa) * 10000) logDiff)

/-- The creep coefficient of a hold of a length from its readings (R151). -/
def creepCoefficient (length : Nat) (readings : List Reading) : Figure :=
  match extensionAt readings (pairStart length), extensionAt readings length with
  | some sa, some sb => .value (creepOf sa sb (logTable length - logTable (pairStart length)))
  | _, _ => .void

/-- The extended length: the smallest allowed hold of at least three times the length, at most 60 (R153). -/
def extendedLength (length : Nat) : Nat :=
  (allowedHolds.find? fun h => decide (3 * length ≤ h)).getD 60

/-- What an evaluation finds (R152, R154). -/
inductive CreepVerdict where
  | pass | extend | excess | void
deriving DecidableEq, Repr

/-- The judgement of k (R152 to R154): `first` at a first evaluation, `extendable` for a step with EXTEND. -/
def creepVerdict (k : Figure) (limit : Nat) (first extendable : Bool) (length : Nat) : CreepVerdict :=
  match k with
  | .value n =>
    if Test.clear.holds (compare (some n) limit 0) then .pass
    else if first && extendable && decide (length < 60) then .extend
    else .excess
  | .void | .notEvaluated => .void

/-- Act on a verdict at a first or a second evaluation (R152 to R154). -/
def actOnCreep (v : CreepVerdict) (first : Bool) (length : Nat) (s : State) : State :=
  match v with
  | .pass => updateEntry (StepEntry.setOutcome (if first then .pass else .extendedPass)) s
  | .extend =>
    let s := updateEntry (StepEntry.setOutcome .extending) s
    { s with jack := { s.jack with holdLength := some (extendedLength length) } }
  | .excess =>
    detect .creepExcess .none
      (updateEntry (StepEntry.setOutcome (if first then .excess else .extendedExcess)) s)
  | .void => detect .voidTest .creep (updateEntry (StepEntry.setOutcome .void) s)

/-! ## Pairs and the apparent free length (R155 to R157) -/

/-- Whether a step carries ELASTIC, by its index. -/
def State.elasticAt (s : State) (index : Nat) : Bool :=
  index != 0 && ((s.jack.schedule[index - 1]?).map ScheduleStep.elastic).getD false

/-- ΔP and Δs (R156). -/
def pairLoad (peak dat : LoadExt) : Option Int :=
  match peak.load, dat.load with
  | some p, some q => some ((p : Int) - (q : Int))
  | _, _ => none

def pairExt (peak dat : LoadExt) : Option Int :=
  match peak.ext, dat.ext with
  | some p, some q => some (p - q)
  | _, _ => none

def Figure.of : Option Int → Figure
  | none => .void
  | some n => .value n

/-- L_app in mm: A × E × Δs ÷ (ΔP × 100000), rounded half up, saturated at 99999; VOID where ΔP or Δs is VOID,
ΔP is below 100 or Δs is negative (R156). -/
def apparentLength (area modulus : Nat) (dP dS : Option Int) : Option Int :=
  match dP, dS with
  | some p, some x =>
    if p < 100 ∨ x < 0 then none
    else some (min 99999 (roundHalfUp ((area : Int) * modulus * x) (p.toNat * 100000)))
  | _, _ => none

/-- The length bounds (R157). -/
def lengthLower (freeLength : Nat) : Nat := freeLength * 8 / 10
def lengthUpper (freeLength bondLength : Nat) : Nat := freeLength + bondLength / 2

/-- The length outcome of a valid L_app (R157, R28). -/
def lengthOutcomeOf (l : Int) (lower upper : Nat) : LengthOutcome :=
  if compare (some l) lower 0 = .below then .short
  else if compare (some l) upper 0 = .above then .long
  else .pass

/-- The length acceptance of an L_app (R28, R157). -/
def judgeLength (lApp : Option Int) (s : State) : State :=
  match lApp with
  | none =>
    detect .voidTest .length (updateSummary (fun j => { j with lengthOutcome := .void }) s)
  | some l =>
    let o := lengthOutcomeOf l (lengthLower (s.cfg Setup.freeLength 0))
      (lengthUpper (s.cfg Setup.freeLength 0) (s.cfg Setup.bondLength 0))
    let s := updateSummary (fun j => { j with lengthOutcome := o }) s
    match o with
    | .short => detect .lengthOut .short s
    | .long => detect .lengthOut .long s
    | _ => s

/-- Take the datum pair: work out ΔP, Δs and L_app, write them, judge the length; the peak pair is then no longer
kept (R155, R156). -/
def takeDatumPair (dat : LoadExt) (s : State) : State :=
  let peak := s.eval.peak.getD { load := none, ext := none }
  let dP := pairLoad peak dat
  let dS := pairExt peak dat
  let l := apparentLength (s.cfg Setup.area 0) (s.cfg Setup.modulus 0) dP dS
  let s := { s with eval := { s.eval with peak := none } }
  judgeLength l
    (updateSummary
      (fun j => { j with deltaP := .of dP, deltaS := .of dS, lApp := .of l }) s)

/-- The pair that a step's end takes, if any: the peak pair just before the ELASTIC step, the datum pair at its
end (R155). -/
def takePair (p : LoadExt) (s : State) : State :=
  if s.elasticAt s.jack.stepIndex then takeDatumPair p s
  else if s.elasticAt (s.jack.stepIndex + 1) then
    { s with eval := { s.eval with peak := some p } }
  else s

/-- The load and extension of the entry's last reading (R155). -/
def State.lastReading (s : State) : LoadExt :=
  match s.currentEntry.bind fun e => e.readings.getLast? with
  | some r => { load := r.load, ext := r.ext }
  | none => { load := none, ext := none }

/-- A stop hands its reached load (R147). -/
def handReached (s : State) : State :=
  updateEntry (fun e => { e with reached := s.filtered .load }) s

/-- Set the datum extension from the filtered EXT as it stands (R132). -/
def setDatum (s : State) : State := { s with jack := { s.jack with datum := some (s.filtered .ext) } }

/-! ## The end of a hold (R149) -/

/-- A phase of work ends: in RUNNING at a boundary; where a fault has been taken, or in PAUSED, FAULTED or STOPPED,
its boundary is held without being passed (R41, R154, R157). -/
def finishPhase (reach : Boundary → State → State) (b : Boundary) (s : State) : State :=
  if s.seq.runState = .running then reach b s
  else { s with seq := { s.seq with held := some b } }

/-- Points 3 and 4: the hold stands ended (R149, R132). -/
def holdStandsEnded (length : Nat) (evaluated : Bool) (s : State) : State :=
  let s := updateEntry (fun e => { e with actualHold := length * 60 }) s
  let s := if evaluated then s else updateEntry (StepEntry.setOutcome .done) s
  let s := if s.jack.stepIndex = 1 then setDatum s else s
  takePair s.lastReading s

/-- Take the reading due at the hold clock, if one is (R148). -/
def takeDue (s : State) : State :=
  match readingDue s.jack.holdClock (s.jack.holdLength.getD 0) with
  | some (i, m) => takeReading i m s
  | none => s

/-- Point 2: the creep evaluation of a step's entry; it extends the hold, or the hold stands ended (R149, R151 to
R154). -/
def evaluateHold (reach : Boundary → State → State) (e : StepEntry) (x : ScheduleStep) (s : State) :
    State :=
  let length := s.jack.holdLength.getD 0
  let first := e.outcome != .extending
  let k := creepCoefficient length e.readings
  let v := creepVerdict k (s.cfg Setup.creepLimit 0) first x.extend length
  let t := actOnCreep v first length (updateEntry (fun e => { e with k := k }) s)
  if v = .extend then t else finishPhase reach .holdEnd (holdStandsEnded length true t)

/-- The hold clock reaches the current length: reading, evaluation, and the end or the extension of the hold
(R149). -/
def holdEndWork (reach : Boundary → State → State) (s : State) : State :=
  let t := takeDue s
  match t.currentEntry, t.currentStep with
  | some e, some x =>
    if x.evaluate then evaluateHold reach e x t
    else finishPhase reach .holdEnd (holdStandsEnded (t.jack.holdLength.getD 0) false t)
  | _, _ => finishPhase reach .holdEnd t

/-- What an advance of the hold clock brings: the hold's end, a reading, or nothing (R130, R148). -/
def holdClockWork (reach : Boundary → State → State) (s : State) : State :=
  if s.jack.holdClock = s.jack.holdLength.getD 0 * 60 then holdEndWork reach s else takeDue s

/-- ABORT of a STRESS stage closes the current entry: an outcome already set stays, and in HOLD the actual hold becomes the
hold clock; a peak pair is cleared (R160). -/
def closeEntry (s : State) : State :=
  let inHold := s.jack.phase = .hold
  let clock := s.jack.holdClock
  let s :=
    updateEntry
      (fun e => { e.setOutcome .aborted with actualHold := if inHold then clock else e.actualHold }) s
  { s with eval := { s.eval with peak := none } }

end Sys2Proof.Machine
end

