-- ==== Sys2Proof/Machine/Neighbours.lean ====
section
/-!
DEFINITION. The neighbour table: applying a heard notice (R76 to R78), ageing (R79), reading an entry (R80);
and the conditions of the raise gate and the grout gate (R84 to R95) that are read from it.
-/
namespace Sys2Proof.Machine

/-! ## A heard frame -/

/-- The fields of a heard notice frame (R195); age, status and OVERSTAY as R77 gives a notice just applied, with
the own claim limit in minutes. -/
def entryOf (claimLimit : Nat) (b : List Byte) : Entry where
  station := fieldAt b 0 1
  bay := fieldAt b 1 2
  row := fieldAt b 3 1 / 16
  main := fieldAt b 3 1 % 16
  phase := (noticePhaseOf (fieldAt b 4 1)).getD .quiet
  flags := flagsOf (fieldAt b 5 1)
  load := voidable (fieldAt b 6 2)
  locked := voidable (fieldAt b 8 2)
  drawAge := fieldAt b 10 2
  sequence := fieldAt b 12 1
  age := 0
  lapsed := false
  overstay := (flagsOf (fieldAt b 5 1)).groutDraw && decide (claimLimit * 60 + 60 < fieldAt b 10 2)

/-- A load field of a notice: 0 to 60000, or VOID (R76). -/
def loadFieldOk (v : Nat) : Bool := v ≤ 60000 || v == 65535

/-- The fields give the rest a meaning (R76, case 2). -/
def frameWellFormed (b : List Byte) : Bool :=
  let e := entryOf 0 b
  decide (1 ≤ e.station ∧ e.station ≤ 63 ∧ e.bay ≤ 999 ∧ 1 ≤ e.row ∧ e.row ≤ 8) &&
  (noticePhaseOf (fieldAt b 4 1)).isSome &&
  loadFieldOk (fieldAt b 6 2) && loadFieldOk (fieldAt b 8 2) && fieldAt b 10 2 != 65535

/-! ## The table -/

/-- Insert an entry by its station number, replacing one of the same number. -/
def insertEntry (e : Entry) : List Entry → List Entry
  | [] => [e]
  | x :: rest =>
    if e.station < x.station then e :: x :: rest
    else if e.station = x.station then e :: rest
    else x :: insertEntry e rest

def removeEntry (station : Nat) (es : List Entry) : List Entry :=
  es.filter fun e => e.station != station

def findEntry (station : Nat) (es : List Entry) : Option Entry :=
  es.find? fun e => e.station == station

def State.setEntries (s : State) (es : List Entry) : State :=
  { s with table := { s.table with entries := es } }

/-- The entries that a full table may give up: out of span and not on the own grout main, which is no main when it
is 0 (R78). -/
def State.candidates (s : State) : List Entry :=
  let main := s.cfg Setup.main 0
  s.table.entries.filter fun e => !s.inSpan e && (main == 0 || e.main != main)

/-- Of two candidates, the one to give up: the greater bay distance, then the higher station number (R78). -/
def State.worse (s : State) (a b : Entry) : Entry :=
  if s.bayDistance a < s.bayDistance b then b
  else if s.bayDistance b < s.bayDistance a then a
  else if a.station < b.station then b
  else a

/-- The entry to give up, if there is a candidate (R78). -/
def State.entryToGiveUp (s : State) : Option Entry :=
  match s.candidates with
  | [] => none
  | e :: rest => some (rest.foldl s.worse e)

/-- Apply a frame (R76 to R78). The second part is the entry as applied; none where the frame changed no entry. -/
def applyFrame (b : List Byte) (s : State) : State × Option Entry :=
  let e := entryOf (s.cfg Setup.claimLimit 0) b
  if e.station = s.cfg Setup.station 0 then (detect .lineFault .clash s, none)
  else if !frameWellFormed b then (detect .lineFault .malformed s, none)
  else
    match findEntry e.station s.table.entries with
    | some old =>
      if old.sequence = e.sequence then (s, none)
      else (s.setEntries (insertEntry e s.table.entries), some e)
    | none =>
      if s.table.entries.length < Config.tableSize then
        (s.setEntries (insertEntry e s.table.entries), some e)
      else
        match s.entryToGiveUp with
        | some old =>
          (s.setEntries (insertEntry e (removeEntry old.station s.table.entries)), some e)
        | none => (detect .lineFault .tableFull s, none)

/-! ## Ageing (R79) -/

/-- An entry one tick older; LAPSED from age 3. -/
def Entry.older (e : Entry) : Entry :=
  { e with age := e.age + 1, lapsed := e.lapsed || decide (3 ≤ e.age + 1) }

/-- The ageing of one notice tick: none in BREAK; an entry that reaches 10 is removed, and detects NEIGHBOUR_LOST
if it was in span (R79). Two on one tick are detected in rising station number (log 16). -/
def ageEntries (s : State) : State :=
  if s.line.state = .broken then s
  else
    let aged := s.table.entries.map Entry.older
    let gone := aged.filter fun e => decide (10 ≤ e.age) && s.inSpan e
    let s := s.setEntries (aged.filter fun e => decide (e.age < 10))
    gone.foldl (fun s e => detect .neighbourLost (.station e.station) s) s

/-! ## Precedence (R84) -/

/-- An entry's present load as the gates read it: VOID once LAPSED (R80). -/
def Entry.gateLoad (e : Entry) : Option Nat := if e.lapsed then none else e.load

/-- Whether a station with load `a` and number `n` has precedence over one with `b` and `m` (R84). -/
def precedes (a : Option Nat) (n : Nat) (b : Option Nat) (m : Nat) : Bool :=
  match a, b with
  | some _, none => true
  | none, some _ => false
  | some x, some y => x < y || (x == y && n < m)
  | none, none => n < m

/-- The entry has precedence over the own station. -/
def State.entryPrecedes (s : State) (e : Entry) : Bool :=
  precedes e.gateLoad e.station (s.filtered .load) (s.cfg Setup.station 0)

/-- The own station has precedence over the entry. -/
def State.ownPrecedes (s : State) (e : Entry) : Bool :=
  precedes (s.filtered .load) (s.cfg Setup.station 0) e.gateLoad e.station

/-! ## The raise gate (R85 to R88) -/

def State.spanEntries (s : State) : List Entry := s.table.entries.filter s.inSpan

/-- What an entry announces blocks a raise outright. -/
def Entry.blocksAlways (e : Entry) : Bool :=
  e.phase == .holding || e.phase == .seating || e.flags.hold || e.flags.drift

/-- Condition (a) for one entry (R85). -/
def Entry.blocksRaise (e : Entry) : Bool := e.blocksAlways || e.phase == .raising || e.lapsed

/-- Condition (a) for one entry at the end of the interval: RAISING does not fail it where the own station has
precedence (R88). -/
def State.blocksAtEnd (s : State) (e : Entry) : Bool :=
  e.blocksAlways || e.lapsed || (e.phase == .raising && !s.ownPrecedes e)

/-- Condition (b) for one entry: the gate imbalance decision, aware (R28, R85). -/
def State.imbalanceClear (s : State) (e : Entry) : Bool :=
  !e.flags.locked ||
  Test.clear.holds
    (compare (e.locked.map fun l => (s.stepTarget : Int) - (l : Int))
      ((s.cfg Setup.imbalanceLimit 0 : Nat) : Int) 0)

/-- Condition (d) for one entry (R85). -/
def State.pendingFirst (s : State) (e : Entry) : Bool :=
  e.flags.raisePending && s.entryPrecedes e

/-- Conditions (a) to (d) of R85. -/
def State.raiseConditions (s : State) : Bool :=
  s.spanEntries.all (fun e => !e.blocksRaise && s.imbalanceClear e && !s.pendingFirst e) &&
  s.seq.runState == .running

/-- The same at the tick that ends the interval (R88). -/
def State.raiseConditionsAtEnd (s : State) : Bool :=
  s.spanEntries.all (fun e => !s.blocksAtEnd e && s.imbalanceClear e && !s.pendingFirst e) &&
  s.seq.runState == .running

/-- An applied in-span entry makes the interval withdraw (R87). -/
def State.withdrawsFor (s : State) (e : Entry) : Bool :=
  e.blocksAlways || ((e.phase == .raising || e.flags.raisePending) && s.entryPrecedes e)

/-- An applied in-span entry turns a ramp back (R90). -/
def State.turnsBackFor (s : State) (e : Entry) : Bool :=
  e.blocksAlways || (e.phase == .raising && s.entryPrecedes e)

/-- An applied in-span entry marks a hold DISTURBED (R91). -/
def Entry.disturbs (e : Entry) : Bool :=
  e.phase == .raising || e.phase == .holding || e.phase == .seating

/-! ## The grout gate (R94, R95) -/

/-- A drawer: on the own main, with GROUT_DRAW set and OVERSTAY clear, FRESH or LAPSED (R80, R94). -/
def State.isDrawer (s : State) (e : Entry) : Bool :=
  e.main == s.cfg Setup.main 0 && e.flags.groutDraw && !e.overstay

/-- The number of drawers. -/
def State.drawers (s : State) : Nat := (s.table.entries.filter s.isDrawer).length

/-- The total at the end of the interval: each entry on the own main once, as a drawer or as a pending station of
a lower number (R95). -/
def State.groutTotal (s : State) : Nat :=
  (s.table.entries.filter fun e =>
    s.isDrawer e ||
    (e.main == s.cfg Setup.main 0 && e.flags.groutPending &&
      decide (e.station < s.cfg Setup.station 0))).length

end Sys2Proof.Machine
end

