-- ==== Sys2Proof/Machine/Work.lean ====
section
/-!
DEFINITION. The work of the stages and what passes each step boundary: WINCH (R101 to R107), GROUT (R94 to R98,
R108 to R118), STRESS (R123 to R136), the raise gate (R85 to R93), the abort (R47 to R49, R142, R143).

A function that can end a piece of work takes `reach`, which reaches a boundary: it passes it or takes a
pending fault there (R40, R167). `proceed` passes a boundary and begins the next piece; its first argument
bounds the number of boundaries that one moment can chain, and `chainBound` is above any schedule's.
-/
namespace Sys2Proof.Machine

/-! ## Stage ends (R36) -/

/-- The sequencer with no stage (R36, R48, R49): IDLE, the job clock 0, nothing held. -/
def Sequencer.stageLess (q : Sequencer) : Sequencer :=
  { q with
    stage := .none, runState := .idle, jobClock := 0, jobHalf := false, held := none,
    abortMark := false }

/-- Jack control with no stage: the schedule is discarded, index and phase cleared; the datum extension and the
locked load stay (R119). -/
def Jack.stageLess (j : Jack) : Jack :=
  { j with
    schedule := [], stepIndex := 0, phase := .none, approach := .none, ramp := .cleared,
    holdClock := 0, holdLength := none, topUp := false, lockOffTimer := 0, lowerSecond := false }

/-- The raise gate with no stage: no intent interval, the gate timer at 0 (R100). -/
def Table.stageLess (t : Table) : Table := { t with raiseTicks := 0, gateTimer := 0 }

/-- Grout control with no stage: the record stays (R108). -/
def GroutControl.stageLess (g : GroutControl) : GroutControl :=
  { g with phase := .none, claim := none, restTicks := 0, intentTicks := 0 }

/-- The cure clock set to 0 and running (R36, R38). -/
def Cure.started (hours : Nat) : Cure := { hours := hours, seconds := 0, running := true, half := false }

def updateWinch (f : WinchRecord → WinchRecord) (s : State) : State :=
  { s with winch := s.winch.map f }

def updateGroutRecord (f : GroutRecord → GroutRecord) (s : State) : State :=
  { s with grout := { s.grout with record := s.grout.record.map f } }

/-- The stage ends successfully, its end boundary passed (R36, R103, R113, R114, R136). The step phase of a STRESS stage
becomes none, with the PHASE record of any change (R123, R144), which stands behind STAGE_END (log 15). -/
def endStage (refused : Bool) (s : State) : State :=
  match s.seq.stage with
  | .none => s
  | .winch =>
    let s := updateWinch (fun w => { w with outcome := .complete }) s
    let s := logEvent .stageEnd argComplete s
    { s with
      seq := { s.seq.stageLess with progress := .winched }
      drives := { s.drives with winch := false } }
  | .grout =>
    let s := closeGrout s
    let s := updateGroutRecord
      (fun r => { r with mark := if refused then .refused else .complete }) s
    let s := logEvent .stageEnd (if refused then argRefused else argComplete) s
    { s with
      seq := { s.seq.stageLess with progress := .grouted, cure := Cure.started 0 }
      grout := s.grout.stageLess }
  | .stress =>
    let s := logEvent .locked s.eval.summary.lockOutcome.code s
    let s := logEvent .stageEnd argComplete s
    let s := updateSummary (fun j => { j with jobStatus := .complete }) (setStepPhase .none s)
    driftDecision
      { s with
        seq := { s.seq.stageLess with progress := .locked }
        jack := s.jack.stageLess
        table := s.table.stageLess
        drives := .off }

/-! ## Winch control (R103 to R106) -/

/-- Turn the drive on; a turning on takes a new stall reference (R105). -/
def winchOn (s : State) : State :=
  if s.drives.winch then s
  else
    updateWinch (fun w => { w with stallRef := s.filtered .wl, stallTimer := 0 })
      { s with drives := { s.drives with winch := true } }

def winchOff (s : State) : State := { s with drives := { s.drives with winch := false } }

def State.winching (s : State) : Bool := s.seq.stage == .winch && s.seq.runState == .running

/-- The winch length decision (R103). -/
def lengthDecision (reach : Boundary → State → State) (s : State) : State :=
  match s.winch with
  | some w =>
    if s.winching then
      unaware (.channel .wl) .reached (compareNat (s.filtered .wl) w.target 0)
        (fun s =>
          reach (.stageEnd false)
            (updateWinch (fun w => { w with installed := s.filtered .wl }) (winchOff s)))
        winchOn s
    else s
  | none => s

/-- The snag decision gives true (R104). -/
def State.snagged (s : State) : Bool :=
  match s.winch with
  | some w => s.winching && Test.overTest.holds (compareNat (s.filtered .wt) w.snag 0)
  | none => false

/-- The snag decision as it was asked in state `u` (R104, R168). -/
def snagAsked (u s : State) : State :=
  if u.snagged then detect .winchSnag .tension (winchOff s) else s

def snagDecision (s : State) : State := snagAsked s s

/-- The winch decisions come into force together: a snag beside the end of the stage is a kind taken at once beside a
boundary (R102, R106, R168). -/
def winchDecisions (reach : Boundary → State → State) (s : State) : State :=
  besideKinds (snagAsked s) (lengthDecision reach) s

/-- The stall reference at a WL sample event while the drive is on (R105). -/
def stallReference (s : State) : State :=
  if s.drives.winch then
    match s.filtered .wl with
    | none => s
    | some v =>
      updateWinch
        (fun w =>
          match w.stallRef with
          | none => { w with stallRef := some v, stallTimer := 0 }
          | some r => if r + 10 ≤ v then { w with stallRef := some v, stallTimer := 0 } else w) s
  else s

/-- The stall timer at an advance of the job clock (R105). -/
def stallClock (s : State) : State :=
  match s.winch with
  | some w =>
    if s.winching && s.drives.winch then
      let s := updateWinch (fun w => { w with stallTimer := min (w.stallTimer + 1) 10 }) s
      if 10 ≤ w.stallTimer + 1 then detect .winchSnag .stall (winchOff s) else s
    else s
  | none => s

/-! ## Grout control (R94 to R98, R110 to R114) -/

def State.grouting (s : State) : Bool := s.seq.stage == .grout && s.seq.runState == .running

/-- The grout gate in GROUT_WAIT: on main 0 straight into DRAW (R98), on a shared main into GROUT_INTENT when
there are fewer drawers than G (R94). -/
def groutGate (reach : Boundary → State → State) (s : State) : State :=
  if s.grouting && s.grout.phase == .wait then
    if s.cfg Setup.main 0 = 0 then reach .groutWaitDraw s
    else if s.drawers < s.cfg Setup.concurrency 0 then reach .groutWaitEnd s
    else s
  else s

/-- A throttle: the valve closes, as though it had opened where it had not (R110), the closing opens the drain
window, the throttle is counted; a third ends the claim (R111, R113). -/
def onThrottle (reach : Boundary → State → State) (s : State) : State :=
  let n := ((s.grout.claim.map Claim.throttles).getD 0) + 1
  let s := closeGrout (openGrout s)
  let s := updateGroutRecord (fun r => { r with throttles := min (r.throttles + 1) 65535 }) s
  let s := { s with
    grout := { s.grout with claim := s.grout.claim.map fun c => { c with throttles := n } } }
  if n < 3 then reach .throttled s
  else
    let refusalMasked := s.masked .groutRefusal
    let s := endClaim claimByRefusal (detect .groutRefusal .none s)
    if refusalMasked then reach (.stageEnd true) s else reach .refusal s

/-- The throttle decision, in DRAW with the run state RUNNING (R110). -/
def throttleDecision (reach : Boundary → State → State) (s : State) : State :=
  match s.grout.record with
  | some r =>
    if s.grouting && s.grout.phase == .draw && s.grout.claim.isSome then
      unaware (.channel .gp) .overTest (compareNat (s.filtered .gp) r.limit 0) (onThrottle reach)
        (fun s => if s.drives.grout then s else openGrout s) s
    else s
  | none => s

/-- The reopen decision, in THROTTLED with the run state RUNNING (R112). -/
def reopenDecision (reach : Boundary → State → State) (s : State) : State :=
  match s.grout.record with
  | some r =>
    if s.grouting && s.grout.phase == .throttled && s.grout.claim.isSome &&
        Test.short.holds (compareNat (s.filtered .gp) r.reopen 0) then
      reach .reopened (openGrout s)
    else s
  | none => s

/-- The stage's own end is held: the stage's work is complete and its decisions are not asked again (R40,
log 14). -/
def State.stageEndHeld (s : State) : Bool :=
  s.seq.held == some (.stageEnd false) || s.seq.held == some (.stageEnd true)

/-- The grout volume decision, in every grout phase, RUNNING or PAUSED (R114). -/
def volumeDecision (reach : Boundary → State → State) (s : State) : State :=
  match s.grout.record with
  | some r =>
    if s.seq.stage == .grout && (s.seq.runState == .running || s.seq.runState == .paused) &&
        !s.stageEndHeld then
      unaware (.channel .gv) .reached (compareNat (s.filtered .gv) r.target 0)
        (fun s => reach (.stageEnd false) (endClaim claimByVolume (closeGrout s))) id s
    else s
  | none => s

/-- A claim begins, its valve not yet decided (R96). -/
def startClaim (s : State) : State :=
  let s := updateGroutRecord (fun r => { r with claimsMade := min (r.claimsMade + 1) 255 }) s
  let s := { s with
    grout := { s.grout with phase := .draw, claim := some { ticks := 0, throttles := 0 } } }
  logEvent .claimStart ((s.grout.record.map GroutRecord.claimsMade).getD 0) s

/-! ## The raise gate's moves (R85, R89, R90) -/

def resetGateTimer (s : State) : State := { s with table := { s.table with gateTimer := 0 } }

/-- The raise gate in RAISE_WAIT; while the lock approach is pending it is not evaluated (R85, R125). -/
def raiseGate (reach : Boundary → State → State) (s : State) : State :=
  if s.seq.stage == .stress && s.jack.phase == .raiseWait && s.jack.approach != .pending &&
      s.raiseConditions then
    reach .raiseWaitEnd s
  else s

/-- A withdrawal from RAISE_INTENT (R89). -/
def withdraw (reach : Boundary → State → State) (s : State) : State :=
  reach .withdrawn (logEvent .gateBackoff 0 s)

/-- A conflict in flight turns the ramp back (R90). -/
def turnBack (reach : Boundary → State → State) (s : State) : State :=
  reach .turnedBack
    (logEvent .gateBackoff 0 { s with drives := { s.drives with raise := false } })

/-! ## Ramps (R126 to R129) -/

def State.stressing (s : State) (p : StepPhase) : Bool :=
  s.seq.stage == .stress && s.seq.runState == .running && s.jack.phase == p

def State.loadAgainst (s : State) (target : Nat) : Condition :=
  compareNat (s.filtered .load) target (s.cfg Setup.loadTolerance 0)

/-- Whether the current step takes no hold: a LOAD or UNLOAD step with hold 0. -/
def ScheduleStep.ends (x : ScheduleStep) : Bool := x.kind != .lock && x.hold == 0

/-- A stop ends the phase of a step: the reached load, and for a step with no hold its outcome and the pair it
takes (R147, R155). -/
def stepReached (s : State) : State :=
  let s := handReached s
  match s.currentStep with
  | some x =>
    if x.ends then
      takePair { load := s.filtered .load, ext := s.extension }
        (updateEntry (StepEntry.setOutcome .done) s)
    else s
  | none => s

/-- The ramp stop gives true (R126, R132). -/
def rampStopped (reach : Boundary → State → State) (s : State) : State :=
  let s := { s with drives := { s.drives with raise := false } }
  let s := if s.jack.stepIndex = 1 then setDatum s else s
  finishPhase reach .rampUpEnd (stepReached s)

/-- The ramp stop; while it gives false the raise valve is open, but where the rate limit holds it (R126, R127). -/
def rampStop (reach : Boundary → State → State) (rateHolds : Bool) (s : State) : State :=
  if s.stressing .rampUp then
    unaware (.channel .load) .reached (s.loadAgainst s.stepTarget) (rampStopped reach)
      (fun s => { s with drives := { s.drives with raise := !rateHolds } }) s
  else s

/-- The rate limit against a history whose last value is the present one (R127). -/
def rateHolds (rampRate : Nat) (history : List (Option Nat)) : Bool :=
  match history.head?, history.getLast? with
  | some (some old), some (some now) => decide ((rampRate : Int) < 6 * ((now : Int) - (old : Int)))
  | _, _ => false

/-- The rate history with one more value, at most 51 (R127). -/
def pushHistory (v : Option Nat) (h : List (Option Nat)) : List (Option Nat) :=
  (h ++ [v]).drop (h.length + 1 - 51)

/-- A LOAD sample event in RAMP_UP (R126, R127). -/
def rampSample (reach : Boundary → State → State) (s : State) : State :=
  let h := pushHistory (s.filtered .load) s.jack.ramp.history
  rampStop reach (rateHolds (s.cfg Setup.rampRate 0) h)
    { s with jack := { s.jack with ramp := { s.jack.ramp with history := h } } }

/-- The ramp allowance in seconds (R128). -/
def rampAllowance (target startLoad rampRate : Nat) : Nat :=
  if target ≤ startLoad then 60 else 12 * (target - startLoad) / rampRate + 60

/-- The ramp clock at an advance of the job clock (R126, R128). -/
def rampClock (s : State) : State :=
  let c := min (s.jack.ramp.clock + 1) Config.clockMax
  let s := { s with jack := { s.jack with ramp := { s.jack.ramp with clock := c } } }
  if rampAllowance s.stepTarget s.jack.ramp.startLoad (s.cfg Setup.rampRate 0) < c &&
      !s.jack.ramp.slow then
    detect .rateSlow .none
      { s with jack := { s.jack with ramp := { s.jack.ramp with slow := true } } }
  else s

/-- Enter RAMP_UP: a new ramp record, and the ramp stop at once (R126). -/
def enterRampUp (reach : Boundary → State → State) (s : State) : State :=
  let s := setStepPhase .rampUp s
  rampStop reach false
    { s with
      jack :=
        { s.jack with
          ramp :=
            { startLoad := (s.filtered .load).getD 0, clock := 0, history := [], slow := false } } }

/-- The unload stop gives true (R129): the lower valve shuts, and where an overload or a stroke taken at that closing does
not act first, the phase ends (R137, R138, R168). -/
def unloadStopped (reach : Boundary → State → State) (s : State) : State :=
  shutLower
    (fun s => if s.stressing .rampDown then finishPhase reach .rampDownEnd (stepReached s) else s) s

/-- The unload stop; while it gives false the lower valve is open (R129). -/
def unloadStop (reach : Boundary → State → State) (s : State) : State :=
  if s.stressing .rampDown then
    unaware (.channel .load) .clear (s.loadAgainst s.stepTarget) (unloadStopped reach)
      (fun s => { s with drives := { s.drives with lower := true } }) s
  else s

def enterRampDown (reach : Boundary → State → State) (s : State) : State :=
  unloadStop reach (setStepPhase .rampDown s)

/-! ## Load maintenance (R131) -/

/-- The top-up start and stop, in HOLD, RUNNING or PAUSED. -/
def loadMaintenance (s : State) : State :=
  if s.seq.stage == .stress && s.jack.phase == .hold &&
      (s.seq.runState == .running || s.seq.runState == .paused) then
    if s.jack.topUp then
      unaware (.channel .load) .reached (s.loadAgainst s.stepTarget)
        (fun s =>
          { s with
            drives := { s.drives with raise := false }, jack := { s.jack with topUp := false } })
        id s
    else
      unaware (.channel .load) .short (s.loadAgainst s.stepTarget)
        (fun s =>
          countTopUp
            { s with
              drives := { s.drives with raise := true }, jack := { s.jack with topUp := true } })
        id s
  else s

/-- Enter HOLD (R130, R131). -/
def enterHold (s : State) : State :=
  let s := setStepPhase .hold s
  loadMaintenance
    { s with
      jack :=
        { s.jack with
          holdClock := 0, holdLength := s.currentStep.map ScheduleStep.hold, topUp := false } }

/-- Leave HOLD: the clock returns to 0 and a top-up ends (R130, R131). -/
def leaveHold (s : State) : State :=
  { s with
    drives := { s.drives with raise := false }
    jack := { s.jack with holdClock := 0, holdLength := none, topUp := false } }

/-! ## Lock-off (R133 to R136) -/

/-- SEATING under way: it ends at once with SEAT active, else the drive is on and its limit starts from 0
(R133, R44). -/
def startSeating (reach : Boundary → State → State) (s : State) : State :=
  let s := { s with jack := { s.jack with lockOffTimer := 0 } }
  if s.contacts.seat.active then
    reach .seatingEnd { s with drives := { s.drives with seating := false } }
  else { s with drives := { s.drives with seating := true } }

/-- Enter SEATING; where no stop has handed a load, the filtered LOAD is recorded (R147). -/
def enterSeating (reach : Boundary → State → State) (s : State) : State :=
  let s := setStepPhase .seating s
  startSeating reach
    (updateEntry (fun e => if e.reached.isNone then { e with reached := s.filtered .load } else e) s)

/-- RELEASE under way (R134, R44). -/
def startRelease (reach : Boundary → State → State) (s : State) : State :=
  let s := { s with jack := { s.jack with lockOffTimer := 0 } }
  if s.contacts.jackHome.active then
    reach .releaseEnd { s with drives := { s.drives with lower := false } }
  else { s with drives := { s.drives with lower := true } }

def enterRelease (reach : Boundary → State → State) (s : State) : State :=
  startRelease reach (setStepPhase .release s)

/-- SETTLE under way: the 60 s start from 0 (R135, R44). -/
def startSettle (s : State) : State := { s with jack := { s.jack with lockOffTimer := 0 } }

/-- A contact ends SEATING or RELEASE (R15, R133, R134). -/
def contactWork (reach : Boundary → State → State) (s : State) : State :=
  if s.stressing .seating && s.contacts.seat.active then
    reach .seatingEnd { s with drives := { s.drives with seating := false } }
  else if s.stressing .release && s.contacts.jackHome.active then
    shutLower (fun s => if s.stressing .release then reach .releaseEnd s else s) s
  else s

/-- The lock check of a locked load against the lock target with the lock tolerance (R136). -/
def lockOutcomeOf (locked target tolerance : Nat) : LockOutcome :=
  if Test.short.holds (compareNat (some locked) target tolerance) then .loss else .pass

/-- The settle end and the lock check (R135, R136, R158). -/
def settleEnd (reach : Boundary → State → State) (s : State) : State :=
  if s.stressing .settle && decide (60 ≤ s.jack.lockOffTimer) then
    match s.filtered .load with
    | none => s
    | some v =>
      let o := lockOutcomeOf v s.stepTarget (s.cfg Setup.lockTolerance 0)
      let s := { s with jack := { s.jack with lockedLoad := some v } }
      let s := updateSummary (fun j => { j with lockedLoad := some v, lockOutcome := o }) s
      let s := updateEntry (StepEntry.setOutcome .done) s
      let s := if o = .loss then detect .lockLoss .none s else s
      reach (.stageEnd false) s
  else s

/-- The lock-off timer at an advance of the job clock, with its limits (R133 to R135). -/
def lockOffClock (reach : Boundary → State → State) (s : State) : State :=
  let t := min (s.jack.lockOffTimer + 1) 61
  let s := { s with jack := { s.jack with lockOffTimer := t } }
  match s.jack.phase with
  | .seating =>
    if 31 ≤ t then
      detect .seatFail .seat { s with drives := { s.drives with seating := false } }
    else s
  | .release =>
    if 61 ≤ t then shutLower (detect .seatFail .release) s else s
  | .settle => if t = 60 then settleEnd reach s else s
  | _ => s

/-! ## Steps (R124, R125) -/

/-- The lock approach: `atStart` at the step's start, where its change of phase belongs to the boundary that began
the step; later the change is a boundary of its own (R125). -/
def lockApproach (reach : Boundary → State → State) (atStart : Bool) (s : State) : State :=
  if s.stressing .raiseWait && s.jack.approach == .pending then
    let made := { s with jack := { s.jack with approach := .made } }
    match s.loadAgainst s.stepTarget with
    | .void => s
    | .below => raiseGate reach made
    | .above => if atStart then enterRampDown reach made else reach .approachAbove made
    | .within => if atStart then enterSeating reach made else reach .approachWithin made
  else s

/-- What RAISE_WAIT evaluates when the run state becomes RUNNING in it: the lock approach while that is pending,
else the raise gate (R85, R125). -/
def raiseWaitWork (reach : Boundary → State → State) (s : State) : State :=
  if s.jack.approach = .pending then lockApproach reach false s else raiseGate reach s

/-- A step starts: its index, STEP_START, its entry, and its first phase (R124, R146). -/
def beginStep (reach : Boundary → State → State) (index : Nat) (s : State) : State :=
  let s := { s with jack := { s.jack with stepIndex := index, approach := .none } }
  let s := logEvent .stepStart index s
  match s.currentStep with
  | none => s
  | some x =>
    let s := { s with
      eval := { s.eval with results := s.eval.results ++ [StepEntry.opened index x] } }
    match x.kind with
    | .load => raiseGate reach (resetGateTimer (setStepPhase .raiseWait s))
    | .unload => enterRampDown reach s
    | .lock =>
      let s := resetGateTimer (setStepPhase .raiseWait s)
      lockApproach reach true { s with jack := { s.jack with approach := .pending } }

/-- What follows a ramp stop or an unload stop (R123). -/
def afterRamp (reach : Boundary → State → State) (s : State) : State :=
  match s.currentStep with
  | some x =>
    if x.kind = .lock then enterSeating reach s
    else if x.hold = 0 then beginStep reach (s.jack.stepIndex + 1) s
    else enterHold s
  | none => s

/-! ## Passing a boundary (R40, R123) -/

/-- Pass a boundary and begin the next piece of work. -/
def proceed : Nat → Boundary → State → State
  | 0, _, s => s
  | n + 1, b, s =>
    let reach := reachWith (proceed n)
    let s := { s with seq := { s.seq with held := none } }
    match b with
    | .raiseWaitEnd =>
      let s := setStepPhase .raiseIntent s
      { s with table := { s.table with raiseTicks := 0 } }
    | .raiseIntentEnd => enterRampUp reach s
    | .withdrawn => raiseGate reach (setStepPhase .raiseWait s)
    | .turnedBack => raiseGate reach (resetGateTimer (setStepPhase .raiseWait s))
    | .gateTimeout => raiseWaitWork reach (resetGateTimer s)
    | .approachAbove => enterRampDown reach s
    | .approachWithin => enterSeating reach s
    | .rampUpEnd => afterRamp reach s
    | .rampDownEnd => afterRamp reach s
    | .holdEnd => beginStep reach (s.jack.stepIndex + 1) (leaveHold s)
    | .seatingEnd => enterRelease reach s
    | .releaseEnd => startSettle (setStepPhase .settle s)
    | .groutWaitEnd =>
      { s with grout := { s.grout with phase := .intent, intentTicks := 0 } }
    | .groutWaitDraw => throttleDecision reach (startClaim s)
    | .groutIntentEnd => throttleDecision reach (startClaim s)
    | .gaveWay => setGroutPhase .wait s
    | .throttled =>
      logEvent .throttle ((s.grout.claim.map Claim.throttles).getD 0) (setGroutPhase .throttled s)
    | .reopened => throttleDecision reach (setGroutPhase .draw s)
    | .claimLimit => { s with grout := { s.grout with phase := .rest, restTicks := 0 } }
    | .refusal => groutGate reach (setGroutPhase .wait s)
    | .restEnd => groutGate reach (setGroutPhase .wait s)
    | .stageEnd refused => endStage refused s

/-- More boundaries than any one moment can chain: a schedule has at most 12 steps, and each adds at most two. -/
def chainBound : Nat := 32

/-- Reach a boundary (R40, R167). -/
def reach (b : Boundary) (s : State) : State := reachWith (proceed chainBound) b s

/-- Where a held boundary is passed to: one at a gate into the gate's wait phase, one inside a claim into
GROUT_WAIT, any other to its own next piece (R93, R115, R40). -/
def resumedBoundary : Boundary → Boundary
  | .raiseWaitEnd => .withdrawn
  | .raiseIntentEnd => .withdrawn
  | .groutWaitEnd => .restEnd
  | .groutWaitDraw => .restEnd
  | .groutIntentEnd => .restEnd
  | .gaveWay => .restEnd
  | .throttled => .restEnd
  | .reopened => .restEnd
  | b => b

/-- Pass the held boundary on RESUME: the pending set is looked at once more; a fault taken again holds the same
boundary (R40, R167). -/
def passHeld (b : Boundary) (s : State) : State :=
  reachWith (fun b s => proceed chainBound (resumedBoundary b) s) b s

/-! ## Abort (R48, R49, R142, R143) -/

/-- The end of an abort's lowering (R49, R143), with the PHASE record of the phase that becomes none (R144, log 15). -/
def endAbort (s : State) : State :=
  let s := logEvent .stageEnd argAborted { s with drives := { s.drives with lower := false } }
  let s := updateSummary (fun j => { j with jobStatus := .aborted }) (setStepPhase .none s)
  { s with
    seq := s.seq.stageLess
    jack := { s.jack.stageLess with lockedLoad := none }
    table := s.table.stageLess
    faults := { s.faults with pending := [] } }

/-- The abort lowering decision, and JACK_HOME in either part (R49). -/
def lowering (s : State) : State :=
  if s.seq.stage == .stress && s.seq.runState == .aborting then
    if s.contacts.jackHome.active then endAbort s
    else if !s.jack.lowerSecond && Test.short.holds (s.loadAgainst s.datumTarget) then
      { s with jack := { s.jack with lowerSecond := true } }
    else s
  else s

/-- The lowering begins, from its first part (R49). -/
def startLowering (s : State) : State :=
  lowering
    { s with
      seq := { s.seq with runState := .aborting }
      drives := { s.drives with raise := false, seating := false, lower := true }
      jack := { s.jack with lowerSecond := false } }

/-- ABORT of a STRESS stage: the entry is closed, the work of the phase ends, the lowering begins (R49, R142,
R160). The PHASE record is written even where the phase already was RAMP_DOWN (log 15). -/
def abortStress (s : State) : State :=
  let s := leaveHold (closeEntry s)
  let s := { s with
    seq := { s.seq with abortMark := true }
    jack := { s.jack with phase := .rampDown, ramp := .cleared } }
  startLowering (logEvent .phase StepPhase.rampDown.code s)

/-- ABORT of a WINCH stage (R48, R106). -/
def abortWinch (s : State) : State :=
  let s := updateWinch (fun w => { w with outcome := .aborted }) (winchOff s)
  let s := logEvent .stageEnd argAborted s
  { s with seq := s.seq.stageLess }

/-- ABORT of a GROUT stage (R48, R116). -/
def abortGrout (s : State) : State :=
  let s := endClaim claimByAbort (closeGrout s)
  let s := updateGroutRecord (fun r => { r with mark := .part }) s
  let s := logEvent .stageEnd argAborted s
  { s with seq := s.seq.stageLess, grout := s.grout.stageLess }

/-! ## Entering PAUSED from FAULTED or STOPPED, and resuming (R44 to R46) -/

/-- The decisions that come into force in PAUSED: load maintenance in HOLD, the grout volume (R46, R131, R114). -/
def pausedDecisions (s : State) : State := volumeDecision reach (loadMaintenance s)

/-- CHANNEL_LOST of every channel that stood lost in state `u`, in any order (R46). -/
def lossAsked (u s : State) : State :=
  (ChannelName.all.filter u.standsLost).foldr
    (fun c rest => eitherOrder (detect .channelLost (.channel c)) rest) id s

/-- The kinds taken at once that ACKNOWLEDGE finds still standing: overload, stroke, and the loss of a channel (R46). -/
def acknowledgedKinds (u s : State) : State := eitherOrder (watchAsked u) (lossAsked u) s

/-- Enter PAUSED from FAULTED or STOPPED: the kinds that are asked there, and the stage's decisions, are evaluated at once
(R25, R45, R46, R168). ACKNOWLEDGE asks for the loss of a channel too, as R46 has it; on RESUME in STOPPED the channel's next
sample event detects it, as the text after R12 has it (log 36). -/
def enterPaused (kinds : State → State → State) (s : State) : State :=
  let t := setRunState .paused s
  besideKinds (kinds t) pausedDecisions t

/-- RESUME takes up the work of the phase (R44). A WINCH stage asks both its decisions at once, so that a line over tension
is detected at the RESUME itself (R44, R106, log 45). -/
def resumeWork (s : State) : State :=
  match s.seq.stage with
  | .none => s
  | .winch => winchDecisions reach s
  | .grout =>
    match s.grout.phase with
    | .wait => groutGate reach s
    | .draw => throttleDecision reach s
    | .throttled => reopenDecision reach s
    | .none | .intent | .rest => s
  | .stress =>
    match s.jack.phase with
    | .raiseWait => raiseWaitWork reach s
    | .rampUp => raiseGate reach (resetGateTimer (setStepPhase .raiseWait s))
    | .rampDown => unloadStop reach s
    | .seating => startSeating reach s
    | .release => startRelease reach s
    | .settle => startSettle s
    | .none | .raiseIntent | .hold => s

/-- What an accepted RESUME does in RUNNING: it passes the held boundary, or takes up the work of the phase (R44). -/
def takeUpWork (s : State) : State :=
  if s.seq.runState = .running then
    match s.seq.held with
    | some b => passHeld b s
    | none => resumeWork s
  else s

/-- RESUME accepted in PAUSED (R44): the run state becomes RUNNING, and the overload and stroke decisions are asked at that
change, beside the work that it takes up (R137, R138, R168). -/
def resumePaused (s : State) : State :=
  if s.seq.abortMark then startLowering s
  else
    let t := setRunState .running s
    besideKinds (watchAsked t) takeUpWork t

/-! ## The clocks of a stage (R37, R92, R105, R126, R130, R133 to R135) -/

/-- The gate timer at an advance of the job clock, and the timeout (R92). -/
def gateClock (s : State) : State :=
  let limit := s.cfg Setup.gateTimeout 0 * 60
  if s.table.gateTimer < limit then
    let t := s.table.gateTimer + 1
    let s := { s with table := { s.table with gateTimer := t } }
    if t = limit then
      let timeoutMasked := s.masked .gateTimeout
      let s := detect .gateTimeout .none s
      if timeoutMasked then s else reach .gateTimeout (setStepPhase .raiseWait s)
    else s
  else s

/-- What an advance of the job clock brings to the stage in progress. -/
def stageClocks (s : State) : State :=
  match s.seq.stage with
  | .none | .grout => s
  | .winch => stallClock s
  | .stress =>
    if s.jack.phase = .hold then
      holdClockWork reach
        { s with jack := { s.jack with holdClock := min (s.jack.holdClock + 1) Config.clockMax } }
    else if s.seq.runState = .running then
      match s.jack.phase with
      | .raiseWait | .raiseIntent => gateClock s
      | .rampUp => rampClock s
      | .seating | .release | .settle => lockOffClock reach s
      | .none | .hold | .rampDown => s
    else s

end Sys2Proof.Machine
end

