-- ==== Sys2Proof/Machine/Notices.lean ====
section
/-!
DEFINITION. Own notices: the transmit slot as the neighbour table block fills it (R62, R70, R82, R83), and the
close of every event: decisions that come into force, drives, one notice request (R53, R83, R137).
-/
namespace Sys2Proof.Machine

/-! ## Placing a notice -/

/-- Place a newly formed notice with a status; it uses a sequence of its own, and the loss count becomes 0 (R62,
R66, R82, R83). The notice carries the own sequence as it stands, which is then advanced, as R83 has it: the first notice
after power-up carries 0. The table of R82 has it advanced first (log 48). -/
def placeNotice (status : SlotStatus) (s : State) : State :=
  { s with
    line :=
      { s.line with
        slot := some { frame := formNotice s, status := status, retry := true }, lossCount := 0 }
    table := { s.table with ownSequence := (s.table.ownSequence + 1) % 256 } }

/-- A notice request, by the state of the slot; none before SETUP, dropped in BREAK (R62, R70, R72). -/
def requestNotice (s : State) : State :=
  if s.seq.config.isNone ∨ s.line.state = .broken then s
  else
    match s.line.slot with
    | none => placeNotice .waiting s
    | some n =>
      match n.status with
      | .waiting => placeNotice .waiting s
      | .backoff => placeNotice .backoff s
      | .sending _ => { s with line := { s.line with followOn := true } }

/-- The follow-on notice at the end of an attempt: it replaces what the slot then holds, and a back-off wait in
progress stands for it (R62). -/
def followOnNotice (s : State) : State :=
  if s.line.followOn then
    let status :=
      match s.line.slot with
      | some { status := .backoff, .. } => SlotStatus.backoff
      | _ => SlotStatus.waiting
    placeNotice status { s with line := { s.line with followOn := false } }
  else s

/-! ## The close of an event -/

/-- What a notice announces by itself, without a tick: its phase and its flags (R83). -/
def State.announced (s : State) : NoticePhase × Flags := (s.noticePhase, s.ownFlags)

/-- After the effects `t` of an event in state `s`: drives out of the row where they work are shut (R53), and where
the event has changed the run state or closed the lower valve, the overload and stroke decisions are evaluated (R137,
R138). A change or a closing beside which the same event reaches a boundary has had its evaluation where it came about,
by `besideKinds`; once more they detect nothing new (log 33). -/
def settle (s t : State) : State :=
  let t := enforceDrives t
  if t.seq.runState ≠ s.seq.runState ∨ (s.drives.lower = true ∧ t.drives.lower = false) then
    enforceDrives (watchDecisions t)
  else t

/-- A change of the notice phase or of any own flag sends one prompt notice for the event (R83); before SETUP, and
at its acceptance, none (R72, log 11). -/
def prompt (s t : State) : State :=
  if s.seq.config.isSome ∧ t.announced ≠ s.announced then requestNotice t else t

/-- No drive stands open outside its row, and nothing an event does reaches the queue of waiting commands. -/
def secure (s t : State) : State := { enforceDrives t with pending := s.pending }

/-- The whole close of an event with effects `t` in state `s`. -/
def finish (s t : State) : State := secure s (prompt s (settle s t))

/-- A row that names what comes about inside a larger event is that event on the occasion that it comes about;
without the occasion it does not come about, and nothing changes (log 1). -/
def occasion (due : Bool) (event : State → State) (s : State) : State := if due then event s else s

end Sys2Proof.Machine
end

