-- ==== Sys2Proof/Machine/Sampling.lean ====
section
/-!
DEFINITION. The field side (chapter 1, and the decisions of chapter 2 that stand on a channel): sample events,
contact reads, flow pulses, the drain window.
-/
namespace Sys2Proof.Machine

/-- The channel that a sample event reads. -/
def inputChannel : SampleInput → ChannelName
  | .load _ => .load | .ext _ => .ext | .gp _ => .gp | .gv => .gv | .wl _ => .wl | .wt _ => .wt

/-- The sample that an event forms (R3, R5); none is VOID. -/
def State.sampleOf (s : State) : SampleInput → Option Sample
  | .load i => loopSample ChannelName.load.top i
  | .ext i => loopSample ChannelName.ext.top i
  | .gp i => loopSample ChannelName.gp.top i
  | .wl i => loopSample ChannelName.wl.top i
  | .wt i => loopSample ChannelName.wt.top i
  | .gv =>
    if s.contacts.flowFault.active then none
    else some { value := s.chans.gvCount, overMark := s.chans.gvOver }

/-- Form the sample and update the channel's filter (R2, R7, R8, R11, R12). -/
def takeSample (i : SampleInput) (s : State) : State :=
  s.updateChan (inputChannel i) fun c => c.take (s.sampleOf i)

/-! ## Contacts and the break drive (R15, R16, R68) -/

/-- The station begins driving the break: an attempt in progress is abandoned, and a follow-on mark handled
(R68). -/
def startBreakDrive (s : State) : State :=
  if s.line.breakDrive then s
  else
    let s := { s with line := { s.line with breakDrive := true, breakBits := 0 } }
    match s.line.slot with
    | some n =>
      match n.status with
      | .sending _ =>
        followOnNotice { s with line := { s.line with slot := some { n with status := .waiting } } }
      | .waiting | .backoff => s
    | none => s

/-- The break drive ends once ESTOP is inactive and the least drive has been given (R68). -/
def endBreakDrive (s : State) : State :=
  if s.line.breakDrive && !s.contacts.estop.active &&
      decide (Config.breakDriveMin ≤ s.line.breakBits) then
    { s with line := { s.line with breakDrive := false } }
  else s

/-- Read the four contacts (R15, R16). -/
def readContacts (r : ContactRead) (s : State) : State :=
  { s with
    contacts :=
      { seat := s.contacts.seat.read r.seatClosed
        jackHome := s.contacts.jackHome.read r.jackHomeClosed
        flowFault := s.contacts.flowFault.read r.flowFaultClosed
        estop := s.contacts.estop.readEstop r.estopOpen } }

/-- A read of the contacts with all that the debounced states bring: the break drive, the end of SEATING, of
RELEASE and of an abort's lowering (R15, R16, R49, R68). -/
def contactEvent (r : ContactRead) (s : State) : State :=
  let s := readContacts r s
  let s := if s.contacts.estop.active then startBreakDrive s else endBreakDrive s
  lowering (contactWork reach s)

/-! ## Lost channels (R12, R13) -/

/-- The detection of CHANNEL_LOST at a sample event of the channel: lost and needed now, and not so at the
previous sample event (R12). `lost` is asked of the value just formed, before any boundary or decision of the event acts, so
that the detection stands in whichever order they act (R168, R172, log 7). -/
def lossWatch (c : ChannelName) (lost : Bool) (s : State) : State :=
  if lost && !(s.chan c).lostBefore then detect .channelLost (.channel c) s else s

/-- The mark that the channel's next sample event finds: lost and needed at this one. Where the event ends the need, as a
taken detection does, the channel no longer stands lost and needed: once it is needed again, its next sample event detects
it (R12's last paragraph). -/
def markLost (c : ChannelName) (lost : Bool) (s : State) : State :=
  s.updateChan c fun ch => { ch with lostBefore := lost && s.needed c }

/-- The LOAD VOID detection under a locked anchor (R13). -/
def driftLossWatch (s : State) : State :=
  let lost := decide (s.chans.load.voidRun = Config.lostCount) && s.driftWatched
  let before := s.chans.driftLostBefore
  let s := { s with chans := { s.chans with driftLostBefore := lost } }
  if lost && !before then detect .anchorDrift .loadVoid s else s

/-! ## The decisions that read a channel (R24, R25, R27) -/

/-- What the overload or the stroke decision, whichever reads the channel, detects on the value just formed (R137,
R138); none where it is out of force or gives false. -/
def State.watchKind (s : State) : ChannelName → Option FaultKind
  | .load => if s.overloaded then some .loadLimit else none
  | .ext => if s.strokeEnded then some .strokeEnd else none
  | .gp | .gv | .wl | .wt => none

/-- The detections that do not belong to the stage's own work: overload or stroke, and a lost channel, each as asked of the
value before anything else of the event acted. A boundary passed first takes none of them back (R168). -/
def watchAt (c : ChannelName) (kind : Option FaultKind) (lost : Bool) (s : State) : State :=
  let s :=
    match kind with
    | some k => detect k .none s
    | none => s
  let s := lossWatch c lost s
  if c = .load then driftLossWatch s else s

/-- The decisions of the stage in progress on LOAD, and of the drift watch (R125, R126, R129, R131, R135, R139,
R49). -/
def loadWork (s : State) : State :=
  match s.seq.stage with
  | .none => driftDecision s
  | .winch | .grout => s
  | .stress =>
    match s.jack.phase with
    | .raiseWait => lockApproach reach false s
    | .rampUp => if s.stressing .rampUp then rampSample reach s else s
    | .hold => loadMaintenance s
    | .rampDown => lowering (unloadStop reach s)
    | .settle => settleEnd reach s
    | .none | .raiseIntent | .seating | .release => s

/-- The standing decisions of the work that read a channel. On WL the length decision acts first, and a value that turns the
drive off does not advance the stall reference (log 44). -/
def workAt (c : ChannelName) (s : State) : State :=
  match c with
  | .load => loadWork s
  | .ext => s
  | .gp => if s.grout.phase = .throttled then reopenDecision reach s else throttleDecision reach s
  | .gv => volumeDecision reach s
  | .wl => stallReference (lengthDecision reach s)
  | .wt => snagDecision s

/-- The stage's side of a sample event: the contact read where the event carries it, then the decisions that read the
channel (R2, R15, log 6, log 7). -/
def eventWork (c : ChannelName) (contacts : Option ContactRead) (s : State) : State :=
  workAt c
    (match contacts with
     | some r => contactEvent r s
     | none => s)

/-- A sample event: sample and filter, then what does not belong to the stage beside the stage's side (R2, R25, R168).
Overload, stroke and loss are asked of the value as it is formed, so that no boundary that the event passes and no valve that
it opens takes them back, and a stage's end does not act before them (log 7, log 42). -/
def sampleWork (i : SampleInput) (contacts : Option ContactRead) (s : State) : State :=
  let c := inputChannel i
  let s := takeSample i s
  let lost := s.standsLost c
  markLost c lost (besideKinds (watchAt c (s.watchKind c) lost) (eventWork c contacts) s)

/-! ## The commands -/

/-- SAMPLE_EVENT (R2). -/
def execSampleEvent (i : SampleInput) (contacts : Option ContactRead) (s : State) :
    Host.Outcome State Fault Refusal :=
  .next (finish s (sampleWork i contacts s))

/-- Whether a contact read changes the debounced state of SEAT, JACK_HOME or FLOW_FAULT (R15). -/
def contactChanges (r : ContactRead) (s : State) : Bool :=
  let t := readContacts r s
  t.contacts.seat.active != s.contacts.seat.active ||
  t.contacts.jackHome.active != s.contacts.jackHome.active ||
  t.contacts.flowFault.active != s.contacts.flowFault.active

/-- CONTACT_DEBOUNCED: the contact read at which one of the three debounced states changes (R15). -/
def execContactDebounced (r : ContactRead) (s : State) : Host.Outcome State Fault Refusal :=
  .next (finish s (occasion (contactChanges r s) (contactEvent r) s))

/-- ESTOP_RELEASED: the contact read at which ESTOP becomes inactive (R16). -/
def execEstopReleased (r : ContactRead) (s : State) : Host.Outcome State Fault Refusal :=
  .next
    (finish s
      (occasion (s.contacts.estop.active && !(readContacts r s).contacts.estop.active)
        (contactEvent r) s))

/-- Whether the sample event is the one that detects the channel's loss (R12). -/
def lossDue (i : SampleInput) (s : State) : Bool :=
  let c := inputChannel i
  let t := takeSample i s
  t.standsLost c && !(t.chan c).lostBefore

/-- CHANNEL_LOST: the sample event of a needed channel at which its loss is detected (R12). -/
def execChannelLost (i : SampleInput) (s : State) : Host.Outcome State Fault Refusal :=
  .next (finish s (occasion (lossDue i s) (sampleWork i none) s))

/-- Whether the LOAD sample event is the one that detects LOAD VOID under a locked anchor (R13). -/
def driftLossDue (nanoamp : Nat) (s : State) : Bool :=
  let t := takeSample (.load nanoamp) s
  decide (t.chans.load.voidRun = Config.lostCount) && t.driftWatched && !t.chans.driftLostBefore

/-- DRIFT_LOAD_VOID: that LOAD sample event (R13). -/
def execDriftLoadVoid (nanoamp : Nat) (s : State) : Host.Outcome State Fault Refusal :=
  .next (finish s (occasion (driftLossDue nanoamp s) (sampleWork (.load nanoamp) none) s))

/-- A flow meter pulse (R4). -/
def countPulse (s : State) : State :=
  if (s.drives.grout || s.chans.drainOpen) && !s.contacts.flowFault.active then
    if s.chans.gvCount < Config.gvMax then
      { s with chans := { s.chans with gvCount := s.chans.gvCount + 1 } }
    else { s with chans := { s.chans with gvOver := true } }
  else s

/-- FLOW_PULSE (R4). -/
def execFlowPulse (s : State) : Host.Outcome State Fault Refusal := .next (finish s (countPulse s))

/-- DRAIN_WINDOW_CLOSE: 2 s after the grout valve closed (R4). With the valve open the counting window is open by
the valve, and no drain window runs. -/
def execDrainWindowClose (s : State) : Host.Outcome State Fault Refusal :=
  .next (finish s { s with chans := { s.chans with drainOpen := false } })

end Sys2Proof.Machine
end

