-- ==== Sys2Proof/Machine/Line.lean ====
section
/-!
DEFINITION. The wall line interface, bit time by bit time (chapter 4): own drive, monitor, attempt and readback,
receiver, receive queue, break; and the application of the head frame (R61, R76) with the gate checks it brings.
-/
namespace Sys2Proof.Machine

/-! ## What the station drives (R54, R55, R63, R68) -/

/-- The bit at a position of a frame, true for dominant: characters of 11 bits, of which the start is dominant, the
data bits 7 down to 0 are dominant for 0, the mark is dominant on the first character, the stop is recessive
(R55). -/
def frameBit (frame : List Byte) (pos : Nat) : Bool :=
  let b := frame.getD (pos / 11) 0
  match pos % 11 with
  | 0 => true
  | 9 => pos / 11 == 0
  | 10 => false
  | i => !b.getLsbD (8 - i)

/-- The recessive run at which a back-off wait ends (R64). -/
def backoffRun (station : Nat) : Nat := 12 + (station % 8 + 1) * 11

/-- A sending attempt begins at this bit time: a waiting notice with the line state IDLE, or a back-off wait whose
recessive run is reached (R63, R64), at once where the run stands at the figure when the wait begins (log 41); none while the
station drives a break (R68). -/
def State.attemptBegins (s : State) : Bool :=
  !s.line.breakDrive && s.line.state == .idle &&
  match s.line.slot with
  | some { status := .waiting, .. } => true
  | some { status := .backoff, .. } => decide (backoffRun (s.cfg Setup.station 0) ≤ s.line.recRun)
  | _ => false

/-- Begin the attempt that is due (R63). -/
def beginAttempt (s : State) : State :=
  if s.attemptBegins then
    { s with line := { s.line with slot := s.line.slot.map fun n => { n with status := .sending 0 } } }
  else s

/-- The bit the station itself drives in this bit time; true for dominant, none while it leaves the line alone and
sends nothing. -/
def State.ownBit (s : State) : Option Bool :=
  if s.line.breakDrive then some true
  else
    match s.line.slot with
    | some { frame := f, status := .sending n, .. } => some (frameBit f n)
    | _ => none

/-- The three samples of the line in a bit time: wired-AND of the other stations and the station's own drive
(R54). -/
def lineSamples (own : Option Bool) (b : BitTime) : Bool × Bool × Bool :=
  let mine := own == some true && !b.driverFails
  (b.first || mine, b.second || mine, b.third || mine)

/-- The majority of three samples (R54). -/
def majority : Bool × Bool × Bool → Bool
  | (a, b, c) => (a && b) || (a && c) || (b && c)

/-- Samples that do not all agree (R54). -/
def disagree : Bool × Bool × Bool → Bool
  | (a, b, c) => a != b || b != c

/-! ## The line monitor (R56) -/

/-- The run counts after a bit time (R56). The recessive bit times that end a frame count, so that the run at the frame's end
is not 0 (log 43). -/
def countRuns (dominant : Bool) (l : Line) : Line :=
  if dominant then { l with domRun := min (l.domRun + 1) Config.runMax, recRun := 0 }
  else { l with domRun := 0, recRun := min (l.recRun + 1) Config.runMax }

/-- The line state after a bit time, from the run counts that it leaves (R56). -/
def nextLineState (state : LineState) (domRun recRun : Nat) : LineState :=
  match state with
  | .idle => if 0 < domRun then .busy else .idle
  | .busy =>
    if Config.idleRun ≤ recRun then .idle else if Config.breakRun ≤ domRun then .broken else .busy
  | .broken => if Config.idleRun ≤ recRun then .idle else .broken

/-- The monitor at a bit time. -/
def monitorBit (dominant : Bool) (l : Line) : Line :=
  let m := countRuns dominant l
  { m with state := nextLineState m.state m.domRun m.recRun }

/-! ## Attempts (R63 to R67) -/

/-- How a bit time leaves an attempt. -/
inductive AttemptStep where
  | none | goesOn | lost | succeeds
deriving DecidableEq, Repr

/-- Readback: a mismatch loses the attempt, the last bit read back completes it (R64, R65). -/
def attemptStep (slot : Option Slot) (own : Option Bool) (dominant : Bool) : AttemptStep :=
  match slot, own with
  | some { status := .sending n, .. }, some bit =>
    if bit ≠ dominant then .lost
    else if n + 1 = Config.noticeBits then .succeeds
    else .goesOn
  | _, _ => .none

/-- A loss: counted; the sixteenth drops the notice and detects LINE_FAULT (BLOCKED); a notice not to be retried
leaves the slot; any other waits out a back-off. Then the follow-on notice (R62, R64, R66, R67). -/
def loseAttempt (s : State) : State :=
  let losses := s.line.lossCount + 1
  let s :=
    if Config.lossLimit ≤ losses then
      detect .lineFault .blocked { s with line := { s.line with slot := none, lossCount := 0 } }
    else
      { s with
        line :=
          { s.line with
            lossCount := losses
            slot := s.line.slot.bind fun n =>
              if n.retry then some { n with status := .backoff } else none } }
  followOnNotice s

/-- An attempt's bit time (R63 to R66). -/
def actOnAttempt (a : AttemptStep) (s : State) : State :=
  match a with
  | .none => s
  | .goesOn =>
    { s with
      line :=
        { s.line with
          slot := s.line.slot.map fun n =>
            match n.status with
            | .sending k => { n with status := .sending (k + 1) }
            | .waiting | .backoff => n } }
  | .lost => loseAttempt s
  | .succeeds => followOnNotice { s with line := { s.line with slot := none, lossCount := 0 } }

/-! ## The receiver (R58 to R61) -/

/-- What the receiver makes of a bit time. -/
inductive Received where
  | nothing
  | framingError
  | character (byte : Byte) (mark noisy : Bool)
deriving DecidableEq, Repr

/-- The byte of eight data bits, dominant for 0, most significant first (R54). -/
def byteOf (bits : List Bool) : Byte :=
  BitVec.ofNat 8 (bits.foldl (fun acc d => 2 * acc + (!d).toNat) 0)

/-- The receiver at a bit time; `wasRecessive` says that the bit time before read recessive, so that a dominant one
is a change that begins a start bit (R58). -/
def receiveBit (wasRecessive dominant noisy : Bool) (r : LineReceiver) : LineReceiver × Received :=
  match r with
  | .waiting =>
    if dominant && wasRecessive then (.character [true] noisy, .nothing) else (.waiting, .nothing)
  | .awaitRecessive => (if dominant then .awaitRecessive else .waiting, .nothing)
  | .character bits noisyBefore =>
    let noisy := noisyBefore || noisy
    if bits.length < 10 then (.character (bits ++ [dominant]) noisy, .nothing)
    else if dominant then (.awaitRecessive, .framingError)
    else (.waiting, .character (byteOf ((bits.drop 1).take 8)) (bits.getD 9 false) noisy)

/-- What becomes of the frame being assembled (R59). -/
inductive FrameStep where
  | unchanged
  | began (a : Assembly)
  | joined (a : Assembly)
  /-- the partial frame is discarded; a marked character begins another -/
  | discarded (next : Option Assembly)
  | completed (bytes : List Byte)
deriving DecidableEq, Repr

/-- A character, or a framing error, meets the frame being assembled (R58, R59). -/
def frameStep (a : Option Assembly) (r : Received) : FrameStep :=
  match r, a with
  | .nothing, _ => .unchanged
  | .framingError, none => .unchanged
  | .framingError, some _ => .discarded none
  | .character b true noisy, none => .began { bytes := [b], noisy := noisy.toNat }
  | .character b true noisy, some _ => .discarded (some { bytes := [b], noisy := noisy.toNat })
  | .character _ false _, none => .unchanged
  | .character b false noisy, some f =>
    let n := f.noisy + noisy.toNat
    if 3 ≤ n then .discarded none
    else if f.bytes.length + 1 = Config.noticeBytes then .completed (f.bytes ++ [b])
    else .joined { bytes := f.bytes ++ [b], noisy := n }

/-- The table begins applying the frame at the queue's head whenever it is not applying one (R61). -/
def beginApplying (s : State) : State :=
  match s.line.applying, s.line.queue with
  | none, f :: _ => { s with line := { s.line with applying := some { frame := f, counted := true } } }
  | _, _ => s

/-- A completed frame, in the first of the cases of R60 that applies; `own` when it was completed by the
station's own successful attempt. -/
def receiveFrame (own : Bool) (f : List Byte) (s : State) : State :=
  if s.seq.config.isNone then s
  else if own then s
  else if crcBytes (f.take 13) ≠ f.drop 13 then detect .lineFault .check s
  else if Config.queueSize ≤ s.line.queue.length then detect .lineFault .overrun s
  else beginApplying { s with line := { s.line with queue := s.line.queue ++ [f] } }

def setAssembling (a : Option Assembly) (s : State) : State :=
  { s with line := { s.line with assembling := a } }

/-- Act on what became of the frame (R59, R60). -/
def actOnFrame (own : Bool) (f : FrameStep) (s : State) : State :=
  match f with
  | .unchanged => s
  | .began a => setAssembling (some a) s
  | .joined a => setAssembling (some a) s
  | .discarded next => setAssembling next s
  | .completed bytes => receiveFrame own bytes (setAssembling none s)

/-! ## Entering BREAK and IDLE (R56, R59, R69) -/

/-- Entering BREAK (R69, R61): queue, partial frame and slot are emptied; an application in progress goes on, its
frame no longer counted; WALL_STOP is detected. -/
def enterBreak (s : State) : State :=
  detect .wallStop .none
    { s with
      line :=
        { s.line with
          queue := [], assembling := none, slot := none, followOn := false, lossCount := 0
          applying := s.line.applying.map fun a => { a with counted := false } } }

/-- What a change of the line state brings: BREAK, or the end of a partial frame at a recessive run of 12
(R59, R69). -/
def actOnLineState (before : LineState) (s : State) : State :=
  if before ≠ .broken ∧ s.line.state = .broken then enterBreak s
  else if before ≠ .idle ∧ s.line.state = .idle then setAssembling none s
  else s

/-- The break drive at a bit time: it is counted, and ends where both of R68's conditions hold. -/
def countBreakDrive (s : State) : State :=
  if s.line.breakDrive then
    endBreakDrive
      { s with line := { s.line with breakBits := min (s.line.breakBits + 1) Config.breakDriveMin } }
  else s

/-! ## One bit time -/

/-- What one bit time holds, worked out from the state in which the attempt due at it has begun. -/
structure BitReading where
  dominant : Bool
  noisy : Bool
  attempt : AttemptStep
  receiver : LineReceiver
  received : Received
  frame : FrameStep
deriving DecidableEq, Repr

/-- Read the line in a bit time (R54, R58). -/
def readBit (b : BitTime) (s : State) : BitReading :=
  let x := lineSamples s.ownBit b
  let r := receiveBit (decide (0 < s.line.recRun)) (majority x) (disagree x) s.line.receiver
  { dominant := majority x
    noisy := disagree x
    attempt := attemptStep s.line.slot s.ownBit (majority x)
    receiver := r.1
    received := r.2
    frame := frameStep s.line.assembling r.2 }

/-- The effects of a bit time. -/
def bitWork (b : BitTime) (s : State) : State :=
  let s := beginAttempt s
  let r := readBit b s
  let before := s.line.state
  let s := { s with line := { monitorBit r.dominant s.line with receiver := r.receiver } }
  let s := actOnAttempt r.attempt (countBreakDrive s)
  let s := actOnFrame (r.attempt == .succeeds) r.frame s
  actOnLineState before s

/-- One bit time. Only WALL_STOP, of what it can detect, moves the run state, and it closes its event then. -/
def bitTime (s : State) (b : BitTime) : State :=
  let t := bitWork b s
  if t.seq.runState = s.seq.runState then t else finish s t

/-- Bit times one after another. -/
def bitTimes (bits : List BitTime) (s : State) : State := bits.foldl bitTime s

/-- The bit times of a row of the wall line. The event that the row names comes about at the last of them where the line
brings it about there; where it does not, the bit times pass all the same, as on the line (log 40). -/
def lineEvent (bits : List BitTime) (s : State) : State := bitTimes bits s

/-! ## The commands of the line -/

/-- LINE_IDLE (R56): bit times up to the one at which the recessive run reaches 12. -/
def execLineIdle (bits : List BitTime) (s : State) : Host.Outcome State Fault Refusal :=
  .next (secure s (lineEvent bits s))

/-- LINE_BUSY (R56): bit times up to a dominant one in IDLE. -/
def execLineBusy (bits : List BitTime) (s : State) : Host.Outcome State Fault Refusal :=
  .next (secure s (lineEvent bits s))

/-- LINE_BREAK_DETECT (R69): bit times up to the one at which the dominant run reaches 33. -/
def execLineBreakDetect (bits : List BitTime) (s : State) : Host.Outcome State Fault Refusal :=
  .next (secure s (lineEvent bits s))

/-- BREAK_DRIVE_END (R68): bit times up to the one that ends the station's own break drive. -/
def execBreakDriveEnd (bits : List BitTime) (s : State) : Host.Outcome State Fault Refusal :=
  .next (secure s (lineEvent bits s))

/-- CHARACTER_FORMED (R58): bit times up to a recessive stop bit. -/
def execCharacterFormed (bits : List BitTime) (s : State) : Host.Outcome State Fault Refusal :=
  .next (secure s (lineEvent bits s))

/-- FRAME_COMPLETE (R60): bit times up to the last stop bit of a frame. -/
def execFrameComplete (bits : List BitTime) (s : State) : Host.Outcome State Fault Refusal :=
  .next (secure s (lineEvent bits s))

/-- FRAME_DISCARD (R59): bit times up to the one that discards the partial frame. -/
def execFrameDiscard (bits : List BitTime) (s : State) : Host.Outcome State Fault Refusal :=
  .next (secure s (lineEvent bits s))

/-- ATTEMPT_START (R63): bit times up to the first of an attempt. -/
def execAttemptStart (bits : List BitTime) (s : State) : Host.Outcome State Fault Refusal :=
  .next (secure s (lineEvent bits s))

/-- ATTEMPT_LOST (R64): bit times up to a mismatch of the readback. -/
def execAttemptLost (bits : List BitTime) (s : State) : Host.Outcome State Fault Refusal :=
  .next (secure s (lineEvent bits s))

/-- NOTICE_DROPPED (R66): bit times up to the mismatch that is the sixteenth loss. -/
def execNoticeDropped (bits : List BitTime) (s : State) : Host.Outcome State Fault Refusal :=
  .next (secure s (lineEvent bits s))

/-- BACKOFF_END (R64): bit times up to the first of the attempt after a back-off wait. -/
def execBackoffEnd (bits : List BitTime) (s : State) : Host.Outcome State Fault Refusal :=
  .next (secure s (lineEvent bits s))

/-- ATTEMPT_SUCCESS (R65): bit times up to the last of the frame, read back. -/
def execAttemptSuccess (bits : List BitTime) (s : State) : Host.Outcome State Fault Refusal :=
  .next (secure s (lineEvent bits s))

/-! ## Applying the head frame (R61, R76, and the gate checks of R85, R87, R90, R91, R94) -/

/-- What an application that changed the table brings: the checks made on the entry if it is in span, and the
evaluation of the gates. -/
def appliedWork (e : Entry) (s : State) : State :=
  let near := s.inSpan e
  match s.seq.stage with
  | .none | .winch => s
  | .grout => groutGate reach s
  | .stress =>
    match s.jack.phase with
    | .raiseWait => raiseGate reach s
    | .raiseIntent => if near && s.withdrawsFor e then withdraw reach s else s
    | .rampUp =>
      if near && s.seq.runState == .running && s.turnsBackFor e then turnBack reach s else s
    | .hold =>
      if near && e.disturbs then updateEntry (fun x => { x with disturbed := true }) s else s
    | .none | .rampDown | .seating | .release | .settle => s

/-- The frame whose application completes leaves the queue, if it still stands there (R61). -/
def endApplying (a : Applying) (s : State) : State :=
  { s with
    line :=
      { s.line with
        applying := none
        queue := if a.counted then s.line.queue.drop 1 else s.line.queue } }

/-- The application in progress completes (R61, R76). -/
def noticeWork (s : State) : State :=
  match s.line.applying with
  | none => s
  | some a =>
    let r := applyFrame a.frame (endApplying a s)
    let s :=
      match r.2 with
      | some e => appliedWork e r.1
      | none => r.1
    beginApplying s

/-- NOTICE_APPLIED (R76): with no application in progress none completes. -/
def execNoticeApplied (s : State) : Host.Outcome State Fault Refusal :=
  .next (finish s (noticeWork s))

end Sys2Proof.Machine
end

