-- ==== Sys2Proof/Machine/Requests.lean ====
section
/-!
DEFINITION. The sixteen requests of the pendant (R186): what each refuses, and what each does when it is
accepted.
-/
namespace Sys2Proof.Machine

/-- What a handled request comes to: a refusal with its reason and argument, or its acceptance with the state it
leaves and the body of its reply (R186, R187). -/
inductive Verdict where
  | refused (why : Refused)
  | done (t : State) (body : List Byte)

/-- Accept where no check fails (R186). -/
def verdict (refusal : Option Refused) (t : State) (body : List Byte) : Verdict :=
  match refusal with
  | some why => .refused why
  | none => .done t body

/-- Check 2 of R186 for every code but SETUP. -/
def State.configured (s : State) : Bool := s.seq.runState != .unconfigured

def needConfigured (s : State) : Bool × Refused := (s.configured, (.notConfigured, 0))

/-- The body length of a request whose body is none, judged after the checks of state (R186). -/
def noBody (b : List Byte) : Bool × Refused := (b.isEmpty, (.range, 0))

/-! ## SETUP (R189, R190) -/

def setupRefused (b : List Byte) (s : State) : Option Refused :=
  if s.configured then some (.alreadyConfigured, 0) else setupRefusal b

/-- The channels with the filter lengths of SETUP (R6). -/
def Channels.configure (g : Setup) (c : Channels) : Channels :=
  { c with
    load := c.load.configure g.filterLoad
    ext := c.ext.configure g.filterExt
    gp := c.gp.configure g.filterGp
    gv := c.gv.configure g.filterGv
    wl := c.wl.configure g.filterWl
    wt := c.wt.configure g.filterWt }

/-- The sequencer at the acceptance of SETUP (R33). -/
def Sequencer.configure (g : Setup) (q : Sequencer) : Sequencer :=
  { q with
    runState := .idle, stage := .none, progress := g.progress, config := some g
    cure :=
      if g.progress = .grouted ∨ g.progress = .locked then Cure.started g.groutAge
      else { hours := 0, seconds := 0, running := false, half := false } }

/-- The effects of SETUP (R6, R33, R100, R132, R141, R175). -/
def configured (g : Setup) (s : State) : State :=
  { s with
    chans := s.chans.configure g
    seq := s.seq.configure g
    jack :=
      { s.jack with
        datum := none
        lockedLoad := if g.progress = .locked then some g.lockedLoad else none }
    table := { s.table with drift := false, raiseTicks := 0, gateTimer := 0 }
    grout := s.grout.stageLess
    faults := { s.faults with mask := g.initialMask, pending := [] } }

/-- SETUP: the drift watch of a locked anchor is evaluated at once (R139); of its changes only that of DRIFT asks
for a notice. That notice carries sequence 0, and the first tick notice then carries 1, where R100 and R190 give it 0
(log 11). -/
def setupVerdict (b : List Byte) (s : State) : Verdict :=
  let t := driftDecision (configured (setupOf b) s)
  verdict (setupRefused b s) (if t.table.drift then requestNotice t else t) []

/-! ## Stage requests (R34, R35) -/

/-- Checks 1 to 7 of R34, of which check 5 is START_STRESS's. -/
def stageChecks (needed : Progress) (cured : Bool) (s : State) : List (Bool × Refused) :=
  [ needConfigured s,
    (s.seq.runState == .idle, (.wrongState, 0)),
    (s.seq.progress != .locked, (.wrongState, 0)),
    (s.seq.progress == needed, (.wrongState, 0)),
    (cured, (.notCured, 0)),
    (!s.contacts.estop.active, (.estopActive, 0)),
    (s.line.state != .broken, (.lineBreak, 0)) ]

/-- The checks of R34 with those of the request's own fields. -/
def stageRefused (needed : Progress) (cured : Bool) (fields : Option Refused) (s : State) :
    Option Refused :=
  (firstFailing (stageChecks needed cured s)).or fields

/-- A stage begins (R35): stage, RUNNING, the job clock at 0, STAGE_START. -/
def startStage (g : Stage) (s : State) : State :=
  logEvent .stageStart g.code
    { s with
      seq := { s.seq with stage := g, runState := .running, jobClock := 0, jobHalf := false } }

/-- The winch run record of an accepted START_WINCH (R102). -/
def winchRecordOf (b : List Byte) : WinchRecord where
  target := fieldAt b 0 3
  snag := fieldAt b 3 2
  stallRef := none
  stallTimer := 0
  installed := none
  outcome := .inProgress

def winchRefused (b : List Byte) (s : State) : Option Refused :=
  stageRefused .none true (winchRefusal b) s

/-- A stage has begun, in state `t`: the overload and stroke decisions are asked at the change to RUNNING, beside the work
that begins (R35, R137, R138, R168). -/
def beginWork (work : State → State) (t : State) : State := besideKinds (watchAsked t) work t

/-- START_WINCH: the winch decisions come into force (R102, R24, R25). -/
def winchStarted (b : List Byte) (s : State) : State :=
  beginWork (winchDecisions reach) (startStage .winch { s with winch := some (winchRecordOf b) })

def winchVerdict (b : List Byte) (s : State) : Verdict :=
  verdict (winchRefused b s) (winchStarted b s) []

/-- The grout stage record of an accepted START_GROUT (R109, R29). -/
def groutRecordOf (b : List Byte) : GroutRecord where
  target := fieldAt b 0 3
  limit := fieldAt b 3 2
  reopen := fieldAt b 3 2 * 9 / 10
  claimsMade := 0
  throttles := 0
  mark := .inProgress

def groutRefused (b : List Byte) (s : State) : Option Refused :=
  stageRefused .winched true (groutRefusal b) s

/-- Begin the grout stage at its first phase: DRAW with a claim on main 0, GROUT_WAIT on a shared main; the volume
decision comes into force beside it (R35, R98, R114, log 24). -/
def groutBegun (s : State) : State :=
  if s.cfg Setup.main 0 = 0 then
    beginWork (eitherOrder (throttleDecision reach) (volumeDecision reach)) (startClaim s)
  else beginWork (eitherOrder (groutGate reach) (volumeDecision reach)) (setGroutPhase .wait s)

/-- START_GROUT (R4, R35, R109). -/
def groutStarted (b : List Byte) (s : State) : State :=
  groutBegun
    (startStage .grout
      { s with
        chans := { s.chans with gvCount := 0, gvOver := false, drainOpen := false }
        grout := { s.grout.stageLess with record := some (groutRecordOf b) } })

def groutVerdict (b : List Byte) (s : State) : Verdict :=
  verdict (groutRefused b s) (groutStarted b s) []

def stressRefused (b : List Byte) (s : State) : Option Refused :=
  stageRefused .grouted (decide (s.cfg Setup.cureTime 0 ≤ s.seq.cure.hours))
    (stressRefusal (s.cfg Setup.loadLimit 0) b) s

/-- START_STRESS (R35, R119, R123, R145): the schedule, no datum, the results and the summary cleared, and step 1, a LOAD
step (R122), which waits at the raise gate. -/
def stressStarted (b : List Byte) (s : State) : State :=
  beginWork (raiseGate reach)
    (beginStep (fun _ s => s) 1
      (startStage .stress
        { s with
          jack := { s.jack.stageLess with schedule := scheduleOf b, datum := none }
          eval :=
            { results := [], summary := { JobSummary.cleared with jobStatus := .running }
              peak := none } }))

def stressVerdict (b : List Byte) (s : State) : Verdict :=
  verdict (stressRefused b s) (stressStarted b s) []

/-! ## PAUSE (R42) -/

/-- The step phase is one of lock-off. -/
def State.lockOff (s : State) : Bool :=
  s.seq.stage == .stress &&
  (s.jack.phase == .seating || s.jack.phase == .release || s.jack.phase == .settle)

def pauseRefused (b : List Byte) (s : State) : Option Refused :=
  firstFailing
    [needConfigured s, (s.seq.runState == .running && !s.lockOff, (.wrongState, 0)), noBody b]

/-- What PAUSE does to the work, by stage and phase (R42). -/
def holdWork (s : State) : State :=
  match s.seq.stage with
  | .none => s
  | .winch => winchOff s
  | .grout =>
    match s.grout.phase with
    | .intent => setGroutPhase .wait s
    | .draw => closeGrout s
    | .none | .wait | .throttled | .rest => s
  | .stress =>
    match s.jack.phase with
    | .raiseIntent => setStepPhase .raiseWait s
    | .rampUp => { s with drives := { s.drives with raise := false } }
    | .rampDown => { s with drives := { s.drives with lower := false } }
    | .none | .raiseWait | .hold | .seating | .release | .settle => s

def paused (s : State) : State := holdWork (setRunState .paused (logEvent .pause 0 s))

def pauseVerdict (b : List Byte) (s : State) : Verdict := verdict (pauseRefused b s) (paused s) []

/-! ## RESUME (R43 to R45) -/

def resumeRefused (b : List Byte) (s : State) : Option Refused :=
  firstFailing
    [ needConfigured s,
      (s.seq.runState == .paused || s.seq.runState == .stopped, (.wrongState, 0)),
      (!s.contacts.estop.active, (.estopActive, 0)),
      (s.line.state != .broken, (.lineBreak, 0)),
      noBody b ]

def clearTaken (s : State) : State := { s with faults := { s.faults with taken := none } }

/-- RESUME accepted in STOPPED (R45). -/
def resumeStopped (s : State) : State :=
  if s.stageActive then enterPaused watchAsked (clearTaken s) else setRunState .idle (clearTaken s)

def resumed (s : State) : State :=
  let t := logEvent .resume 0 s
  if s.seq.runState = .stopped then resumeStopped t else resumePaused t

def resumeVerdict (b : List Byte) (s : State) : Verdict :=
  verdict (resumeRefused b s) (resumed s) []

/-! ## ABORT (R47 to R49) -/

/-- Whether ABORT is accepted, by run state and phase; PAUSED with the abort mark set accepts it (R47). -/
def State.abortable (s : State) : Bool :=
  match s.seq.runState with
  | .running => !s.lockOff
  | .paused => s.seq.abortMark || !s.lockOff
  | .faulted => true
  | .unconfigured | .idle | .stopped | .aborting => false

def abortRefused (b : List Byte) (s : State) : Option Refused :=
  firstFailing [needConfigured s, (s.abortable, (.wrongState, 0)), noBody b]

/-- What the acceptance of ABORT does before the stage is given up (R47). -/
def abortAccepted (s : State) : State :=
  logEvent .abort 0
    { s with
      seq := { s.seq with held := none }
      faults :=
        { s.faults with
          pending := []
          taken := if s.seq.runState = .faulted then none else s.faults.taken } }

/-- The stage is given up (R48, R49); with the abort mark set in PAUSED the lowering begins again (R44, R47,
log 38). -/
def giveUp (s : State) : State :=
  match s.seq.stage with
  | .none => s
  | .winch => abortWinch s
  | .grout => abortGrout s
  | .stress =>
    if s.seq.runState = .paused ∧ s.seq.abortMark = true then startLowering s else abortStress s

def aborted (s : State) : State := giveUp (abortAccepted s)

def abortVerdict (b : List Byte) (s : State) : Verdict := verdict (abortRefused b s) (aborted s) []

/-! ## ACKNOWLEDGE (R46) -/

def acknowledgeRefused (b : List Byte) (s : State) : Option Refused :=
  firstFailing [needConfigured s, (s.seq.runState == .faulted, (.wrongState, 0)), noBody b]

def acknowledged (s : State) : State := enterPaused acknowledgedKinds (clearTaken s)

def acknowledgeVerdict (b : List Byte) (s : State) : Verdict :=
  verdict (acknowledgeRefused b s) (acknowledged s) []

/-! ## ACCEPT_DRIFT (R140) -/

/-- VOID_VALUE stands among the checks of state, before the body length of R186, since R140 gives the three in one order
(log 49). -/
def acceptDriftRefused (b : List Byte) (s : State) : Option Refused :=
  firstFailing
    [ needConfigured s,
      (s.seq.progress == .locked && !s.stageActive, (.wrongState, 0)),
      ((s.filtered .load).isSome, (.voidValue, 0)),
      noBody b ]

def driftAccepted (s : State) : State :=
  { s with
    jack := { s.jack with lockedLoad := s.filtered .load }
    table := { s.table with drift := false } }

def acceptDriftVerdict (b : List Byte) (s : State) : Verdict :=
  verdict (acceptDriftRefused b s) (driftAccepted s) []

/-! ## SET_MASK and CLEAR_SEEN (R173, R174) -/

def setMaskRefused (b : List Byte) (s : State) : Option Refused :=
  firstFailing [needConfigured s, (b.length == 2, (.range, 0))]

/-- The mask is replaced; a kind newly masked leaves the pending set (R173). -/
def maskSet (mask : List FaultKind) (s : State) : State :=
  { s with
    faults :=
      { s.faults with
        mask := mask
        pending := s.faults.pending.filter fun p =>
          !(mask.contains p.1 && !s.faults.mask.contains p.1) } }

def setMaskVerdict (b : List Byte) (s : State) : Verdict :=
  verdict (setMaskRefused b s) (maskSet (maskOf (fieldAt b 0 2)) s) []

def clearSeenRefused (b : List Byte) (s : State) : Option Refused :=
  firstFailing [needConfigured s, noBody b]

def seenCleared (s : State) : State := { s with faults := { s.faults with seen := [] } }

def clearSeenVerdict (b : List Byte) (s : State) : Verdict :=
  verdict (clearSeenRefused b s) (seenCleared s) []

/-! ## RESTART (R191) -/

def restartRefused (b : List Byte) (s : State) : Option Refused :=
  firstFailing [needConfigured s, (s.seq.runState == .idle, (.wrongState, 0)), noBody b]

/-- The six filters restart; contacts and the GV pulse count stay (R9, R191, log 27). -/
def Channels.restart (c : Channels) : Channels :=
  { c with
    load := c.load.restart, ext := c.ext.restart, gp := c.gp.restart
    gv := c.gv.restart, wl := c.wl.restart, wt := c.wt.restart }

/-- The wall line at RESTART (R61, R67, R73): an attempt goes on, its notice not to be retried; an application in
progress goes on, its frame no longer counted. -/
def Line.restart (l : Line) : Line :=
  { l with
    queue := []
    applying := l.applying.map fun a => { a with counted := false }
    slot := l.slot.bind fun n =>
      match n.status with
      | .sending _ => some { n with retry := false }
      | .waiting | .backoff => none
    followOn := false
    lossCount := 0 }

/-- RESTART (R191): every block as its rule gives (R17, R32, R73, R100, R119, R145, R175). -/
def restarted (s : State) : State :=
  { s with
    chans := s.chans.restart
    line := s.line.restart
    table := { s.table with entries := [], ownSequence := 0, raiseTicks := 0, gateTimer := 0 }
    grout := s.grout.stageLess
    jack := s.jack.stageLess
    seq := s.seq.stageLess
    eval := { s.eval with peak := none }
    faults := { s.faults with pending := [], seen := [] } }

def restartVerdict (b : List Byte) (s : State) : Verdict :=
  verdict (restartRefused b s) (restarted s) []

/-! ## Read requests (R192) -/

def readRefused (b : List Byte) (s : State) : Option Refused :=
  firstFailing [needConfigured s, noBody b]

def readStatusVerdict (b : List Byte) (s : State) : Verdict :=
  verdict (readRefused b s) s (statusRecord s)

/-- The body of a READ_NEIGHBOURS reply: a count byte, then the entries in rising station number (R99, R192). -/
def neighboursBody (s : State) : List Byte :=
  beBytes 1 s.table.entries.length ++ (s.table.entries.map (entryBytes s)).flatten

def readNeighboursVerdict (b : List Byte) (s : State) : Verdict :=
  verdict (readRefused b s) s (neighboursBody s)

/-- The body of a READ_LOG reply: the records taken, or an EMPTY header (R184). -/
def logBody (log : List LogRecord) : List Byte :=
  if log.isEmpty then [1]
  else ((takeRecords Config.readLogSize log).1.map LogRecord.bytes).flatten

/-- The log without the records that READ_LOG takes (R184). -/
def logRead (s : State) : State := { s with log := (takeRecords Config.readLogSize s.log).2 }

def readLogVerdict (b : List Byte) (s : State) : Verdict :=
  verdict (readRefused b s) (logRead s) (logBody s.log)

/-- The body of a READ_RESULTS reply (R161, R192). -/
def resultsBody (e : Evaluator) : List Byte :=
  summaryBytes e.summary ++ beBytes 1 e.results.length ++ (e.results.map stepEntryBytes).flatten

def readResultsVerdict (b : List Byte) (s : State) : Verdict :=
  verdict (readRefused b s) s (resultsBody s.eval)

/-! ## Every code (R186) -/

/-- What a request of a code comes to; a code of none of the sixteen is refused with RANGE, field 0 (R186). -/
def verdictOf (code : Byte) (b : List Byte) (s : State) : Verdict :=
  if code = codeSetup then setupVerdict b s
  else if code = codeStartWinch then winchVerdict b s
  else if code = codeStartGrout then groutVerdict b s
  else if code = codeStartStress then stressVerdict b s
  else if code = codePause then pauseVerdict b s
  else if code = codeResume then resumeVerdict b s
  else if code = codeAbort then abortVerdict b s
  else if code = codeAcknowledge then acknowledgeVerdict b s
  else if code = codeAcceptDrift then acceptDriftVerdict b s
  else if code = codeSetMask then setMaskVerdict b s
  else if code = codeClearSeen then clearSeenVerdict b s
  else if code = codeRestart then restartVerdict b s
  else if code = codeReadStatus then readStatusVerdict b s
  else if code = codeReadNeighbours then readNeighboursVerdict b s
  else if code = codeReadLog then readLogVerdict b s
  else if code = codeReadResults then readResultsVerdict b s
  else .refused (.range, 0)

end Sys2Proof.Machine
end

