-- ==== Sys2Proof/WellFormed.lean ====
section
/-!
DEFINITION. Which commands are well formed: their operands describe something that can arrive.
-/
namespace Sys2Proof

/-- A request body fits the length byte: L counts the code and the body and is at most 61 (R185). -/
def bodyFits (body : List Byte) : Bool := body.length ≤ 60

/-- The sixteen request codes of R186. -/
def codeDefined (code : Byte) : Bool := 1 ≤ code.toNat && code.toNat ≤ 16

/-- A command is well formed when its body fits a request frame, its code is (or is not) a defined one as
its row says, its list of bit times or characters is not empty, and its station number is one of R74's. -/
def Instr.wellFormed : Instr → Bool
  | .setup b | .startWinch b | .startGrout b | .startStress b | .pause b | .resume b | .abort b
  | .acknowledge b | .acceptDrift b | .setMask b | .clearSeen b | .restart b | .readStatus b
  | .readNeighbours b | .readLog b | .readResults b => bodyFits b
  | .overlappedRequest _ b => bodyFits b
  | .undefinedRequest code b => !codeDefined code && bodyFits b
  | .requestFrameDiscard chars => !chars.isEmpty
  | .pendantGapTimeout _ | .pendantStartCharacter _ => true
  | .entryLapsed n | .entryRemoved n => 1 ≤ n && n ≤ 63
  | .breakDriveEnd bits | .lineIdle bits | .lineBreakDetect bits | .frameComplete bits
  | .frameDiscard bits | .attemptStart bits | .attemptLost bits | .noticeDropped bits
  | .backoffEnd bits | .attemptSuccess bits | .lineBusy bits | .characterFormed bits => !bits.isEmpty
  | .powerUp | .replyStart | .replySent | .sampleEvent _ _ | .contactDebounced _ | .estopReleased _
  | .flowPulse | .drainWindowClose | .channelLost _ | .driftLoadVoid _ | .winchStall | .seatingLimit
  | .releaseLimit | .settleWaitEnd | .noticeTick | .jobClockAdvance | .cureClockAdvance
  | .raiseIntentEnd | .gateTimeout | .groutIntentEnd | .claimLimit | .restEnd | .rateSlow
  | .holdReading | .holdEnd | .noticeApplied => true

end Sys2Proof
end

