-- ==== Sys2Proof/Machine/Port.lean ====
section
/-!
DEFINITION. The pendant port (chapter 11): the receiver of R185, the handling of a request frame (R186 to R188),
the reply, and POWER_UP.

A request row of the table is the whole frame of that request; it completes only as the receiver can take it
(log 20).
-/
namespace Sys2Proof.Machine

/-! ## The request frame (R185) -/

/-- The bytes that the frame check covers: length, code, body. -/
def requestData (code : Byte) (body : List Byte) : List Byte :=
  BitVec.ofNat 8 (body.length + 1) :: code :: body

/-- The bytes of a request frame after its start character. -/
def requestTail (code : Byte) (body : List Byte) : List Byte :=
  requestData code body ++ crcBytes (requestData code body)

/-- The driver is on (R185). -/
def State.replying (s : State) : Bool := (s.port.reply.map Reply.sending).getD false

/-- A reply is in progress and has not begun to be sent: the turnaround (R188). -/
def State.turnaround (s : State) : Bool := (s.port.reply.map fun r => !r.sending).getD false

def setReceiver (r : PendantReceiver) (s : State) : State :=
  { s with port := { s.port with receiver := r } }

/-- The receiver can take the rest of this frame: it waits, or holds the frame's first bytes, and is not cut off
by the driver (R185). -/
def State.canReceive (s : State) (code : Byte) (body : List Byte) : Bool :=
  decide (body.length ≤ 60) && !s.replying &&
  match s.port.receiver with
  | .waiting => true
  | .receiving bytes => bytes == (requestTail code body).take bytes.length

/-! ## Handling (R186 to R188) -/

/-- The reply is formed; at that moment the request stands in the buffer (R186, R187). -/
def setReply (code : Byte) (body : List Byte) (outcome argument : Nat) (out : List Byte) (s : State) :
    State :=
  { s with
    port :=
      { s.port with
        receiver := .waiting
        buffer := some (code, body)
        reply :=
          some { code := code, outcome := outcome, argument := argument, body := out, sending := false } } }

/-- The reply to a verdict (R187): a refused request changes nothing else (R186). -/
def answer (code : Byte) (body : List Byte) (v : Verdict) (s : State) : State :=
  match v with
  | .refused why => setReply code body why.1.code why.2 [] s
  | .done t out => finish s (setReply code body 0 0 out t)

/-- The buffer is empty once the reply has been formed: what the port takes in the turnaround finds it so (R186, log 19). -/
def emptyBuffer (s : State) : State :=
  if s.turnaround then { s with port := { s.port with buffer := none } } else s

/-- A frame that completes in the turnaround is discarded and sets OVERLAP (R188). -/
def overlapped (s : State) : State :=
  setReceiver .waiting { s with port := { s.port with overlap := true, buffer := none } }

/-- A complete frame with a good check (R186, R188). -/
def completeFrame (code : Byte) (body : List Byte) (v : Verdict) (s : State) : State :=
  if s.turnaround then overlapped s else answer code body v s

/-- The whole frame of a request arrives, if the receiver can take it. -/
def frameArrives (code : Byte) (body : List Byte) (v : Verdict) (s : State) : State :=
  if s.canReceive code body then completeFrame code body v s else s

/-! ## Characters (R185) -/

/-- What a character makes of the bytes received after the start character. -/
inductive PendantStep where
  | more (bytes : List Byte)
  | discard
  | complete (code : Byte) (body : List Byte)
deriving DecidableEq, Repr

/-- A character with a high stop bit in RECEIVING (R185). -/
def pendantBytes (bytes : List Byte) : PendantStep :=
  match bytes with
  | [] => .more []
  | [l] => if l.toNat = 0 ∨ 61 < l.toNat then .discard else .more bytes
  | l :: code :: rest =>
    if bytes.length < l.toNat + 3 then .more bytes
    else if crcBytes (bytes.take (l.toNat + 1)) = bytes.drop (l.toNat + 1) then
      .complete code (rest.take (l.toNat - 1))
    else .discard

/-- What a character does in RECEIVING. -/
def pendantStep (bytes : List Byte) (c : PendantChar) : PendantStep :=
  if c.stopLow then .discard else pendantBytes (bytes ++ [c.byte])

/-- One character of the pendant link (R185). -/
def receiveChar (s : State) (c : PendantChar) : State :=
  if s.replying then s
  else
    let s := emptyBuffer s
    match s.port.receiver with
    | .waiting => if !c.stopLow && c.byte == 195 then setReceiver (.receiving []) s else s
    | .receiving bytes =>
      match pendantStep bytes c with
      | .more next => setReceiver (.receiving next) s
      | .discard => setReceiver .waiting s
      | .complete code body => completeFrame code body (verdictOf code body s) (setReceiver .waiting s)

def receiveChars (chars : List PendantChar) (s : State) : State := chars.foldl receiveChar s

/-- A character discards the frame being received (R185). -/
def discardDue (s : State) (c : PendantChar) : Bool :=
  !s.replying &&
  match s.port.receiver with
  | .waiting => false
  | .receiving bytes => pendantStep bytes c == .discard

/-- Characters of which the last discards the frame being received. -/
def discardEvent (chars : List PendantChar) (s : State) : State :=
  match chars.getLast? with
  | none => s
  | some last =>
    let t := receiveChars chars.dropLast s
    if discardDue t last then receiveChar t last else s

/-- Characters, and then a gap of more than 5 ms within a frame (R185). -/
def gapEvent (chars : List PendantChar) (s : State) : State :=
  let t := receiveChars chars s
  if t.port.receiver = .waiting then s else setReceiver .waiting t

/-! ## The commands of the pendant port -/

/-- SETUP (R189, R190). -/
def execSetup (body : List Byte) (s : State) : Host.Outcome State Fault Refusal :=
  .next (secure s (frameArrives codeSetup body (setupVerdict body s) s))

/-- START_WINCH (R34, R102). -/
def execStartWinch (body : List Byte) (s : State) : Host.Outcome State Fault Refusal :=
  .next (secure s (frameArrives codeStartWinch body (winchVerdict body s) s))

/-- START_GROUT (R34, R109). -/
def execStartGrout (body : List Byte) (s : State) : Host.Outcome State Fault Refusal :=
  .next (secure s (frameArrives codeStartGrout body (groutVerdict body s) s))

/-- START_STRESS (R34, R120 to R122). -/
def execStartStress (body : List Byte) (s : State) : Host.Outcome State Fault Refusal :=
  .next (secure s (frameArrives codeStartStress body (stressVerdict body s) s))

/-- PAUSE (R42). -/
def execPause (body : List Byte) (s : State) : Host.Outcome State Fault Refusal :=
  .next (secure s (frameArrives codePause body (pauseVerdict body s) s))

/-- RESUME (R43). -/
def execResume (body : List Byte) (s : State) : Host.Outcome State Fault Refusal :=
  .next (secure s (frameArrives codeResume body (resumeVerdict body s) s))

/-- ABORT (R47). -/
def execAbort (body : List Byte) (s : State) : Host.Outcome State Fault Refusal :=
  .next (secure s (frameArrives codeAbort body (abortVerdict body s) s))

/-- ACKNOWLEDGE (R46). -/
def execAcknowledge (body : List Byte) (s : State) : Host.Outcome State Fault Refusal :=
  .next (secure s (frameArrives codeAcknowledge body (acknowledgeVerdict body s) s))

/-- ACCEPT_DRIFT (R140). -/
def execAcceptDrift (body : List Byte) (s : State) : Host.Outcome State Fault Refusal :=
  .next (secure s (frameArrives codeAcceptDrift body (acceptDriftVerdict body s) s))

/-- SET_MASK (R173). -/
def execSetMask (body : List Byte) (s : State) : Host.Outcome State Fault Refusal :=
  .next (secure s (frameArrives codeSetMask body (setMaskVerdict body s) s))

/-- CLEAR_SEEN (R174). -/
def execClearSeen (body : List Byte) (s : State) : Host.Outcome State Fault Refusal :=
  .next (secure s (frameArrives codeClearSeen body (clearSeenVerdict body s) s))

/-- RESTART (R191). -/
def execRestart (body : List Byte) (s : State) : Host.Outcome State Fault Refusal :=
  .next (secure s (frameArrives codeRestart body (restartVerdict body s) s))

/-- READ_STATUS (R192). -/
def execReadStatus (body : List Byte) (s : State) : Host.Outcome State Fault Refusal :=
  .next (secure s (frameArrives codeReadStatus body (readStatusVerdict body s) s))

/-- READ_NEIGHBOURS (R99, R192). -/
def execReadNeighbours (body : List Byte) (s : State) : Host.Outcome State Fault Refusal :=
  .next (secure s (frameArrives codeReadNeighbours body (readNeighboursVerdict body s) s))

/-- READ_LOG (R184, R192). -/
def execReadLog (body : List Byte) (s : State) : Host.Outcome State Fault Refusal :=
  .next (secure s (frameArrives codeReadLog body (readLogVerdict body s) s))

/-- READ_RESULTS (R161, R192). -/
def execReadResults (body : List Byte) (s : State) : Host.Outcome State Fault Refusal :=
  .next (secure s (frameArrives codeReadResults body (readResultsVerdict body s) s))

/-- UNDEFINED_REQUEST (R186): a code of none of the sixteen; a defined code is not this row's. -/
def execUndefinedRequest (code : Byte) (body : List Byte) (s : State) :
    Host.Outcome State Fault Refusal :=
  .next (secure s
    (occasion (!codeDefined code) (frameArrives code body (.refused (.range, 0))) s))

/-- OVERLAPPED_REQUEST (R188): a good frame that completes in the turnaround. -/
def execOverlappedRequest (code : Byte) (body : List Byte) (s : State) :
    Host.Outcome State Fault Refusal :=
  .next (secure s (occasion (s.turnaround && s.canReceive code body) overlapped s))

/-- REQUEST_FRAME_DISCARD (R185). -/
def execRequestFrameDiscard (chars : List PendantChar) (s : State) :
    Host.Outcome State Fault Refusal :=
  .next (secure s (discardEvent chars s))

/-- PENDANT_GAP_TIMEOUT (R185). -/
def execPendantGapTimeout (chars : List PendantChar) (s : State) :
    Host.Outcome State Fault Refusal :=
  .next (secure s (gapEvent chars s))

/-- PENDANT_START_CHARACTER (R185): a character arrives; in RECEIVING it is a byte of the frame. -/
def execPendantStartCharacter (c : PendantChar) (s : State) : Host.Outcome State Fault Refusal :=
  .next (secure s (receiveChar s c))

/-- REPLY_START (R187, R185, R186): the driver turns on, which discards a frame being received; the request buffer
is empty by then (log 19). -/
def execReplyStart (s : State) : Host.Outcome State Fault Refusal :=
  .next (secure s
    (match s.port.reply with
     | none => s
     | some r =>
       if r.sending then s
       else
         { s with
           port :=
             { s.port with
               receiver := .waiting, buffer := none, reply := some { r with sending := true } } }))

/-- REPLY_SENT (R187, R188): the reply has gone out with the OVERLAP mark in its flags byte, and both are
cleared. -/
def execReplySent (s : State) : Host.Outcome State Fault Refusal :=
  .next (secure s
    (match s.port.reply with
     | none => s
     | some r =>
       if r.sending then
         { s with
           port :=
             { s.port with reply := none, overlap := false, lastSent := some (replyFrame r s.port.overlap) } }
       else s))

/-- POWER_UP (R17, R32, R73, R100, R119, R145, R175, R176, R188): every block takes its values after power-up; the
model's own queue and free order go on (log 37). -/
def execPowerUp (s : State) : Host.Outcome State Fault Refusal :=
  .next { State.reset with freeCount := s.freeCount, pending := s.pending }

end Sys2Proof.Machine
end

