-- ==== Sys2Proof/Machine/Tick.lean ====
section
/-!
DEFINITION. The notice tick (R1) and all that it carries: ageing (R79), the cure clock (R38), the job clock with
the clocks that follow it (R37), claims and REST (R95 to R97), the gates (R85 to R88, R92, R94), the tick notice
(R83).

The parts of one tick stand in this order: ageing, counts, clocks of the stage, claim, raise gate, grout gate,
notice (R79, R83, log 9).
-/
namespace Sys2Proof.Machine

/-! ## Counts -/

/-- One tick of the cure clock (R38): every second one adds a second. -/
def Cure.tick (c : Cure) : Cure :=
  if !c.running then c
  else if !c.half then { c with half := true }
  else if c.seconds + 1 < 3600 then { c with half := false, seconds := c.seconds + 1 }
  else { c with half := false, seconds := 0, hours := min (c.hours + 1) 9999 }

def cureTick (s : State) : State := { s with seq := { s.seq with cure := s.seq.cure.tick } }

/-- Ticks of a REST period (R97). -/
def restLength : Nat := 120

/-- The counts of ticks that stand before this tick: the intent intervals (R86, R95), the claim (R96), REST
(R97). -/
def countTicks (s : State) : State :=
  { s with
    table :=
      { s.table with
        raiseTicks :=
          if s.jack.phase = .raiseIntent then min (s.table.raiseTicks + 1) 2 else s.table.raiseTicks }
    grout :=
      { s.grout with
        intentTicks :=
          if s.grout.phase = .intent then min (s.grout.intentTicks + 1) 2 else s.grout.intentTicks
        claim := s.grout.claim.map fun c => { c with ticks := c.ticks + 1 }
        restTicks :=
          if s.grout.phase = .rest then min (s.grout.restTicks + 1) restLength
          else s.grout.restTicks } }

/-- The job clock advances at this tick (R37): a stage is active, it is the second tick, and the clock does not
stand at its end. -/
def State.jobAdvances (s : State) : Bool :=
  s.stageActive && s.seq.jobHalf && decide (s.seq.jobClock < Config.clockMax)

/-- One tick of the job clock (R37). -/
def jobTick (s : State) : State :=
  if s.stageActive then
    { s with
      seq :=
        { s.seq with
          jobHalf := !s.seq.jobHalf
          jobClock := if s.jobAdvances then s.seq.jobClock + 1 else s.seq.jobClock } }
  else s

/-- The tick up to its counts; ageing comes before all that reads the table (R79). -/
def tickCounts (s : State) : State := jobTick (countTicks (cureTick (ageEntries s)))

/-! ## Claims and REST (R97) -/

/-- The claim has reached its limit of C × 60 s, two ticks a second. -/
def State.claimAtLimit (s : State) : Bool :=
  s.seq.stage == .grout &&
  match s.grout.claim with
  | some c => decide (s.cfg Setup.claimLimit 0 * 120 ≤ c.ticks)
  | none => false

/-- REST has lasted its 60 s, and no boundary stands held. Beside a held boundary, its own end or the stage's end with the
volume reached in REST, REST neither ends nor replaces what is held (log 14). R97 counts 120 ticks from the tick at which REST
began; R1 counts seconds of the job clock, whose sixtieth advance comes a tick earlier where REST began off an
advance. Which of the two a station follows is left free (log 39). -/
def State.restOver (s : State) : Bool :=
  s.seq.stage == .grout && s.grout.phase == .rest &&
  (decide (restLength ≤ s.grout.restTicks) ||
    (Config.restByJobClock && decide (restLength ≤ s.grout.restTicks + 1) && !s.seq.jobHalf)) &&
  s.seq.held.isNone

/-- The end of a claim at its limit, or the end of REST; in FAULTED or STOPPED the end of REST is held (R97). -/
def claimPart (s : State) : State :=
  if s.claimAtLimit then reach .claimLimit (endClaim claimByLimit s)
  else if s.restOver then
    if s.seq.runState = .running ∨ s.seq.runState = .paused then reach .restEnd s
    else { s with seq := { s.seq with held := some .restEnd } }
  else s

/-! ## The raise gate on a tick (R85, R87, R88) -/

/-- The raise intent interval ends at this tick (R86, R88). -/
def State.raiseIntentOver (s : State) : Bool :=
  s.stressing .raiseIntent && decide (2 ≤ s.table.raiseTicks)

def raisePart (s : State) : State :=
  if s.stressing .raiseWait then raiseGate reach s
  else if s.stressing .raiseIntent then
    if 2 ≤ s.table.raiseTicks then
      if s.raiseConditionsAtEnd then reach .raiseIntentEnd s else withdraw reach s
    else if s.table.raiseTicks = 1 && s.spanEntries.any Entry.lapsed then withdraw reach s
    else s
  else s

/-! ## The grout gate on a tick (R94, R95) -/

/-- The grout intent interval ends at this tick (R95). -/
def State.groutIntentOver (s : State) : Bool :=
  s.grouting && s.grout.phase == .intent && decide (2 ≤ s.grout.intentTicks)

def groutPart (s : State) : State :=
  if s.groutIntentOver then
    if s.groutTotal < s.cfg Setup.concurrency 0 then reach .groutIntentEnd s
    else reach .gaveWay (logEvent .gateBackoff 0 s)
  else groutGate reach s

/-! ## The tick -/

/-- The gates and the claim. -/
def gateWork (s : State) : State := groutPart (raisePart (claimPart s))

/-- The gate timer reaches the gate timeout at this advance of the job clock (R92). -/
def State.timeoutDue (s : State) : Bool :=
  (s.stressing .raiseWait || s.stressing .raiseIntent) &&
  decide (s.table.gateTimer + 1 = s.cfg Setup.gateTimeout 0 * 60)

/-- The gate timer, if the station still waits at the gate. -/
def timeoutPart (s : State) : State :=
  if s.stressing .raiseWait || s.stressing .raiseIntent then gateClock s else s

/-- All that the tick does to the work. A gate timeout that falls together with the gate may act before or after
it (log 8); every other clock counts before the gates act. -/
def workOfTick (advanced : Bool) (s : State) : State :=
  if advanced then
    if s.timeoutDue then eitherOrder timeoutPart gateWork s else gateWork (stageClocks s)
  else gateWork s

/-- The work with the periodic record, which stands before or after the other records of the tick (R181), and
before them where the stage ends (R178, log 28). -/
def tickWork (advanced : Bool) (s : State) : State :=
  if !advanced then workOfTick advanced s
  else if (workOfTick advanced s).stageActive then
    eitherOrder periodicRecord (workOfTick advanced) s
  else workOfTick advanced (periodicRecord s)

/-- The notice tick (R1). One notice carries the tick's own changes (R83); a grout intent that gave way evaluates
its gate afresh after that notice, which carries neither flag (R95, log 12). -/
def noticeTick (s : State) : State :=
  let t := requestNotice (settle s (tickWork s.jobAdvances (tickCounts s)))
  if s.grout.phase = .intent then prompt t (settle t (groutGate reach t)) else t

/-! ## What a tick brings -/

/-- The state at which the clocks of the stage act, and the one at which the gates do. -/
def clocksAt (s : State) : State := tickCounts s

def gatesAt (s : State) : State :=
  if s.jobAdvances && !(tickCounts s).timeoutDue then stageClocks (tickCounts s) else tickCounts s

def cureAdvances (s : State) : Bool := s.seq.cure.running && s.seq.cure.half

/-- Entry `n` is `age` ticks old outside BREAK, so that this tick makes it one older. -/
def entryAt (n age : Nat) (s : State) : Bool :=
  s.line.state != .broken && s.table.entries.any fun e => e.station == n && e.age == age

/-- The stall timer reaches 10 (R105). -/
def stallDue (s : State) : Bool :=
  s.jobAdvances && s.winching && s.drives.winch &&
  match s.winch with
  | some w => decide (10 ≤ w.stallTimer + 1)
  | none => false

/-- The lock-off timer reaches `n` in phase `p` (R133 to R135). -/
def lockOffDue (p : StepPhase) (n : Nat) (s : State) : Bool :=
  s.jobAdvances && s.stressing p && decide (s.jack.lockOffTimer + 1 = n)

/-- The ramp clock first exceeds the ramp allowance (R128). -/
def rateSlowDue (s : State) : Bool :=
  s.jobAdvances && s.stressing .rampUp && !s.jack.ramp.slow &&
  decide (rampAllowance s.stepTarget s.jack.ramp.startLoad (s.cfg Setup.rampRate 0) <
    min (s.jack.ramp.clock + 1) Config.clockMax)

def State.holding (s : State) : Bool := s.seq.stage == .stress && s.jack.phase == .hold

/-- The hold clock reaches a reading time within the current length (R148). -/
def readingIsDue (s : State) : Bool :=
  s.jobAdvances && s.holding &&
  (readingDue (min (s.jack.holdClock + 1) Config.clockMax) (s.jack.holdLength.getD 0)).isSome

/-- The hold clock reaches the current length (R149). -/
def holdEndDue (s : State) : Bool :=
  s.jobAdvances && s.holding &&
  decide (min (s.jack.holdClock + 1) Config.clockMax = s.jack.holdLength.getD 0 * 60)

/-! ## The commands of the tick -/

/-- NOTICE_TICK (R1). -/
def execNoticeTick (s : State) : Host.Outcome State Fault Refusal :=
  .next (secure s (noticeTick s))

/-- JOB_CLOCK_ADVANCE (R37): the second tick. -/
def execJobClockAdvance (s : State) : Host.Outcome State Fault Refusal :=
  .next (secure s (occasion s.jobAdvances noticeTick s))

/-- CURE_CLOCK_ADVANCE (R38): the second tick. -/
def execCureClockAdvance (s : State) : Host.Outcome State Fault Refusal :=
  .next (secure s (occasion (cureAdvances s) noticeTick s))

/-- ENTRY_LAPSED (R79): the tick at which the entry's age reaches 3. -/
def execEntryLapsed (n : Nat) (s : State) : Host.Outcome State Fault Refusal :=
  .next (secure s (occasion (entryAt n 2 s) noticeTick s))

/-- ENTRY_REMOVED (R79): the tick at which the entry's age reaches 10. -/
def execEntryRemoved (n : Nat) (s : State) : Host.Outcome State Fault Refusal :=
  .next (secure s (occasion (entryAt n 9 s) noticeTick s))

/-- RAISE_INTENT_END (R88): the second tick of the interval. -/
def execRaiseIntentEnd (s : State) : Host.Outcome State Fault Refusal :=
  .next (secure s (occasion (claimPart (gatesAt s)).raiseIntentOver noticeTick s))

/-- GATE_TIMEOUT (R92). -/
def execGateTimeout (s : State) : Host.Outcome State Fault Refusal :=
  .next (secure s (occasion (s.jobAdvances && (clocksAt s).timeoutDue) noticeTick s))

/-- GROUT_INTENT_END (R95): the second tick of the interval. -/
def execGroutIntentEnd (s : State) : Host.Outcome State Fault Refusal :=
  .next (secure s (occasion (clocksAt s).groutIntentOver noticeTick s))

/-- CLAIM_LIMIT (R97). -/
def execClaimLimit (s : State) : Host.Outcome State Fault Refusal :=
  .next (secure s (occasion (clocksAt s).claimAtLimit noticeTick s))

/-- REST_END (R97). -/
def execRestEnd (s : State) : Host.Outcome State Fault Refusal :=
  .next (secure s (occasion (clocksAt s).restOver noticeTick s))

/-- RATE_SLOW (R128). -/
def execRateSlow (s : State) : Host.Outcome State Fault Refusal :=
  .next (secure s (occasion (rateSlowDue s) noticeTick s))

/-- HOLD_READING (R148). -/
def execHoldReading (s : State) : Host.Outcome State Fault Refusal :=
  .next (secure s (occasion (readingIsDue s) noticeTick s))

/-- HOLD_END (R149). -/
def execHoldEnd (s : State) : Host.Outcome State Fault Refusal :=
  .next (secure s (occasion (holdEndDue s) noticeTick s))

/-- WINCH_STALL (R105). -/
def execWinchStall (s : State) : Host.Outcome State Fault Refusal :=
  .next (secure s (occasion (stallDue s) noticeTick s))

/-- SEATING_LIMIT (R133). -/
def execSeatingLimit (s : State) : Host.Outcome State Fault Refusal :=
  .next (secure s (occasion (lockOffDue .seating 31 s) noticeTick s))

/-- RELEASE_LIMIT (R134). -/
def execReleaseLimit (s : State) : Host.Outcome State Fault Refusal :=
  .next (secure s (occasion (lockOffDue .release 61 s) noticeTick s))

/-- SETTLE_WAIT_END (R135). -/
def execSettleWaitEnd (s : State) : Host.Outcome State Fault Refusal :=
  .next (secure s (occasion (lockOffDue .settle 60 s) noticeTick s))

end Sys2Proof.Machine
end

