-- ==== Sys2Proof/Machine/Dispatch.lean ====
section
/-!
DEFINITION. One arm for each command: the meaning it has.
-/
namespace Sys2Proof.Machine

def exec (i : Instr) (s : State) : Host.Outcome State Fault Refusal :=
  match i with
  | .powerUp => Sys2Proof.Machine.execPowerUp s
  | .setup body => Sys2Proof.Machine.execSetup body s
  | .startWinch body => Sys2Proof.Machine.execStartWinch body s
  | .startGrout body => Sys2Proof.Machine.execStartGrout body s
  | .startStress body => Sys2Proof.Machine.execStartStress body s
  | .pause body => Sys2Proof.Machine.execPause body s
  | .resume body => Sys2Proof.Machine.execResume body s
  | .abort body => Sys2Proof.Machine.execAbort body s
  | .acknowledge body => Sys2Proof.Machine.execAcknowledge body s
  | .acceptDrift body => Sys2Proof.Machine.execAcceptDrift body s
  | .setMask body => Sys2Proof.Machine.execSetMask body s
  | .clearSeen body => Sys2Proof.Machine.execClearSeen body s
  | .restart body => Sys2Proof.Machine.execRestart body s
  | .readStatus body => Sys2Proof.Machine.execReadStatus body s
  | .readNeighbours body => Sys2Proof.Machine.execReadNeighbours body s
  | .readLog body => Sys2Proof.Machine.execReadLog body s
  | .readResults body => Sys2Proof.Machine.execReadResults body s
  | .undefinedRequest code body => Sys2Proof.Machine.execUndefinedRequest code body s
  | .requestFrameDiscard chars => Sys2Proof.Machine.execRequestFrameDiscard chars s
  | .pendantGapTimeout chars => Sys2Proof.Machine.execPendantGapTimeout chars s
  | .overlappedRequest code body => Sys2Proof.Machine.execOverlappedRequest code body s
  | .replyStart => Sys2Proof.Machine.execReplyStart s
  | .replySent => Sys2Proof.Machine.execReplySent s
  | .sampleEvent input contacts => Sys2Proof.Machine.execSampleEvent input contacts s
  | .contactDebounced levels => Sys2Proof.Machine.execContactDebounced levels s
  | .estopReleased levels => Sys2Proof.Machine.execEstopReleased levels s
  | .breakDriveEnd bits => Sys2Proof.Machine.execBreakDriveEnd bits s
  | .flowPulse => Sys2Proof.Machine.execFlowPulse s
  | .drainWindowClose => Sys2Proof.Machine.execDrainWindowClose s
  | .channelLost input => Sys2Proof.Machine.execChannelLost input s
  | .driftLoadVoid nanoamp => Sys2Proof.Machine.execDriftLoadVoid nanoamp s
  | .winchStall => Sys2Proof.Machine.execWinchStall s
  | .seatingLimit => Sys2Proof.Machine.execSeatingLimit s
  | .releaseLimit => Sys2Proof.Machine.execReleaseLimit s
  | .settleWaitEnd => Sys2Proof.Machine.execSettleWaitEnd s
  | .noticeTick => Sys2Proof.Machine.execNoticeTick s
  | .jobClockAdvance => Sys2Proof.Machine.execJobClockAdvance s
  | .cureClockAdvance => Sys2Proof.Machine.execCureClockAdvance s
  | .entryLapsed station => Sys2Proof.Machine.execEntryLapsed station s
  | .entryRemoved station => Sys2Proof.Machine.execEntryRemoved station s
  | .raiseIntentEnd => Sys2Proof.Machine.execRaiseIntentEnd s
  | .gateTimeout => Sys2Proof.Machine.execGateTimeout s
  | .groutIntentEnd => Sys2Proof.Machine.execGroutIntentEnd s
  | .claimLimit => Sys2Proof.Machine.execClaimLimit s
  | .restEnd => Sys2Proof.Machine.execRestEnd s
  | .rateSlow => Sys2Proof.Machine.execRateSlow s
  | .holdReading => Sys2Proof.Machine.execHoldReading s
  | .holdEnd => Sys2Proof.Machine.execHoldEnd s
  | .lineIdle bits => Sys2Proof.Machine.execLineIdle bits s
  | .lineBreakDetect bits => Sys2Proof.Machine.execLineBreakDetect bits s
  | .frameComplete bits => Sys2Proof.Machine.execFrameComplete bits s
  | .frameDiscard bits => Sys2Proof.Machine.execFrameDiscard bits s
  | .noticeApplied => Sys2Proof.Machine.execNoticeApplied s
  | .attemptStart bits => Sys2Proof.Machine.execAttemptStart bits s
  | .attemptLost bits => Sys2Proof.Machine.execAttemptLost bits s
  | .noticeDropped bits => Sys2Proof.Machine.execNoticeDropped bits s
  | .backoffEnd bits => Sys2Proof.Machine.execBackoffEnd bits s
  | .attemptSuccess bits => Sys2Proof.Machine.execAttemptSuccess bits s
  | .lineBusy bits => Sys2Proof.Machine.execLineBusy bits s
  | .characterFormed bits => Sys2Proof.Machine.execCharacterFormed bits s
  | .pendantStartCharacter char => Sys2Proof.Machine.execPendantStartCharacter char s

end Sys2Proof.Machine
end

