-- ==== Sys2Proof/Safety.lean ====
section
/-!
DEFINITION. What counts as a safe and sound state of the station, in the terms that claims use: drives in their
rows (R53), stores within their sizes (R61, R74, R76, R176), a fault record that matches the run state (R50), a
stage that matches the run state and the progress (R32, R34), fault sets of the right kinds (R163 to R165).
-/
namespace Sys2Proof.Machine

/-- Every drive stands open or on only in the row of R53 that lists it, and the raise valve and the lower valve
are not open together. -/
def State.drivesLegal (s : State) : Bool :=
  (!s.drives.raise || s.raiseAllowed) && (!s.drives.lower || s.lowerAllowed) &&
  (!s.drives.seating || s.seatingAllowed) && (!s.drives.grout || s.groutAllowed) &&
  (!s.drives.winch || s.winchAllowed) && !(s.drives.raise && s.drives.lower)

/-- The log holds at most 4096 bytes of records (R176). -/
def State.logBounded (s : State) : Bool := decide (logUsed s.log ≤ Config.logSize)

/-- The receive queue holds at most 4 frames (R61); before SETUP none waits and none is applied (R72). -/
def State.queueBounded (s : State) : Bool :=
  decide (s.line.queue.length ≤ Config.queueSize) &&
  (s.seq.config.isSome || (s.line.queue.isEmpty && s.line.applying.isNone))

/-- Entries in rising station number, which leaves no two of one number. -/
def risingStations : List Entry → Bool
  | [] => true
  | [_] => true
  | a :: b :: rest => decide (a.station < b.station) && risingStations (b :: rest)

/-- The neighbour table holds at most 24 entries, no two with one station number, each 1 to 63, none with the own
number, and none before SETUP (R74, R76). -/
def State.tableSound (s : State) : Bool :=
  decide (s.table.entries.length ≤ Config.tableSize) && risingStations s.table.entries &&
  match s.seq.config with
  | none => s.table.entries.isEmpty
  | some g =>
    s.table.entries.all fun e =>
      decide (1 ≤ e.station) && decide (e.station ≤ 63) && e.station != g.station

/-- FAULTED exactly when a taken fault other than WALL_STOP is held, STOPPED exactly when WALL_STOP is (R50). -/
def State.faultMatches (s : State) : Bool :=
  match s.faults.taken with
  | none => s.seq.runState != .faulted && s.seq.runState != .stopped
  | some t => s.seq.runState == if t.kind = .wallStop then .stopped else .faulted

/-- Run state, stage, progress and configuration stand to one another as R32, R34 and R49 give. -/
def State.stageSound (s : State) : Bool :=
  (match s.seq.runState with
   | .unconfigured => s.seq.stage == .none && s.seq.config.isNone
   | .idle => s.seq.stage == .none && s.seq.config.isSome
   | .running | .paused | .faulted => s.seq.stage != .none && s.seq.config.isSome
   | .stopped => s.seq.config.isSome
   | .aborting => s.seq.stage == .stress && s.seq.abortMark && s.seq.config.isSome) &&
  (match s.seq.stage with
   | .none => true
   | .winch => s.seq.progress == .none
   | .grout => s.seq.progress == .winched
   | .stress => s.seq.progress == .grouted) &&
  (!s.seq.abortMark || s.seq.stage == .stress)

/-- Kinds in falling priority, which leaves no kind twice; the highest stands first (R163, log 22). -/
def fallingPriority : List (FaultKind × Detail) → Bool
  | [] => true
  | [_] => true
  | a :: b :: rest => decide (a.1.priority < b.1.priority) && fallingPriority (b :: rest)

/-- The pending set holds unmasked-course kinds only: maskable, and never VOID_TEST (R164, R165); the highest stands
first. -/
def State.pendingSound (s : State) : Bool :=
  (s.faults.pending.all fun p => p.1.maskable && p.1 != .voidTest) && fallingPriority s.faults.pending

/-- An abort's lowering does not stand with JACK_HOME active: it has ended then (R49). -/
def State.loweringSound (s : State) : Bool := s.seq.runState != .aborting || !s.contacts.jackHome.active

/-- The mask holds maskable kinds only (R163, R173). -/
def State.maskSound (s : State) : Bool := s.faults.mask.all FaultKind.maskable

/-- The standing of the station: run state, stage, progress, taken fault and pending set agree. -/
def State.standing (s : State) : Bool := s.faultMatches && s.stageSound && s.pendingSound

/-- The progress one place forward (R36). -/
def Progress.forward : Progress → Progress
  | .none => .winched
  | .winched => .grouted
  | .grouted => .locked
  | .locked => .locked

/-- The pendant port takes a whole request: the receiver waits and no reply is in progress (R186, R188). -/
def State.portFree (s : State) : Bool :=
  s.port.receiver == .waiting && s.port.reply.isNone

/-- The row of the table that a request of this code is. -/
def requestOf (code : Byte) (body : List Byte) : Instr :=
  if code = codeSetup then .setup body
  else if code = codeStartWinch then .startWinch body
  else if code = codeStartGrout then .startGrout body
  else if code = codeStartStress then .startStress body
  else if code = codePause then .pause body
  else if code = codeResume then .resume body
  else if code = codeAbort then .abort body
  else if code = codeAcknowledge then .acknowledge body
  else if code = codeAcceptDrift then .acceptDrift body
  else if code = codeSetMask then .setMask body
  else if code = codeClearSeen then .clearSeen body
  else if code = codeRestart then .restart body
  else if code = codeReadStatus then .readStatus body
  else if code = codeReadNeighbours then .readNeighbours body
  else if code = codeReadLog then .readLog body
  else if code = codeReadResults then .readResults body
  else .undefinedRequest code body

/-- The characters of a request frame, start character first, every stop bit high (R185). -/
def requestChars (code : Byte) (body : List Byte) : List PendantChar :=
  (195 :: requestTail code body).map fun b => { byte := b, stopLow := false }

/-- Neither the overload nor the stroke decision gives true, whatever the lower valve does (R137, R138). -/
def State.watchQuiet (s : State) : Bool :=
  match s.seq.config with
  | none => true
  | some g =>
    !Test.overTest.holds (compareNat (s.filtered .load) g.loadLimit 0) &&
    !Test.reached.holds (compareNat (s.filtered .ext) g.strokeLimit 0)

/-- The decisions that come into force on entering PAUSED leave the work as it stands: in HOLD no top-up starts, in a
GROUT stage the target volume is not reached (R46, R114, R131). -/
def State.pausedQuiet (s : State) : Bool :=
  (s.seq.stage != .stress || s.jack.phase != .hold ||
    (!s.jack.topUp && Test.reached.holds (s.loadAgainst s.stepTarget))) &&
  (s.seq.stage != .grout ||
    match s.grout.record with
    | none => true
    | some r => Test.short.holds (compareNat (s.filtered .gv) r.target 0))

/-- A channel that the stage will need in PAUSED stands lost (R12, R46). -/
def State.lostInPaused (s : State) (c : ChannelName) : Bool := (setRunState .paused s).standsLost c

/-- No channel that the stage will need in PAUSED stands lost. -/
def State.noneLost (s : State) : Bool := ChannelName.all.all fun c => !s.lostInPaused c

/-- The higher of the two kinds that the overload and stroke decisions detect, where one of them gives true (R162, R172). -/
def State.watchTaken (s : State) : FaultKind := if s.overloaded then .loadLimit else .strokeEnd

/-- What a stage request finds in its own fields (checks 8 and 9 of R34). -/
def stageFields (g : Stage) (body : List Byte) (s : State) : Option Refused :=
  match g with
  | .none => none
  | .winch => winchRefusal body
  | .grout => groutRefusal body
  | .stress => stressRefusal (s.cfg Setup.loadLimit 0) body

/-- The progress that a stage request needs (check 4 of R34). -/
def progressBefore : Stage → Progress
  | .none => .none
  | .winch => .none
  | .grout => .winched
  | .stress => .grouted

/-- The request code of a stage (R186). -/
def stageRequest : Stage → Byte
  | .none => 0
  | .winch => 2
  | .grout => 3
  | .stress => 4

/-- Outcome and argument that the checks of R34 give a stage request, in their order; outcome 0 where every check
passes. -/
def stageOutcome (g : Stage) (body : List Byte) (s : State) : Nat × Nat :=
  if s.seq.runState = .unconfigured then (1, 0)
  else if s.seq.runState ≠ .idle then (3, 0)
  else if s.seq.progress = .locked then (3, 0)
  else if s.seq.progress ≠ progressBefore g then (3, 0)
  else if g = .stress ∧ s.seq.cure.hours < s.cfg Setup.cureTime 0 then (6, 0)
  else if s.contacts.estop.active = true then (8, 0)
  else if s.line.state = .broken then (7, 0)
  else
    match stageFields g body s with
    | some why => (why.1.code, why.2)
    | none => (0, 0)

/-- Nothing waits for a step boundary, and no entry can leave the table on the next tick (R79, R167). -/
def State.boundaryClear (s : State) : Bool :=
  s.faults.pending.isEmpty && s.table.entries.all fun e => decide (e.age < 9)

/-- The table as the next tick's ageing leaves it (R79). -/
def State.agedEntries (s : State) : List Entry :=
  if s.line.state = .broken then s.table.entries
  else (s.table.entries.map Entry.older).filter fun e => decide (e.age < 10)

/-- The state of the port once a request has been answered (R186, R187). -/
def State.replied (s : State) (code : Byte) (body : List Byte) (outcome argument : Nat)
    (out : List Byte) : State :=
  { s with
    port :=
      { s.port with
        receiver := .waiting
        buffer := some (code, body)
        reply :=
          some
            { code := code, outcome := outcome, argument := argument, body := out, sending := false } } }

/-- The filter length that a configuration gives a channel (R6, R189). -/
def Setup.filterOf (g : Setup) : ChannelName → Nat
  | .load => g.filterLoad | .ext => g.filterExt | .gp => g.filterGp | .gv => g.filterGv
  | .wl => g.filterWl | .wt => g.filterWt

/-- What the line reads in a bit time, the station's own drive with it (R54). -/
def State.readsDominant (s : State) (b : BitTime) : Bool :=
  majority (lineSamples (beginAttempt s).ownBit b)

/-- Whether that bit is a disagreeing bit (R54). -/
def State.readsNoisy (s : State) (b : BitTime) : Bool :=
  disagree (lineSamples (beginAttempt s).ownBit b)

end Sys2Proof.Machine
end

