-- ==== Sys2Proof/Certificates/Slice0/Obligations.lean ====
section
/-!
DEFINITION. The statements for the provers. `R<n>` is a numbered rule of spec/; `log <n>` is an entry of
notes/assumptions/.
-/
open Sys2Proof Sys2Proof.Machine

/-! ## The queue of commands -/

/-- One step takes the command at the front of the queue and runs it with the queue's rest (the queue is the model's own,
log 2). -/
def Obligations.StepRunsTheFrontCommand : Prop :=
  ∀ (c : Instr) (rest : List Instr) (s : State),
    s.pending = c :: rest → step s = exec c { s with pending := rest }

/-- No command stops the model, and none reaches the queue of waiting commands, which is the model's own (log 2). -/
def Obligations.EveryCommandAnswersANextState : Prop :=
  ∀ (c : Instr) (s : State), ∃ t, exec c s = .next t ∧ t.pending = s.pending

/-! ## Invariants of the station -/

/-- R53: every drive stands open or on only in its row, raise and lower valve never together, after every step. -/
def Obligations.DrivesStayInTheirRows : Prop :=
  ∀ s t : State, s.drivesLegal = true → step s = .next t → t.drivesLegal = true

/-- R61, R72, R74, R76, R176: the log holds at most 4096 bytes, the receive queue at most 4 frames and none before SETUP,
the neighbour table at most 24 entries of different stations and none of the own, after every step. -/
def Obligations.StoresStayWithinTheirSizes : Prop :=
  ∀ s t : State, s.standing = true → s.logBounded = true → s.queueBounded = true →
    s.tableSound = true → step s = .next t →
    t.logBounded = true ∧ t.queueBounded = true ∧ t.tableSound = true

/-- R32, R49, R50, R163 to R165, R173: run state, stage, progress, taken fault and pending set stay in agreement after
every step, the pending set with its highest kind first (the order of the list is the model's, log 22), no abort's
lowering stands with JACK_HOME active, and only maskable kinds stand in the mask. -/
def Obligations.StandingIsKept : Prop :=
  ∀ s t : State, step s = .next t →
    (s.standing = true → t.standing = true) ∧
    (s.standing = true → s.loweringSound = true → t.loweringSound = true) ∧
    (s.maskSound = true → t.maskSound = true)

/-- R36: once the station is configured, a command leaves the anchor progress where it was or moves it one place
forward; only power-up takes it back. -/
def Obligations.ProgressMovesOnlyForward : Prop :=
  ∀ (c : Instr) (s t : State), s.standing = true → s.seq.runState ≠ .unconfigured → c ≠ .powerUp →
    exec c s = .next t →
    t.seq.progress = s.seq.progress ∨ t.seq.progress = s.seq.progress.forward

/-- The state after power-up meets every invariant stated here. -/
def Obligations.ResetMeetsTheInvariants : Prop :=
  State.reset.drivesLegal = true ∧ State.reset.standing = true ∧ State.reset.logBounded = true ∧
  State.reset.queueBounded = true ∧ State.reset.tableSound = true ∧ State.reset.maskSound = true ∧
  State.reset.loweringSound = true

/-! ## The two resets -/

/-- R17, R32, R73, R100, R119, R145, R175, R176, R188: the values after power-up. -/
def Obligations.PowerUpGivesTheStatedValues : Prop :=
  ∀ (c : ChannelName) (s : State), ∃ t, exec .powerUp s = .next t ∧
    ((t.chan c).filterLen = 8 ∧ (t.chan c).window = [] ∧ (t.chan c).voidRun = 0 ∧
      (t.chan c).refilled = false ∧ (t.chan c).value = none) ∧
    (t.chans.gvCount = 0 ∧ t.chans.gvOver = false ∧ t.chans.drainOpen = false) ∧
    (t.contacts.seat.active = false ∧ t.contacts.jackHome.active = false ∧
      t.contacts.flowFault.active = false ∧ t.contacts.estop.active = false) ∧
    (t.seq.runState = .unconfigured ∧ t.seq.stage = .none ∧ t.seq.progress = .none ∧
      t.seq.cure.hours = 0 ∧ t.seq.cure.seconds = 0 ∧ t.seq.cure.running = false ∧
      t.seq.jobClock = 0 ∧ t.seq.held = none ∧ t.seq.abortMark = false ∧ t.seq.config = none) ∧
    (t.line.state = .busy ∧ t.line.domRun = 0 ∧ t.line.recRun = 0 ∧ t.line.receiver = .waiting ∧
      t.line.assembling = none ∧ t.line.queue = [] ∧ t.line.slot = none ∧ t.line.followOn = false ∧
      t.line.lossCount = 0 ∧ t.line.breakDrive = false) ∧
    (t.table.entries = [] ∧ t.table.ownSequence = 0 ∧ t.table.gateTimer = 0 ∧
      t.ownFlags = ⟨false, false, false, false, false, false⟩) ∧
    (t.winch = none ∧ t.grout.record = none ∧ t.grout.phase = .none ∧ t.grout.claim = none) ∧
    (t.jack.schedule = [] ∧ t.jack.stepIndex = 0 ∧ t.jack.phase = .none ∧ t.jack.approach = .none ∧
      t.jack.datum = none ∧ t.jack.lockedLoad = none ∧ t.jack.holdClock = 0 ∧
      t.jack.holdLength = none ∧ t.jack.topUp = false ∧ t.jack.lockOffTimer = 0) ∧
    (t.eval.results = [] ∧ t.eval.summary = .cleared ∧ t.eval.peak = none) ∧
    (t.faults.mask = [] ∧ t.faults.seen = [] ∧ t.faults.pending = [] ∧ t.faults.taken = none) ∧
    t.log = [] ∧ t.drives = .off ∧
    (t.port.receiver = .waiting ∧ t.port.buffer = none ∧ t.port.reply = none ∧
      t.port.overlap = false)

/-- R191: what an accepted RESTART returns to its starting value, what it keeps, and where it is refused. -/
def Obligations.RestartReturnsTheStartingValues : Prop :=
  ∀ (c : ChannelName) (s : State),
    s.portFree = true → s.drivesLegal = true →
    (s.seq.runState = .idle → s.grout.claim = none → s.grout.phase = .none → s.jack.phase = .none →
      ∃ t, exec (.restart []) s = .next t ∧
        ((t.chan c).window = [] ∧ (t.chan c).voidRun = 0 ∧ (t.chan c).refilled = false ∧
          (1 ≤ (s.chan c).filterLen → (t.chan c).value = none) ∧
          (t.chan c).filterLen = (s.chan c).filterLen) ∧
        (t.table.entries = [] ∧ t.line.queue = [] ∧ t.table.ownSequence = 0 ∧
          t.table.raiseTicks = 0 ∧ t.table.gateTimer = 0 ∧ t.grout.intentTicks = 0 ∧
          t.grout.restTicks = 0 ∧ t.eval.peak = none ∧ t.faults.pending = [] ∧ t.faults.seen = []) ∧
        t.line.slot =
          (s.line.slot.bind fun n =>
            match n.status with
            | .sending k => some { n with status := .sending k, retry := false }
            | .waiting | .backoff => none) ∧
        (t.line.followOn = false ∧ t.line.lossCount = 0) ∧
        (t.seq.runState = .idle ∧ t.seq.config = s.seq.config ∧ t.seq.progress = s.seq.progress ∧
          t.seq.cure = s.seq.cure ∧ t.jack.lockedLoad = s.jack.lockedLoad ∧
          t.jack.datum = s.jack.datum ∧ t.table.drift = s.table.drift ∧
          t.ownFlags.locked = s.ownFlags.locked ∧ t.faults.mask = s.faults.mask ∧ t.log = s.log ∧
          t.winch = s.winch ∧ t.grout.record = s.grout.record ∧ t.eval.results = s.eval.results ∧
          t.eval.summary = s.eval.summary) ∧
        (t.line.state = s.line.state ∧ t.line.assembling = s.line.assembling ∧
          t.line.breakDrive = s.line.breakDrive ∧ t.contacts = s.contacts ∧
          t.chans.gvCount = s.chans.gvCount) ∧
        t.port = (s.replied codeRestart [] 0 0 []).port) ∧
    (s.seq.runState ≠ .idle → s.seq.runState ≠ .unconfigured →
      exec (.restart []) s = .next (s.replied codeRestart [] 3 0 []))

/-! ## The comparator and the named tests -/

/-- R18, R20, R21: the four conditions of a comparison, and what each named test is true on; none is true on VOID. -/
def Obligations.TestsFollowTheComparator : Prop :=
  ∀ (v t d : Int) (x : Test), 0 ≤ d →
    compare none t d = .void ∧
    (compare (some v) t d = .below ↔ v < t - d) ∧
    (compare (some v) t d = .above ↔ t + d < v) ∧
    (compare (some v) t d = .within ↔ t - d ≤ v ∧ v ≤ t + d) ∧
    (Test.reached.holds (compare (some v) t d) = true ↔ t - d ≤ v) ∧
    (Test.short.holds (compare (some v) t d) = true ↔ v < t - d) ∧
    (Test.overTest.holds (compare (some v) t d) = true ↔ t + d < v) ∧
    (Test.inband.holds (compare (some v) t d) = true ↔ t - d ≤ v ∧ v ≤ t + d) ∧
    (Test.clear.holds (compare (some v) t d) = true ↔ v ≤ t + d) ∧
    (Test.out.holds (compare (some v) t d) = true ↔ v < t - d ∨ t + d < v) ∧
    Test.present.holds (compare (some v) t d) = true ∧
    x.holds (compare none t d) = false

/-! ## Samples, filters and contacts -/

/-- R3: the sample of a loop current in nA (the unit is the model's, log 5): VOID outside 3.6 to 21.0 mA, else the linear
conversion rounded half up and clamped to the range with the OVER mark. -/
def Obligations.LoopCurrentsConvertLinearly : Prop :=
  ∀ (top i : Nat) (x : Sample),
    (loopSample top i = none ↔ i < 3600000 ∨ 21000000 < i) ∧
    (loopSample top i = some x →
      x.value ≤ top ∧
      (x.overMark = false →
        32000000 * (x.value : Int) ≤ 2 * (((i : Int) - 4000000) * top) + 16000000 ∧
        2 * (((i : Int) - 4000000) * top) + 16000000 < 32000000 * ((x.value : Int) + 1)) ∧
      (x.overMark = true → i < 4000000 → x.value = 0) ∧
      (x.overMark = true → 4000000 ≤ i → x.value = top ∧
        32000000 * ((top : Int) + 1) ≤ 2 * (((i : Int) - 4000000) * top) + 16000000))

/-- R7, R8: the window, its fill count and the mean of a full window; after a VOID sample the value is VOID until the
window holds N valid samples again. -/
def Obligations.FilterIsTheMeanOfAFullWindow : Prop :=
  ∀ (c : Channel) (x : Sample) (xs : List Sample) (top : Nat),
    1 ≤ c.filterLen → c.window.length ≤ c.filterLen →
    (c.take (some x)).window = (c.window ++ [x]).drop (c.window.length + 1 - c.filterLen) ∧
    (c.take (some x)).window.length = min (c.window.length + 1) c.filterLen ∧
    (c.window.length < c.filterLen → c.value = none) ∧
    ((c.take none).window = [] ∧ (c.take none).value = none) ∧
    ((xs.foldl (fun d y => d.take (some y)) (c.take none)).value = none ↔ xs.length < c.filterLen) ∧
    (xs.length = c.filterLen →
      (xs.foldl (fun d y => d.take (some y)) c).window = xs ∧
      (xs.foldl (fun d y => d.take (some y)) c).value =
        some (((xs.map Sample.value).sum + c.filterLen / 2) / c.filterLen)) ∧
    (xs.length = c.filterLen → (∀ y ∈ xs, y.value ≤ top) →
      ((xs.map Sample.value).sum + c.filterLen / 2) / c.filterLen ≤ top)

/-- R15, R16: a debounced contact changes at the third consecutive read at the new level, and a read at the old level
starts the count again; ESTOP becomes active at the first active read and inactive at the 25th consecutive inactive
read. -/
def Obligations.ContactsAreDebounced : Prop :=
  ∀ (c : Contact) (level : Bool) (k : Nat),
    c.read c.active = { c with count := 0 } ∧
    (c.count = 0 → level ≠ c.active →
      (((List.replicate k level).foldl (fun d l => d.read l) c).active = level ↔ 3 ≤ k)) ∧
    c.readEstop true = { active := true, count := 0 } ∧
    (c.active = true → c.count = 0 →
      (((List.replicate k false).foldl (fun d o => d.readEstop o) c).active = false ↔ 25 ≤ k))

/-- R2, R7, R8, R11, R12, R15, R16: every SAMPLE_EVENT completes: its channel takes the sample, the contacts take the
read that the event carries, and no other channel, no entry, no request and no figure of the configuration moves; with no
stage, which writes no record, a turn from VOID to valid sets the REFILLED mark. That an event carries the contact read is
the command's form (log 6); that the sample is taken before the contacts are read, with FLOW_FAULT as it stood, is the
model's order (log 7). -/
def Obligations.SampleEventUpdatesItsChannel : Prop :=
  ∀ (i : SampleInput) (r : Option ContactRead) (c : ChannelName) (s : State),
    ∃ t, exec (.sampleEvent i r) s = .next t ∧
      (t.chan (inputChannel i)).window =
        windowAfter (s.chan (inputChannel i)).filterLen (s.chan (inputChannel i)).window
          (s.sampleOf i) ∧
      (t.chan (inputChannel i)).filterLen = (s.chan (inputChannel i)).filterLen ∧
      (t.chan (inputChannel i)).voidRun =
        (if (t.chan (inputChannel i)).value = none then
          min ((s.chan (inputChannel i)).voidRun + 1) 100 else 0) ∧
      (s.seq.stage = .none →
        (t.chan (inputChannel i)).refilled =
          ((s.chan (inputChannel i)).refilled ||
            (s.filtered (inputChannel i)).isNone && (t.filtered (inputChannel i)).isSome)) ∧
      (c ≠ inputChannel i →
        (t.chan c).window = (s.chan c).window ∧ (t.chan c).filterLen = (s.chan c).filterLen ∧
        (t.chan c).voidRun = (s.chan c).voidRun) ∧
      (t.chans.gvCount = s.chans.gvCount ∧ t.chans.gvOver = s.chans.gvOver) ∧
      t.contacts =
        (match r with
         | none => s.contacts
         | some x =>
           { seat := s.contacts.seat.read x.seatClosed
             jackHome := s.contacts.jackHome.read x.jackHomeClosed
             flowFault := s.contacts.flowFault.read x.flowFaultClosed
             estop := s.contacts.estop.readEstop x.estopOpen }) ∧
      t.table.entries = s.table.entries ∧ t.line.queue = s.line.queue ∧
      t.line.state = s.line.state ∧ t.port = s.port ∧ t.seq.config = s.seq.config ∧
      t.faults.mask = s.faults.mask

/-- R15, R16, R49, R68, R133, R134, R137, R138, R143, R159: the contact reads at which a debounced state changes; an active
ESTOP read starts the break drive and abandons an attempt in progress, whose notice, or the follow-on notice, then waits in
the slot; ESTOP released ends the drive once 66 bit times are given. SEAT active ends SEATING into RELEASE, or into SETTLE
with JACK_HOME active too; JACK_HOME active ends RELEASE into SETTLE, but that an overload or a stroke due at the closing of
the lower valve is taken (that it is asked there, before the boundary acts, is the model's, log 33); JACK_HOME active ends an
abort's lowering and with it the stage. -/
def Obligations.ContactReadsCompleteTheirChange : Prop :=
  ∀ (i : SampleInput) (x : ContactRead) (k : Nat) (s : State),
    (contactChanges x s = true → s.drivesLegal = true →
      (s.stressing .seating = true → (readContacts x s).contacts.seat.active = true →
        s.faults.pending = [] →
        ∃ t, exec (.contactDebounced x) s = .next t ∧ t.seq = { s.seq with held := none } ∧
          t.jack =
            { s.jack with
              phase :=
                if (readContacts x s).contacts.jackHome.active = true then .settle else .release
              lockOffTimer := 0 } ∧
          t.drives =
            { Drives.off with lower := !(readContacts x s).contacts.jackHome.active } ∧
          t.faults = s.faults ∧ t.eval = s.eval) ∧
      (s.stressing .release = true → (readContacts x s).contacts.jackHome.active = true →
        (s.faults.pending = [] → s.watchQuiet = true →
          ∃ t, exec (.contactDebounced x) s = .next t ∧ t.seq = { s.seq with held := none } ∧
            t.jack = { s.jack with phase := .settle, lockOffTimer := 0 } ∧ t.drives = .off ∧
            t.faults = s.faults ∧ t.eval = s.eval) ∧
        (s.standing = true → s.drives.lower = true → s.seq.config.isSome = true →
          s.watchQuiet = false →
          ∃ t, exec (.contactDebounced x) s = .next t ∧ t.seq.runState = .faulted ∧
            t.seq.stage = .stress ∧ t.drives = .off ∧
            t.faults.taken.map TakenFault.kind =
              some ({ s with drives := .off }).watchTaken)) ∧
      (s.seq.stage = .stress → s.seq.runState = .aborting →
        (readContacts x s).contacts.jackHome.active = true →
        ∃ t, exec (.contactDebounced x) s = .next t ∧ t.seq.stage = .none ∧
          t.seq.runState = .idle ∧ t.seq.jobClock = 0 ∧ t.seq.held = none ∧
          t.seq.abortMark = false ∧ t.seq.progress = s.seq.progress ∧ t.drives = .off ∧
          t.eval.summary = { s.eval.summary with jobStatus := .aborted } ∧
          t.eval.results = s.eval.results ∧
          (t.jack.lockedLoad = none ∧ t.jack.schedule = [] ∧ t.jack.stepIndex = 0 ∧
            t.jack.phase = .none ∧ t.jack.datum = s.jack.datum) ∧
          t.faults.pending = [] ∧ t.faults.taken = s.faults.taken)) ∧
    (x.estopOpen = true →
      ∃ t, exec (.sampleEvent i (some x)) s = .next t ∧
        t.contacts.estop = { active := true, count := 0 } ∧ t.line.breakDrive = true ∧
        t.line.breakBits = (if s.line.breakDrive = true then s.line.breakBits else 0) ∧
        (s.line.breakDrive = false → s.line.slot.map Slot.status = some (.sending k) →
          t.line.slot.map Slot.status = some .waiting) ∧
        t.table.entries = s.table.entries ∧ t.port = s.port) ∧
    (contactChanges x s = true →
      ∃ t, exec (.contactDebounced x) s = .next t ∧ t.contacts = (readContacts x s).contacts ∧
        t.chans.gvCount = s.chans.gvCount ∧ t.table.entries = s.table.entries ∧ t.port = s.port) ∧
    (s.contacts.estop.active = true → 24 ≤ s.contacts.estop.count → x.estopOpen = false →
      ∃ t, exec (.estopReleased x) s = .next t ∧ t.contacts.estop = { active := false, count := 0 } ∧
        t.line.breakDrive = (s.line.breakDrive && decide (s.line.breakBits < 66)) ∧
        t.table.entries = s.table.entries ∧ t.port = s.port)

/-- R4: what one flow meter pulse does, and the end of the drain window. -/
def Obligations.FlowPulsesAreCountedInTheWindow : Prop :=
  ∀ s : State, s.drivesLegal = true →
    ((s.drives.grout = true ∨ s.chans.drainOpen = true) → s.contacts.flowFault.active = false →
      s.chans.gvCount < 999999 →
      exec .flowPulse s =
        .next { s with chans := { s.chans with gvCount := s.chans.gvCount + 1 } }) ∧
    ((s.drives.grout = true ∨ s.chans.drainOpen = true) → s.contacts.flowFault.active = false →
      999999 ≤ s.chans.gvCount →
      exec .flowPulse s = .next { s with chans := { s.chans with gvOver := true } }) ∧
    (s.drives.grout = false → s.chans.drainOpen = false → exec .flowPulse s = .next s) ∧
    (s.contacts.flowFault.active = true → exec .flowPulse s = .next s) ∧
    exec .drainWindowClose s = .next { s with chans := { s.chans with drainOpen := false } }

/-- R12, R166: a needed channel whose hundredth VOID value comes is lost: CHANNEL_LOST is seen and taken at once, every
drive is off, and the channel no longer stands lost and needed, so that it is detected again once it is needed again. That
the need is asked before the decisions of the event act is the model's (log 7). An abort's lowering stands with JACK_HOME
inactive (StandingIsKept). R168, R170: on a sample event that carries the contact read, the loss is taken beside whatever
boundary the read reaches, and replaces a kind taken at that boundary. -/
def Obligations.LostChannelStopsTheWork : Prop :=
  ∀ (i : SampleInput) (r : Option ContactRead) (s : State),
    s.sampleOf i = none → s.needed (inputChannel i) = true → 99 ≤ (s.chan (inputChannel i)).voidRun →
    1 ≤ (s.chan (inputChannel i)).filterLen → (s.chan (inputChannel i)).lostBefore = false →
    (s.seq.runState = .aborting → s.contacts.jackHome.active = false) →
    ∃ t, exec (.channelLost i) s = .next t ∧
      (t.chan (inputChannel i)).voidRun = 100 ∧ (t.chan (inputChannel i)).window = [] ∧
      (t.chan (inputChannel i)).lostBefore = false ∧
      FaultKind.channelLost ∈ t.faults.seen ∧ t.seq.runState = .faulted ∧ t.drives = .off ∧
      t.seq.stage = s.seq.stage ∧
      (t.faults.taken.any fun f => decide (f.kind.priority ≤ 5)) = true ∧
      (s.watchQuiet = true →
        t.faults.taken.map TakenFault.kind = some .channelLost ∧
        t.faults.taken.map TakenFault.detail = some (.channel (inputChannel i))) ∧
      (s.standing = true → s.seq.runState ≠ .aborting → s.watchQuiet = true →
        ∃ u, exec (.sampleEvent i r) s = .next u ∧ FaultKind.channelLost ∈ u.faults.seen ∧
          u.seq.runState = .faulted ∧ u.seq.stage = s.seq.stage ∧ u.drives = .off ∧
          u.faults.taken.map (fun f => (f.kind, f.detail)) =
            some (.channelLost, .channel (inputChannel i)))

/-- R13: LOAD lost under a locked anchor with no stage: ANCHOR_DRIFT is seen, or leaves no record while it is masked;
the DRIFT flag, the locked load and the run state stay. -/
def Obligations.LoadLostUnderALockedAnchor : Prop :=
  ∀ (m : Nat) (s : State),
    loopSample 60000 m = none → s.seq.config.isSome = true → s.seq.progress = .locked →
    s.seq.stage = .none → 1 ≤ s.chans.load.filterLen → 99 ≤ s.chans.load.voidRun →
    s.chans.driftLostBefore = false → s.drivesLegal = true →
    ∃ t, exec (.driftLoadVoid m) s = .next t ∧
      t.chans.load.voidRun = 100 ∧ t.chans.driftLostBefore = true ∧
      t.faults =
        (if s.masked .anchorDrift = true then s.faults
         else { s.faults with seen := insertKind .anchorDrift s.faults.seen }) ∧
      t.table = s.table ∧ t.jack = s.jack ∧ t.seq = s.seq ∧ t.log = s.log

/-! ## Faults -/

/-- R164, R166, R170, R171: a kind taken at once, with a stage active: the record names the higher of it and the kind
already taken, the run state is the one that kind gives; pending set, mask, stage and held boundary stay. -/
def Obligations.TheHighestKindIsTaken : Prop :=
  ∀ (k : FaultKind) (d : Detail) (s : State), s.standing = true → s.seq.stage ≠ .none →
    k.priority ≤ 7 → s.masked k = false →
    k ∈ (detect k d s).faults.seen ∧
    (detect k d s).faults.taken.map TakenFault.kind =
      some (match s.faults.taken with
        | none => k
        | some f => if k.priority < f.kind.priority then k else f.kind) ∧
    (detect k d s).seq.runState =
      (if (detect k d s).faults.taken.map TakenFault.kind = some .wallStop then .stopped
       else .faulted) ∧
    (detect k d s).faults.pending = s.faults.pending ∧ (detect k d s).faults.mask = s.faults.mask ∧
    (detect k d s).seq.stage = s.seq.stage ∧ (detect k d s).seq.held = s.seq.held

/-- R163, R164: a maskable kind other than VOID_TEST: unmasked with a stage active it waits, with its first detail, and a
kind that waits already leaves the pending set as it stands (in a station in good standing, StandingIsKept); masked, or with
no stage, it is seen only; a masked ANCHOR_DRIFT leaves no record. The run state stays. -/
def Obligations.MaskableKindsWaitForABoundary : Prop :=
  ∀ (k j : FaultKind) (d e : Detail) (s : State), 8 ≤ k.priority →
    (detect k d s).seq = s.seq ∧ (detect k d s).faults.taken = s.faults.taken ∧
    (detect k d s).log = s.log ∧
    (k = .anchorDrift → s.masked k = true → detect k d s = s) ∧
    ((k ≠ .anchorDrift ∨ s.masked k = false) →
      (j ∈ (detect k d s).faults.seen ↔ j = k ∨ j ∈ s.faults.seen)) ∧
    ((s.masked k = true ∨ s.seq.stage = .none) →
      (detect k d s).faults.pending = s.faults.pending) ∧
    (s.masked k = false → s.seq.stage ≠ .none →
      ((j, e) ∈ (detect k d s).faults.pending → (j, e) ∈ s.faults.pending ∨ (j, e) = (k, d)) ∧
      ((j, e) ∈ s.faults.pending → (j, e) ∈ (detect k d s).faults.pending) ∧
      k ∈ (detect k d s).faults.pending.map Prod.fst) ∧
    (s.standing = true → k ∈ s.faults.pending.map Prod.fst →
      (detect k d s).faults.pending = s.faults.pending)

/-- R40, R167: at a step boundary with kinds pending, the first of them is taken with its detail, the set empties, the
run state becomes FAULTED and the boundary is held; in a station in good standing that first kind has the highest
priority of those pending (the list stands in order of priority, log 22; StandingIsKept). -/
def Obligations.ABoundaryTakesTheHighestPendingKind : Prop :=
  ∀ (b : Boundary) (k : FaultKind) (d : Detail) (rest : List (FaultKind × Detail)) (s : State),
    s.faults.pending = (k, d) :: rest → k ≠ .wallStop →
    (s.standing = true → ∀ p ∈ rest, k.priority < p.1.priority) ∧
    (reach b s).faults.taken.map TakenFault.kind = some k ∧
    (reach b s).faults.taken.map TakenFault.detail = some d ∧
    (reach b s).faults.pending = [] ∧ (reach b s).faults.seen = s.faults.seen ∧
    (reach b s).seq = { s.seq with runState := .faulted, held := some b }

/-! ## Requests -/

/-- R185, R186: a whole request frame, taken character by character from WAITING, is the request's row (that a request
row is its whole frame is the model's, log 20). -/
def Obligations.RequestsArriveCharacterByCharacter : Prop :=
  ∀ (code : Byte) (body : List Byte) (s : State), body.length ≤ 60 → s.portFree = true →
    exec (requestOf code body) s = .next (secure s (receiveChars (requestChars code body) s))

/-- R186, R187: a refused request gets its reason and argument in the reply and changes nothing else; an undefined
code is refused with RANGE, field 0. -/
def Obligations.RefusedRequestsChangeNothing : Prop :=
  ∀ (code : Byte) (body : List Byte) (why : Refused) (s : State), body.length ≤ 60 →
    s.portFree = true → s.drivesLegal = true →
    (verdictOf code body s = .refused why →
      exec (requestOf code body) s = .next (s.replied code body why.1.code why.2 [])) ∧
    (codeDefined code = false →
      exec (.undefinedRequest code body) s = .next (s.replied code body 4 0 []))

/-- R34: the checks of a stage request, in their order; the first that fails gives the refusal, and the refused
request changes no state but the port's reply. -/
def Obligations.StageRequestsAreCheckedInOrder : Prop :=
  ∀ (g : Stage) (body : List Byte) (s : State), g ≠ .none → body.length ≤ 60 →
    s.portFree = true → s.drivesLegal = true → (stageOutcome g body s).1 ≠ 0 →
    exec (requestOf (stageRequest g) body) s =
      .next (s.replied (stageRequest g) body (stageOutcome g body s).1 (stageOutcome g body s).2 [])

/-- R121, R122: an accepted schedule obeys the eleven schedule checks: the datum step first and alone with DATUM, the LOCK
step last and alone; loads that rise from one step to the next, unloads that fall, none below the datum target; each
loading run as high as those before it; no target above the tendon load limit; EVALUATE, EXTEND, ELASTIC and the holds as
they may stand. -/
def Obligations.AcceptedSchedulesObeyTheirChecks : Prop :=
  ∀ (limit i j : Nat) (p q x y : ScheduleStep) (body : List Byte), stressRefusal limit body = none →
    (∀ x ∈ scheduleOf body, x.target ≤ limit ∧ x.hold ∈ [0, 1, 2, 3, 5, 10, 15, 20, 30, 45, 60] ∧
      (x.evaluate = true → x.kind = .load ∧ 5 ≤ x.hold) ∧ (x.extend = true → x.evaluate = true)) ∧
    (scheduleOf body).head?.map (fun x => (x.kind, x.datum)) = some (.load, true) ∧
    1 ≤ (stepOf body 0).target ∧ (∀ x ∈ (scheduleOf body).drop 1, x.datum = false) ∧
    (scheduleOf body).getLast?.map ScheduleStep.kind = some .lock ∧
    (∀ x ∈ (scheduleOf body).dropLast, x.kind ≠ .lock) ∧
    2 ≤ (scheduleOf body).length ∧ (scheduleOf body).length ≤ 12 ∧
    (∀ x ∈ scheduleOf body, x.kind = .lock → (stepOf body 0).target ≤ x.target) ∧
    ((scheduleOf body)[i]? = some p → (scheduleOf body)[i + 1]? = some q →
      (q.kind = .load → p.target < q.target) ∧
      (q.kind = .unload → q.target < p.target ∧ (stepOf body 0).target ≤ q.target) ∧
      (q.elastic = true → q.kind = .unload ∧ q.target = (stepOf body 0).target ∧ p.kind = .load) ∧
      ((scheduleOf body)[j]? = some x → (scheduleOf body)[j + 1]? = some y → i < j →
        p.kind = .load → q.kind ≠ .load → x.kind = .load → y.kind ≠ .load → p.target ≤ x.target)) ∧
    ((scheduleOf body)[i]? = some p → (scheduleOf body)[j]? = some x → i < j → p.elastic = true →
      x.elastic = false) ∧
    (stepOf body 0).elastic = false

/-- R6, R33, R100, R139, R141, R175, R190: what an accepted SETUP leaves: each channel whose new length is not 8 restarted
with it, any other as it stood, and the DRIFT flag set exactly where a locked anchor stands out of its band at once. -/
def Obligations.SetupStoresTheConfiguration : Prop :=
  ∀ (body : List Byte) (c : ChannelName) (k : FaultKind) (s : State), s.portFree = true →
    s.drivesLegal = true → s.seq.runState = .unconfigured → setupRefusal body = none →
    ∃ t, exec (.setup body) s = .next t ∧
      t.seq.config = some (setupOf body) ∧ t.seq.runState = .idle ∧ t.seq.stage = .none ∧
      t.seq.progress = (setupOf body).progress ∧
      (((setupOf body).progress = .grouted ∨ (setupOf body).progress = .locked) →
        t.seq.cure.hours = (setupOf body).groutAge ∧ t.seq.cure.seconds = 0 ∧
        t.seq.cure.running = true) ∧
      (((setupOf body).progress = .none ∨ (setupOf body).progress = .winched) →
        t.seq.cure.hours = 0 ∧ t.seq.cure.seconds = 0 ∧ t.seq.cure.running = false) ∧
      t.jack.datum = none ∧
      t.jack.lockedLoad =
        (if (setupOf body).progress = .locked then some (setupOf body).lockedLoad else none) ∧
      t.faults.mask = (setupOf body).initialMask ∧ t.faults.pending = [] ∧
      t.faults.taken = s.faults.taken ∧ (k ∈ s.faults.seen → k ∈ t.faults.seen) ∧
      (t.table.raiseTicks = 0 ∧ t.table.gateTimer = 0 ∧ t.table.entries = s.table.entries) ∧
      (t.table.drift = true ↔ (setupOf body).progress = .locked ∧
        Test.out.holds (compareNat (t.filtered .load) (setupOf body).lockedLoad
          (setupOf body).driftBand) = true) ∧
      (t.ownFlags.locked = true ↔ (setupOf body).progress = .locked) ∧
      ((setupOf body).filterOf c ≠ 8 →
        (t.chan c).filterLen = (setupOf body).filterOf c ∧ (t.chan c).window = [] ∧
        (t.chan c).voidRun = 0 ∧ (t.chan c).refilled = false) ∧
      ((setupOf body).filterOf c = 8 → t.chan c = s.chan c) ∧
      t.contacts = s.contacts ∧ t.chans.gvCount = s.chans.gvCount ∧ t.log = s.log ∧
      t.port = (s.replied codeSetup body 0 0 []).port

/-- R35, R102, R103: an accepted START_WINCH forms its record and, with WL below the target, turns the drive on; with
WL at or above it the stage ends at once and progress is WINCHED. R137, R138: an overload or a stroke that stands at the
acceptance is taken at the change to RUNNING (at which point of the event is the model's, log 33). That it is so wherever WL
stands, the stage not ending before it, is the model's reading of R168 (log 42). -/
def Obligations.StartWinchBeginsTheStage : Prop :=
  ∀ (body : List Byte) (v w : Nat) (s : State), s.portFree = true → s.drivesLegal = true →
    s.seq.config.isSome = true → (stageOutcome .winch body s).1 = 0 →
    (s.standing = true → s.watchQuiet = false →
      ∃ t, exec (.startWinch body) s = .next t ∧ t.seq.stage = .winch ∧ t.seq.runState = .faulted ∧
        t.seq.progress = s.seq.progress ∧ t.drives = .off ∧
        t.faults.taken.map TakenFault.kind = some s.watchTaken ∧
        t.port = (s.replied codeStartWinch body 0 0 []).port) ∧
    (s.watchQuiet = true →
      s.filtered .wl = some v → s.filtered .wt = some w → w ≤ fieldAt body 3 2 →
      (v < fieldAt body 0 3 →
        ∃ t, exec (.startWinch body) s = .next t ∧
          t.seq =
            { s.seq with stage := .winch, runState := .running, jobClock := 0, jobHalf := false } ∧
          t.winch =
            some { target := fieldAt body 0 3, snag := fieldAt body 3 2, stallRef := some v,
                   stallTimer := 0, installed := none, outcome := .inProgress } ∧
          t.drives = { Drives.off with winch := true } ∧ t.faults = s.faults ∧
          t.log =
            appendRecord s.log
              { field := none, time := 0, event := some (.stageStart, 1), gap := false,
                refilled := false } ∧
          t.table.entries = s.table.entries ∧ t.chans = s.chans ∧ t.contacts = s.contacts ∧
          t.port = (s.replied codeStartWinch body 0 0 []).port) ∧
      (fieldAt body 0 3 ≤ v → s.faults.pending = [] →
        ∃ t, exec (.startWinch body) s = .next t ∧
          t.seq.stage = .none ∧ t.seq.runState = .idle ∧ t.seq.progress = .winched ∧
          t.winch =
            some { target := fieldAt body 0 3, snag := fieldAt body 3 2, stallRef := none,
                   stallTimer := 0, installed := some v, outcome := .complete } ∧
          t.drives = .off ∧ t.port = (s.replied codeStartWinch body 0 0 []).port))

/-- R29, R35, R94, R98, R109, R110: an accepted START_GROUT forms its record, clears the GV pulse count, and begins at
the grout gate, or on main 0 in DRAW with a claim and the valve open while GP is within its limit. The target is held
against the filtered GV as it stands, which is the model's reading (log 24). R137, R138: an overload or a stroke that stands
at the acceptance is taken at the change to RUNNING (at which point of the event is the model's, log 33). That it is so
wherever GV stands, the stage not ending before it, is the model's reading of R168 (log 42). -/
def Obligations.StartGroutBeginsTheStage : Prop :=
  ∀ (body : List Byte) (v p : Nat) (s : State), s.portFree = true → s.drivesLegal = true →
    s.seq.config.isSome = true → (stageOutcome .grout body s).1 = 0 →
    (s.standing = true → s.watchQuiet = false →
      ∃ t, exec (.startGrout body) s = .next t ∧ t.seq.stage = .grout ∧ t.seq.runState = .faulted ∧
        t.seq.progress = s.seq.progress ∧ t.drives = .off ∧ t.grout.claim = none ∧
        t.faults.taken.map TakenFault.kind = some s.watchTaken ∧
        t.port = (s.replied codeStartGrout body 0 0 []).port) ∧
    (s.watchQuiet = true → s.faults.pending = [] →
      s.filtered .gv = some v → v < fieldAt body 0 3 →
      s.filtered .gp = some p → p ≤ fieldAt body 3 2 →
      ∃ t, exec (.startGrout body) s = .next t ∧
        t.seq = { s.seq with stage := .grout, runState := .running, jobClock := 0, jobHalf := false,
                             held := t.seq.held } ∧
        (t.chans.gvCount = 0 ∧ t.chans.gvOver = false ∧ t.chans.drainOpen = false) ∧
        (t.grout.record.map fun r => (r.target, r.limit, r.reopen, r.throttles, r.mark)) =
          some (fieldAt body 0 3, fieldAt body 3 2, fieldAt body 3 2 * 9 / 10, 0, .inProgress) ∧
        (s.cfg Setup.main 0 ≠ 0 →
          t.grout.claim = none ∧ t.drives = .off ∧
          t.grout.record.map GroutRecord.claimsMade = some 0 ∧
          t.grout.phase =
            (if s.drawers < s.cfg Setup.concurrency 0 then .intent else .wait)) ∧
        (s.cfg Setup.main 0 = 0 →
          t.grout.claim = some { ticks := 0, throttles := 0 } ∧ t.grout.phase = .draw ∧
          t.grout.record.map GroutRecord.claimsMade = some 1 ∧
          t.drives = { Drives.off with grout := true }) ∧
        t.faults = s.faults ∧ t.table.entries = s.table.entries ∧ t.contacts = s.contacts ∧
        t.port = (s.replied codeStartGrout body 0 0 []).port)

/-- R35, R85, R123, R124, R145, R146: an accepted START_STRESS stores the schedule, holds no datum, empties the results
and starts step 1 at the raise gate. R137, R138: an overload or a stroke that stands at the acceptance is taken at the
change to RUNNING (at which point of the event is the model's, log 33). -/
def Obligations.StartStressBeginsAtTheGate : Prop :=
  ∀ (body : List Byte) (s : State), s.portFree = true → s.drivesLegal = true →
    s.seq.config.isSome = true → (stageOutcome .stress body s).1 = 0 →
    (s.standing = true → s.watchQuiet = false →
      ∃ t, exec (.startStress body) s = .next t ∧ t.seq.stage = .stress ∧ t.seq.runState = .faulted ∧
        t.seq.progress = s.seq.progress ∧ t.drives = .off ∧ t.jack.phase = .raiseWait ∧
        t.jack.stepIndex = 1 ∧ t.jack.schedule = scheduleOf body ∧
        t.faults.taken.map TakenFault.kind = some s.watchTaken ∧
        t.port = (s.replied codeStartStress body 0 0 []).port) ∧
    (s.watchQuiet = true → s.faults.pending = [] →
      ∃ t, exec (.startStress body) s = .next t ∧
        t.seq = { s.seq with stage := .stress, runState := .running, jobClock := 0, jobHalf := false,
                             held := t.seq.held } ∧
        t.jack.schedule = scheduleOf body ∧ t.jack.stepIndex = 1 ∧ t.jack.datum = none ∧
        t.jack.phase = (if t.raiseConditions = true then .raiseIntent else .raiseWait) ∧
        t.table.gateTimer = 0 ∧ t.drives = .off ∧
        t.eval.results = [StepEntry.opened 1 (stepOf body 0)] ∧
        t.eval.summary = { JobSummary.cleared with jobStatus := .running } ∧ t.eval.peak = none ∧
        t.faults = s.faults ∧ t.table.entries = s.table.entries ∧ t.contacts = s.contacts ∧
        t.port = (s.replied codeStartStress body 0 0 []).port)

/-- R42: where PAUSE is accepted and what it does to the work, by stage and phase; elsewhere it is refused. -/
def Obligations.PauseHoldsTheWork : Prop :=
  ∀ s : State, s.portFree = true → s.drivesLegal = true → s.watchQuiet = true →
    (s.seq.runState = .running → s.seq.stage ≠ .none → s.lockOff = false →
      ∃ t, exec (.pause []) s = .next t ∧
        t.seq = { s.seq with runState := .paused } ∧
        t.drives =
          (if s.seq.stage = .stress ∧ s.jack.phase = .hold then
            { Drives.off with raise := s.drives.raise } else .off) ∧
        t.jack =
          { s.jack with
            phase :=
              if s.seq.stage = .stress ∧ s.jack.phase = .raiseIntent then .raiseWait
              else s.jack.phase } ∧
        t.grout =
          { s.grout with
            phase :=
              if s.seq.stage = .grout ∧ s.grout.phase = .intent then .wait else s.grout.phase } ∧
        t.winch = s.winch ∧ t.eval = s.eval ∧ t.faults = s.faults ∧ t.contacts = s.contacts ∧
        t.table.entries = s.table.entries ∧ t.table.drift = s.table.drift ∧
        t.table.gateTimer = s.table.gateTimer ∧
        (s.jack.phase ≠ .raiseIntent → t.log = (logEvent .pause 0 s).log) ∧
        t.port = (s.replied codePause [] 0 0 []).port) ∧
    (s.seq.runState ≠ .unconfigured → (s.seq.runState ≠ .running ∨ s.lockOff = true) →
      exec (.pause []) s = .next (s.replied codePause [] 3 0 []))

/-- R43, R45: RESUME in STOPPED clears the taken record and gives PAUSED, or IDLE with no stage; in the other run
states but PAUSED, or with ESTOP active, or in BREAK, it is refused in that order. A channel that still stands lost leaves
that as it is: its next sample event detects the loss, as the text after R12 has it (LostChannelStopsTheWork, log 36). -/
def Obligations.ResumeEndsAStop : Prop :=
  ∀ s : State, s.portFree = true → s.drivesLegal = true →
    s.watchQuiet = true → s.pausedQuiet = true →
    (s.seq.runState = .stopped → s.contacts.estop.active = false → s.line.state ≠ .broken →
      ∃ t, exec (.resume []) s = .next t ∧
        t.seq =
          { s.seq with runState := if s.seq.stage = .none then .idle else .paused } ∧
        t.faults = { s.faults with taken := none } ∧ t.drives = .off ∧ t.jack = s.jack ∧
        t.grout = s.grout ∧ t.winch = s.winch ∧ t.eval = s.eval ∧
        t.log = (logEvent .resume 0 s).log ∧ t.port = (s.replied codeResume [] 0 0 []).port) ∧
    (s.seq.runState ≠ .unconfigured → s.seq.runState ≠ .paused → s.seq.runState ≠ .stopped →
      exec (.resume []) s = .next (s.replied codeResume [] 3 0 [])) ∧
    ((s.seq.runState = .paused ∨ s.seq.runState = .stopped) → s.contacts.estop.active = true →
      exec (.resume []) s = .next (s.replied codeResume [] 8 0 [])) ∧
    ((s.seq.runState = .paused ∨ s.seq.runState = .stopped) → s.contacts.estop.active = false →
      s.line.state = .broken → exec (.resume []) s = .next (s.replied codeResume [] 7 0 []))

/-- R44: how an accepted RESUME in PAUSED takes up the work of each phase, with no boundary held and the abort mark
clear: RAISE_WAIT at its gate or at its pending lock approach (R125), GROUT_WAIT at the grout gate, THROTTLED at the reopen
decision, and every other phase; with the abort mark set the lowering begins again. -/
def Obligations.ResumeTakesUpTheWork : Prop :=
  ∀ s : State, s.portFree = true → s.drivesLegal = true → s.watchQuiet = true →
    s.seq.config.isSome = true → s.faults.pending = [] → s.seq.runState = .paused →
    s.contacts.estop.active = false → s.line.state ≠ .broken → s.seq.held = none →
    ∃ t, exec (.resume []) s = .next t ∧ t.port = (s.replied codeResume [] 0 0 []).port ∧
      t.contacts = s.contacts ∧ t.table.entries = s.table.entries ∧ t.faults.mask = s.faults.mask ∧
      (s.seq.abortMark = false → s.seq.stage = .winch →
        Test.short.holds (compareNat (s.filtered .wl) ((s.winch.map WinchRecord.target).getD 0) 0) = true →
        Test.overTest.holds (compareNat (s.filtered .wt) ((s.winch.map WinchRecord.snag).getD 0) 0) = false →
        s.winch.isSome = true →
        t.seq.runState = .running ∧ t.drives.winch = true ∧
        t.winch.map WinchRecord.stallRef = some (s.filtered .wl) ∧
        t.winch.map WinchRecord.stallTimer = some 0) ∧
      (s.seq.abortMark = false → s.seq.stage = .grout → s.grout.phase = .draw →
        s.grout.claim.isSome = true → s.grout.record.isSome = true →
        Test.clear.holds (compareNat (s.filtered .gp) ((s.grout.record.map GroutRecord.limit).getD 0) 0) = true →
        t.seq.runState = .running ∧ t.grout = s.grout ∧ t.drives = { Drives.off with grout := true }) ∧
      (s.seq.abortMark = false → s.seq.stage = .grout → s.grout.phase = .wait →
        s.grout.claim = none →
        (s.cfg Setup.main 0 ≠ 0 →
          t.seq.runState = .running ∧ t.grout.claim = none ∧ t.drives = .off ∧
          t.grout.phase = (if s.drawers < s.cfg Setup.concurrency 0 then .intent else .wait)) ∧
        (s.cfg Setup.main 0 = 0 → s.grout.record.isSome = true →
          Test.clear.holds (compareNat (s.filtered .gp) ((s.grout.record.map GroutRecord.limit).getD 0) 0) = true →
          t.seq.runState = .running ∧ t.grout.phase = .draw ∧
          t.grout.claim = some { ticks := 0, throttles := 0 } ∧
          t.drives = { Drives.off with grout := true })) ∧
      (s.seq.abortMark = false → s.seq.stage = .grout → s.grout.phase = .throttled →
        s.grout.claim.isSome = true → s.grout.record.isSome = true →
        (Test.short.holds (compareNat (s.filtered .gp) ((s.grout.record.map GroutRecord.reopen).getD 0) 0) = true →
          Test.clear.holds (compareNat (s.filtered .gp) ((s.grout.record.map GroutRecord.limit).getD 0) 0) = true →
          t.seq.runState = .running ∧ t.grout = { s.grout with phase := .draw } ∧
          t.drives = { Drives.off with grout := true }) ∧
        (Test.short.holds (compareNat (s.filtered .gp) ((s.grout.record.map GroutRecord.reopen).getD 0) 0) = false →
          t.seq.runState = .running ∧ t.grout = s.grout ∧ t.drives = .off)) ∧
      (s.seq.abortMark = false → s.seq.stage = .stress → s.jack.phase = .raiseWait →
        t.seq.runState = .running ∧ t.table.gateTimer = s.table.gateTimer ∧
        (s.jack.approach ≠ .pending →
          t.jack = { s.jack with phase := if t.raiseConditions = true then .raiseIntent else .raiseWait } ∧
          t.drives = .off) ∧
        (s.jack.approach = .pending → s.loadAgainst s.stepTarget = .void →
          t.jack = s.jack ∧ t.drives = .off) ∧
        (s.jack.approach = .pending → s.loadAgainst s.stepTarget = .below →
          t.jack =
            { s.jack with
              approach := .made
              phase := if t.raiseConditions = true then .raiseIntent else .raiseWait } ∧
          t.drives = .off) ∧
        (s.jack.approach = .pending → s.loadAgainst s.stepTarget = .above →
          t.jack = { s.jack with approach := .made, phase := .rampDown } ∧
          t.drives = { Drives.off with lower := true }) ∧
        (s.jack.approach = .pending → s.loadAgainst s.stepTarget = .within →
          s.contacts.seat.active = false →
          t.jack = { s.jack with approach := .made, phase := .seating, lockOffTimer := 0 } ∧
          t.drives = { Drives.off with seating := true })) ∧
      (s.seq.abortMark = false → s.seq.stage = .grout → s.grout.phase = .rest →
        t.seq.runState = .running ∧ t.grout = s.grout ∧ t.drives = .off) ∧
      (s.seq.abortMark = false → s.seq.stage = .stress → s.jack.phase = .rampUp →
        s.jack.approach ≠ .pending →
        t.seq.runState = .running ∧ t.drives = .off ∧ t.table.gateTimer = 0 ∧
        t.jack.phase = (if t.raiseConditions = true then .raiseIntent else .raiseWait)) ∧
      (s.seq.abortMark = false → s.seq.stage = .stress → s.jack.phase = .hold →
        t.seq.runState = .running ∧ t.jack = s.jack ∧ t.drives = s.drives) ∧
      (s.seq.abortMark = false → s.seq.stage = .stress → s.jack.phase = .rampDown →
        Test.overTest.holds (s.loadAgainst s.stepTarget) = true →
        t.seq.runState = .running ∧ t.jack = s.jack ∧ t.drives = { Drives.off with lower := true }) ∧
      (s.seq.abortMark = false → s.seq.stage = .stress → s.jack.phase = .seating →
        s.contacts.seat.active = false →
        t.seq.runState = .running ∧ t.jack = { s.jack with lockOffTimer := 0 } ∧
        t.drives = { Drives.off with seating := true }) ∧
      (s.seq.abortMark = false → s.seq.stage = .stress → s.jack.phase = .release →
        s.contacts.jackHome.active = false →
        t.seq.runState = .running ∧ t.jack = { s.jack with lockOffTimer := 0 } ∧
        t.drives = { Drives.off with lower := true }) ∧
      (s.seq.abortMark = false → s.seq.stage = .stress → s.jack.phase = .settle →
        t.seq.runState = .running ∧ t.jack = { s.jack with lockOffTimer := 0 } ∧ t.drives = .off) ∧
      (s.seq.abortMark = true → s.seq.stage = .stress → s.contacts.jackHome.active = false →
        t.seq.runState = .aborting ∧ t.drives = { Drives.off with lower := true }) ∧
      (s.seq.abortMark = true → s.seq.stage = .stress → s.contacts.jackHome.active = true →
        t.seq.runState = .idle ∧ t.seq.stage = .none ∧ t.seq.abortMark = false ∧
        t.eval.summary.jobStatus = .aborted ∧ t.jack.lockedLoad = none ∧ t.jack.schedule = [] ∧
        t.drives = .off)

/-- R36, R40, R92, R93, R115: RESUME with a boundary held looks at the pending set once more: with kinds pending the first is
taken and the same boundary stays held. With nothing pending it is passed: a held hold end into the next step; one held at
the raise gate into RAISE_WAIT, with the gate evaluated afresh and the gate timer kept, but that a gate timeout or a turned
back ramp sets it to 0; one held at the grout gate, inside a claim, at a refusal or at the end of REST into GROUT_WAIT with
its gate evaluated afresh; one held at the claim limit into REST; one held at the stage's end ends the stage. -/
def Obligations.HeldBoundaryIsPassedOnResume : Prop :=
  ∀ (b : Boundary) (s : State), s.portFree = true → s.drivesLegal = true →
    s.watchQuiet = true → s.standing = true → s.seq.runState = .paused → s.seq.abortMark = false →
    s.contacts.estop.active = false → s.line.state ≠ .broken → s.seq.held = some b →
    (s.faults.pending ≠ [] →
      ∃ t, exec (.resume []) s = .next t ∧ t.seq = { s.seq with runState := .faulted } ∧
        t.faults.pending = [] ∧
        t.faults.taken.map TakenFault.kind = s.faults.pending.head?.map Prod.fst ∧
        t.drives = .off) ∧
    (s.faults.pending = [] → s.seq.stage = .stress → b = .holdEnd →
      (s.jack.schedule[s.jack.stepIndex]?).map ScheduleStep.kind = some .load →
      ∃ t, exec (.resume []) s = .next t ∧ t.seq.runState = .running ∧
        t.jack.stepIndex = s.jack.stepIndex + 1 ∧
        t.jack.phase = (if t.raiseConditions = true then .raiseIntent else .raiseWait) ∧
        t.jack.holdClock = 0 ∧ t.jack.holdLength = none ∧ t.drives = .off) ∧
    (s.faults.pending = [] → s.seq.stage = .stress → s.jack.approach ≠ .pending →
      b ∈ [.raiseWaitEnd, .raiseIntentEnd, .withdrawn, .turnedBack, .gateTimeout] →
      (b = .gateTimeout → s.jack.phase = .raiseWait) →
      ∃ t, exec (.resume []) s = .next t ∧ t.seq = { s.seq with runState := .running, held := none } ∧
        t.jack =
          { s.jack with
            phase := if t.raiseConditions = true then .raiseIntent else .raiseWait } ∧
        t.table.gateTimer =
          (if b = .turnedBack ∨ b = .gateTimeout then 0 else s.table.gateTimer) ∧
        t.drives = .off ∧ t.faults = s.faults) ∧
    (s.faults.pending = [] → s.seq.stage = .grout → s.grout.claim = none →
      s.cfg Setup.main 0 ≠ 0 →
      b ∈ [.groutWaitEnd, .groutWaitDraw, .groutIntentEnd, .gaveWay, .throttled, .reopened, .refusal,
        .restEnd] →
      ∃ t, exec (.resume []) s = .next t ∧ t.seq = { s.seq with runState := .running, held := none } ∧
        t.grout.phase = (if t.drawers < s.cfg Setup.concurrency 0 then .intent else .wait) ∧
        t.grout.claim = none ∧ t.grout.record = s.grout.record ∧ t.drives = .off ∧
        t.faults = s.faults) ∧
    (s.faults.pending = [] → s.seq.stage = .grout → b = .claimLimit → s.grout.claim = none →
      ∃ t, exec (.resume []) s = .next t ∧ t.seq = { s.seq with runState := .running, held := none } ∧
        t.grout = { s.grout with phase := .rest, restTicks := 0 } ∧ t.drives = .off ∧
        t.faults = s.faults) ∧
    (s.faults.pending = [] → (b = .stageEnd false ∨ b = .stageEnd true ∧ s.seq.stage = .grout) →
      ∃ t, exec (.resume []) s = .next t ∧ t.seq.stage = .none ∧ t.seq.runState = .idle ∧
        t.seq.held = none ∧ t.seq.jobClock = 0 ∧ t.seq.progress = s.seq.progress.forward ∧
        t.drives = .off ∧ t.faults.taken = s.faults.taken ∧
        (s.seq.stage = .winch →
          t.winch = s.winch.map fun w => { w with outcome := .complete }) ∧
        (s.seq.stage = .grout →
          t.seq.cure = { hours := 0, seconds := 0, running := true, half := false } ∧
          t.grout.phase = .none ∧ t.grout.claim = none ∧
          t.grout.record =
            s.grout.record.map fun r =>
              { r with mark := if b = .stageEnd true then .refused else .complete }) ∧
        (s.seq.stage = .stress →
          t.eval.summary.jobStatus = .complete ∧ t.jack.lockedLoad = s.jack.lockedLoad ∧
          t.jack.schedule = [] ∧ t.jack.stepIndex = 0 ∧ t.jack.phase = .none ∧
          t.ownFlags.locked = true))

/-- R47 to R49, R116, R143, R159, R160: what an accepted ABORT gives up, by stage, with the entry of the current step closed
as ABORTED where its outcome is not yet set; with JACK_HOME active the lowering of a STRESS stage ends at once, and the stage
with it; and where ABORT is refused. -/
def Obligations.AbortGivesTheStageUp : Prop :=
  ∀ s : State, s.portFree = true → s.drivesLegal = true → s.watchQuiet = true →
    s.standing = true →
    (s.seq.runState = .running ∨ s.seq.runState = .paused ∨ s.seq.runState = .faulted →
      s.seq.stage = .winch →
      ∃ t, exec (.abort []) s = .next t ∧ t.seq.stage = .none ∧ t.seq.runState = .idle ∧
        t.seq.jobClock = 0 ∧ t.seq.held = none ∧ t.seq.progress = s.seq.progress ∧
        t.winch = s.winch.map (fun w => { w with outcome := .aborted }) ∧ t.drives = .off ∧
        t.faults = { s.faults with pending := [], taken := none } ∧
        t.port = (s.replied codeAbort [] 0 0 []).port) ∧
    (s.seq.runState = .running ∨ s.seq.runState = .paused ∨ s.seq.runState = .faulted →
      s.seq.stage = .grout →
      ∃ t, exec (.abort []) s = .next t ∧ t.seq.stage = .none ∧ t.seq.runState = .idle ∧
        t.seq.jobClock = 0 ∧ t.seq.held = none ∧ t.seq.progress = s.seq.progress ∧
        t.seq.cure = s.seq.cure ∧
        t.grout.record = s.grout.record.map (fun r => { r with mark := .part }) ∧
        t.grout.claim = none ∧ t.grout.phase = .none ∧ t.drives = .off ∧
        t.chans.drainOpen = (s.drives.grout || s.chans.drainOpen) ∧
        t.faults = { s.faults with pending := [], taken := none } ∧
        t.port = (s.replied codeAbort [] 0 0 []).port) ∧
    (((s.seq.runState = .running ∨ s.seq.runState = .paused) ∧ s.lockOff = false ∨
        s.seq.runState = .faulted) → s.seq.stage = .stress →
      s.contacts.jackHome.active = false →
      ∃ t, exec (.abort []) s = .next t ∧ t.seq.stage = .stress ∧ t.seq.runState = .aborting ∧
        t.seq.abortMark = true ∧ t.seq.held = none ∧ t.seq.progress = s.seq.progress ∧
        t.drives = { Drives.off with lower := true } ∧ t.jack.stepIndex = s.jack.stepIndex ∧
        (s.seq.abortMark = false → t.jack.phase = .rampDown ∧ t.jack.topUp = false ∧
          t.eval.peak = none ∧
          t.eval.results =
            s.eval.results.map fun e =>
              if e.index = s.jack.stepIndex then
                { e with
                  outcome :=
                    if e.outcome = .inProgress ∨ e.outcome = .extending then .aborted else e.outcome
                  actualHold := if s.jack.phase = .hold then s.jack.holdClock else e.actualHold }
              else e) ∧
        t.jack.lowerSecond = Test.short.holds (s.loadAgainst s.datumTarget) ∧
        t.faults = { s.faults with pending := [], taken := none } ∧
        t.port = (s.replied codeAbort [] 0 0 []).port) ∧
    (((s.seq.runState = .running ∨ s.seq.runState = .paused) ∧
          (s.lockOff = false ∨ s.seq.runState = .paused ∧ s.seq.abortMark = true) ∨
        s.seq.runState = .faulted) → s.seq.stage = .stress →
      s.contacts.jackHome.active = true →
      ∃ t, exec (.abort []) s = .next t ∧ t.seq.stage = .none ∧ t.seq.runState = .idle ∧
        t.seq.jobClock = 0 ∧ t.seq.held = none ∧ t.seq.abortMark = false ∧
        t.seq.progress = s.seq.progress ∧ t.drives = .off ∧
        t.eval.summary = { s.eval.summary with jobStatus := .aborted } ∧
        t.eval.results.map StepEntry.index = s.eval.results.map StepEntry.index ∧
        (t.jack.lockedLoad = none ∧ t.jack.schedule = [] ∧ t.jack.stepIndex = 0 ∧
          t.jack.phase = .none) ∧
        t.faults = { s.faults with pending := [], taken := none } ∧
        t.port = (s.replied codeAbort [] 0 0 []).port) ∧
    (s.seq.runState = .idle ∨ s.seq.runState = .stopped ∨ s.seq.runState = .aborting ∨
        (s.seq.runState = .running ∨ s.seq.runState = .paused) ∧ s.lockOff = true ∧
          s.seq.abortMark = false →
      exec (.abort []) s = .next (s.replied codeAbort [] 3 0 []))

/-- R46: ACKNOWLEDGE clears the taken record and gives PAUSED with the work as it stood; elsewhere it is refused. A channel
that the stage needs and that still stands lost is taken again on the same acknowledgement, and so is an overload or a stroke
that still stands (R137, R138); the text after R12, which has the loss detected at the channel's next sample event, gives way
here (log 36). -/
def Obligations.AcknowledgeGivesPaused : Prop :=
  ∀ (c : ChannelName) (s : State), s.portFree = true → s.drivesLegal = true →
    (s.seq.runState = .faulted → s.standing = true → s.seq.stage ≠ .none →
      s.watchQuiet = false →
      ∃ t, exec (.acknowledge []) s = .next t ∧ t.seq.stage = s.seq.stage ∧
        t.seq.runState = .faulted ∧ t.drives = .off ∧
        t.faults.taken.map TakenFault.kind = some s.watchTaken) ∧
    (s.seq.runState = .faulted → s.standing = true → s.lostInPaused c = true →
      ∃ t, exec (.acknowledge []) s = .next t ∧ t.seq.stage = s.seq.stage ∧
        t.seq.runState = .faulted ∧ t.drives = .off ∧ .channelLost ∈ t.faults.seen ∧
        t.faults.taken.map TakenFault.kind =
          some (if s.watchQuiet = true then .channelLost else s.watchTaken)) ∧
    (s.seq.runState = .faulted → s.seq.stage ≠ .none → s.watchQuiet = true →
      s.pausedQuiet = true → s.noneLost = true →
      ∃ t, exec (.acknowledge []) s = .next t ∧ t.seq = { s.seq with runState := .paused } ∧
        t.faults = { s.faults with taken := none } ∧ t.drives = .off ∧ t.jack = s.jack ∧
        t.grout = s.grout ∧ t.winch = s.winch ∧ t.eval = s.eval ∧ t.log = s.log ∧
        t.port = (s.replied codeAcknowledge [] 0 0 []).port) ∧
    (s.seq.runState ≠ .unconfigured → s.seq.runState ≠ .faulted →
      exec (.acknowledge []) s = .next (s.replied codeAcknowledge [] 3 0 []))

/-- R140, R139: ACCEPT_DRIFT, its refusals in their order and its effect; only a cleared DRIFT sends a notice; the next LOAD
sample event judges the new locked load. Under a locked anchor with no stage every LOAD sample event with a valid value
completes with the drift decisions: OUT of the band sets DRIFT and detects ANCHOR_DRIFT, back within half the band
clears it. -/
def Obligations.AcceptDriftMovesTheLockedLoad : Prop :=
  ∀ (v w l m : Nat) (g : Setup) (s : State), s.portFree = true → s.drivesLegal = true →
    (s.seq.config = some g → s.seq.runState ≠ .unconfigured → s.seq.progress = .locked →
      s.seq.stage = .none → s.filtered .load = some v →
      (takeSample (.load m) s).filtered .load = some w →
      ∃ t, exec (.acceptDrift []) s = .next t ∧
        ∃ u, exec (.sampleEvent (.load m) none) t = .next u ∧ u.jack.lockedLoad = some v ∧
          (u.table.drift = true ↔ w + g.driftBand < v ∨ v + g.driftBand < w)) ∧
    (s.seq.config = some g → s.seq.progress = .locked → s.seq.stage = .none →
      s.jack.lockedLoad = some l → (takeSample (.load m) s).filtered .load = some w →
      ∃ t, exec (.sampleEvent (.load m) none) s = .next t ∧ t.jack = s.jack ∧ t.seq = s.seq ∧
        t.log = s.log ∧ t.faults.pending = s.faults.pending ∧ t.faults.taken = s.faults.taken ∧
        (s.table.drift = false →
          (t.table.drift = true ↔ w + g.driftBand < l ∨ l + g.driftBand < w) ∧
          (t.table.drift = true → s.masked .anchorDrift = false → .anchorDrift ∈ t.faults.seen)) ∧
        (s.table.drift = true →
          (t.table.drift = false ↔ l ≤ w + g.driftBand / 2 ∧ w ≤ l + g.driftBand / 2))) ∧
    (s.seq.runState = .unconfigured →
      exec (.acceptDrift []) s = .next (s.replied codeAcceptDrift [] 1 0 [])) ∧
    (s.seq.runState ≠ .unconfigured → (s.seq.progress ≠ .locked ∨ s.seq.stage ≠ .none) →
      exec (.acceptDrift []) s = .next (s.replied codeAcceptDrift [] 3 0 [])) ∧
    (s.seq.runState ≠ .unconfigured → s.seq.progress = .locked → s.seq.stage = .none →
      s.filtered .load = none →
      exec (.acceptDrift []) s = .next (s.replied codeAcceptDrift [] 9 0 [])) ∧
    (s.seq.runState ≠ .unconfigured → s.seq.config.isSome = true → s.seq.progress = .locked →
      s.seq.stage = .none → s.filtered .load = some v → s.table.drift = false →
      exec (.acceptDrift []) s =
        .next ({ s with jack := { s.jack with lockedLoad := some v } }.replied
          codeAcceptDrift [] 0 0 [])) ∧
    (s.seq.runState ≠ .unconfigured → s.seq.config.isSome = true → s.seq.progress = .locked →
      s.seq.stage = .none → s.filtered .load = some v → s.table.drift = true →
      exec (.acceptDrift []) s =
        .next (requestNotice
          ({ s with jack := { s.jack with lockedLoad := some v },
                    table := { s.table with drift := false } }.replied codeAcceptDrift [] 0 0 [])))

/-- R173, R174: SET_MASK replaces the mask by the maskable marks of its body; a kind newly masked leaves the pending set;
the seen set and the taken record stay. CLEAR_SEEN empties the seen set and touches nothing else. Before SETUP both are
refused. -/
def Obligations.MaskAndSeenSetAreWritten : Prop :=
  ∀ (body : List Byte) (k : FaultKind) (d : Detail) (s : State), s.portFree = true →
    s.drivesLegal = true → body.length = 2 →
    (s.seq.runState = .unconfigured →
      exec (.setMask body) s = .next (s.replied codeSetMask body 1 0 []) ∧
      exec (.clearSeen []) s = .next (s.replied codeClearSeen [] 1 0 [])) ∧
    (s.seq.runState ≠ .unconfigured →
      ∃ t, exec (.setMask body) s = .next t ∧
        (k ∈ t.faults.mask ↔
          k.maskable = true ∧ (fieldAt body 0 2).testBit (k.priority - 1) = true) ∧
        ((k, d) ∈ t.faults.pending ↔
          (k, d) ∈ s.faults.pending ∧ (k ∈ t.faults.mask → k ∈ s.faults.mask)) ∧
        t = { s with faults := { s.faults with mask := t.faults.mask, pending := t.faults.pending } }.replied
          codeSetMask body 0 0 []) ∧
    (s.seq.runState ≠ .unconfigured →
      exec (.clearSeen []) s =
        .next ({ s with faults := { s.faults with seen := [] } }.replied codeClearSeen [] 0 0 []))

/-- R99, R161, R184, R192: the read requests return their snapshots and leave the station as it stood, but that READ_LOG
removes the run of records that it returns: the longest from the head that fits in 512 bytes; an empty log gives the one
byte EMPTY. Before SETUP all four are refused. -/
def Obligations.ReadRequestsReturnSnapshots : Prop :=
  ∀ s : State, s.portFree = true → s.drivesLegal = true →
    (s.seq.runState = .unconfigured →
      exec (.readStatus []) s = .next (s.replied codeReadStatus [] 1 0 []) ∧
      exec (.readNeighbours []) s = .next (s.replied codeReadNeighbours [] 1 0 []) ∧
      exec (.readResults []) s = .next (s.replied codeReadResults [] 1 0 []) ∧
      exec (.readLog []) s = .next (s.replied codeReadLog [] 1 0 [])) ∧
    (s.seq.runState ≠ .unconfigured →
      exec (.readStatus []) s = .next (s.replied codeReadStatus [] 0 0 (statusRecord s)) ∧
      exec (.readNeighbours []) s =
        .next (s.replied codeReadNeighbours [] 0 0
          (beBytes 1 s.table.entries.length ++ (s.table.entries.map (entryBytes s)).flatten)) ∧
      exec (.readResults []) s =
        .next (s.replied codeReadResults [] 0 0
          (summaryBytes s.eval.summary ++ beBytes 1 s.eval.results.length ++
            (s.eval.results.map stepEntryBytes).flatten)) ∧
      ∃ given left, s.log = given ++ left ∧ logUsed given ≤ 512 ∧
        (∀ r rest, left = r :: rest → 512 < logUsed given + r.size) ∧
        exec (.readLog []) s =
          .next ({ s with log := left }.replied codeReadLog [] 0 0
            (if s.log = [] then [1] else (given.map LogRecord.bytes).flatten)))

/-- R185, R186, R188: the characters, discards and gaps of the pendant link, and a request in the turnaround, which finds
the request buffer empty (log 19). -/
def Obligations.PendantLinkEvents : Prop :=
  ∀ (c : PendantChar) (got : List Byte) (code : Byte) (body : List Byte) (s : State),
    s.drivesLegal = true →
    (s.port.receiver = .waiting → s.port.reply = none → c.byte = 195 → c.stopLow = false →
      exec (.pendantStartCharacter c) s =
        .next { s with port := { s.port with receiver := .receiving [] } }) ∧
    (s.port.receiver = .waiting → s.port.reply = none → (c.byte ≠ 195 ∨ c.stopLow = true) →
      exec (.pendantStartCharacter c) s = .next s) ∧
    (s.port.receiver = .receiving got → s.port.reply = none → c.stopLow = true →
      exec (.requestFrameDiscard [c]) s =
        .next { s with port := { s.port with receiver := .waiting } }) ∧
    (s.port.receiver = .receiving [] → s.port.reply = none → c.stopLow = false →
      (c.byte.toNat = 0 ∨ 61 < c.byte.toNat) →
      exec (.requestFrameDiscard [c]) s =
        .next { s with port := { s.port with receiver := .waiting } }) ∧
    (s.port.receiver = .receiving got →
      exec (.pendantGapTimeout []) s =
        .next { s with port := { s.port with receiver := .waiting } }) ∧
    (s.port.receiver = .waiting → (s.port.reply.map Reply.sending) = some false → body.length ≤ 60 →
      exec (.overlappedRequest code body) s =
        .next { s with port := { s.port with overlap := true, buffer := none } } ∧
      exec (requestOf code body) s =
        .next { s with port := { s.port with overlap := true, buffer := none } })

/-- R185, R186, R187, R188: the driver turning on for a reply, with the request buffer empty (when it empties is the model's
reading, log 19), and the end of the reply, whose bytes stand in their order with the OVERLAP mark in the flags byte (that
the last reply sent is kept is the model's, log 21). -/
def Obligations.RepliesAreSentOnce : Prop :=
  ∀ (r : Reply) (s : State), s.drivesLegal = true → s.port.reply = some r →
    (r.sending = false →
      exec .replyStart s =
        .next
          { s with
            port :=
              { s.port with
                receiver := .waiting, buffer := none, reply := some { r with sending := true } } }) ∧
    (r.sending = true →
      exec .replySent s =
        .next
          { s with
            port :=
              { s.port with
                reply := none, overlap := false
                lastSent := some (replyFrame r s.port.overlap) } }) ∧
    (replyFrame r s.port.overlap).length = 9 + r.body.length ∧
    (replyFrame r s.port.overlap).take (6 + r.body.length) =
      195 :: beBytes 2 (4 + r.body.length) ++ [r.code] ++ beBytes 1 r.outcome ++
        beBytes 1 r.argument ++ r.body ∧
    (replyFrame r s.port.overlap)[6 + r.body.length]? =
      some (if s.port.overlap = true then 1 else 0) ∧
    (replyFrame r s.port.overlap).drop (7 + r.body.length) =
      crcBytes (((replyFrame r s.port.overlap).drop 1).take (6 + r.body.length))

/-! ## The notice tick -/

/-- R79, R83: what every notice tick does to the table, and what it leaves alone; a station with no stage ages its table,
counts its cure clock and places one notice; an entry lapses at age 3 and leaves at age 10. -/
def Obligations.TicksAgeTheNeighbours : Prop :=
  ∀ (c : ChannelName) (e : Entry) (s : State), s.drivesLegal = true →
    (∃ t, exec .noticeTick s = .next t ∧ t.table.entries = s.agedEntries ∧ t.port = s.port ∧
      t.contacts = s.contacts ∧ t.seq.config = s.seq.config ∧ t.faults.mask = s.faults.mask ∧
      t.line.queue = s.line.queue ∧ t.line.state = s.line.state ∧
      (t.chan c).window = (s.chan c).window ∧ (t.chan c).voidRun = (s.chan c).voidRun) ∧
    (s.seq.stage = .none → s.jack.phase = .none → s.grout.phase = .none → s.grout.claim = none →
      s.boundaryClear = true →
      exec .noticeTick s =
        .next (requestNotice
          { s with
            table := { s.table with entries := s.agedEntries }
            seq := { s.seq with cure := s.seq.cure.tick } })) ∧
    (e ∈ s.table.entries → e.age = 2 → s.line.state ≠ .broken →
      ∃ t, exec (.entryLapsed e.station) s = .next t ∧ t.table.entries = s.agedEntries ∧
        { e with age := 3, lapsed := true } ∈ t.table.entries) ∧
    (e ∈ s.table.entries → e.age = 9 → s.line.state ≠ .broken → s.tableSound = true →
      ∃ t, exec (.entryRemoved e.station) s = .next t ∧ t.table.entries = s.agedEntries ∧
        findEntry e.station t.table.entries = none ∧
        (s.inSpan e = true → .neighbourLost ∈ t.faults.seen))

/-- R37, R38: at the second tick the job clock and the cure clock advance by a second; with a WINCH stage in PAUSED the
tick adds the periodic record (R178) and nothing else. -/
def Obligations.ClocksCountSeconds : Prop :=
  ∀ s : State, s.drivesLegal = true →
    (s.seq.stage ≠ .none → s.seq.jobHalf = true → s.seq.jobClock < 16777215 →
      ∃ t, exec .jobClockAdvance s = .next t ∧ t.table.entries = s.agedEntries ∧
        (t.seq.stage ≠ .none →
          t.seq.stage = s.seq.stage ∧ t.seq.jobClock = s.seq.jobClock + 1 ∧ t.seq.jobHalf = false)) ∧
    (s.seq.stage = .winch → s.seq.runState = .paused → s.jack.phase = .none →
      s.grout.phase = .none → s.grout.claim = none → s.boundaryClear = true →
      s.seq.jobHalf = true → s.seq.jobClock < 16777215 →
      exec .jobClockAdvance s =
        .next (requestNotice (periodicRecord
          { s with
            table := { s.table with entries := s.agedEntries }
            seq :=
              { s.seq with
                cure := s.seq.cure.tick, jobHalf := false, jobClock := s.seq.jobClock + 1 } }))) ∧
    (s.seq.cure.running = true → s.seq.cure.half = true →
      ∃ t, exec .cureClockAdvance s = .next t ∧ t.table.entries = s.agedEntries ∧
        (s.seq.stage ≠ .grout ∨ t.seq.stage = .grout →
          t.seq.cure =
            if s.seq.cure.seconds + 1 < 3600 then
              { s.seq.cure with seconds := s.seq.cure.seconds + 1, half := false }
            else
              { s.seq.cure with
                hours := min (s.seq.cure.hours + 1) 9999, seconds := 0, half := false }))

/-- R103 to R105, R129, R133, R134, R137, R138, R168: what stops a drive. The stall timer of the winch, the limits of
SEATING and RELEASE and the snag tension: the drive goes off, and the kind is detected and taken at once. The winch length:
below the target the drive is on, at it the stage ends WINCHED. Overload and stroke with the lower valve closed: taken at
once whatever boundary the same value reaches (they are asked of the value before it acts, log 7), the end of the stage among
them (log 42), and seen only with no stage; with the lower valve open the stroke is not detected. At the unload stop the
closing of the lower valve asks both at once: a stroke due there is taken whatever the step goes on to, a lower valve open
again among it. That they are asked at that closing, before the boundary acts, is the model's (log 33). -/
def Obligations.DriveLimitsStopTheWork : Prop :=
  ∀ (w : WinchRecord) (m v : Nat) (g : Setup) (s : State), s.drivesLegal = true →
    (s.jobAdvances = true → s.seq.runState = .running →
      (s.seq.stage = .winch → s.drives.winch = true → s.winch = some w → 9 ≤ w.stallTimer →
        ∃ t, exec .winchStall s = .next t ∧ .winchSnag ∈ t.faults.seen ∧ t.seq.runState = .faulted ∧
          t.seq.stage = .winch ∧ t.seq.held = s.seq.held ∧ t.drives = .off ∧
          t.winch = some { w with stallTimer := 10 } ∧
          (s.watchQuiet = true →
            t.faults.taken.map (fun f => (f.kind, f.detail)) = some (.winchSnag, .stall))) ∧
      (s.seq.stage = .stress → s.jack.phase = .seating → s.jack.lockOffTimer = 30 →
        ∃ t, exec .seatingLimit s = .next t ∧ .seatFail ∈ t.faults.seen ∧ t.seq.runState = .faulted ∧
          t.seq.stage = .stress ∧ t.seq.held = s.seq.held ∧ t.drives = .off ∧
          t.jack = { s.jack with lockOffTimer := 31, topUp := false } ∧
          (s.watchQuiet = true →
            t.faults.taken.map (fun f => (f.kind, f.detail)) = some (.seatFail, .seat))) ∧
      (s.seq.stage = .stress → s.jack.phase = .release → s.jack.lockOffTimer = 60 →
        ∃ t, exec .releaseLimit s = .next t ∧ .seatFail ∈ t.faults.seen ∧ t.seq.runState = .faulted ∧
          t.seq.stage = .stress ∧ t.seq.held = s.seq.held ∧ t.drives = .off ∧
          t.jack = { s.jack with lockOffTimer := 61, topUp := false } ∧
          (s.watchQuiet = true →
            t.faults.taken.map (fun f => (f.kind, f.detail)) = some (.seatFail, .release)))) ∧
    (s.winching = true → s.winch = some w → (takeSample (.wt m) s).filtered .wt = some v →
      w.snag < v →
      ∃ t, exec (.sampleEvent (.wt m) none) s = .next t ∧ .winchSnag ∈ t.faults.seen ∧
        t.seq = { s.seq with runState := .faulted } ∧ t.drives = .off ∧ t.winch = some w ∧
        (s.watchQuiet = true →
          t.faults.taken.map (fun f => (f.kind, f.detail)) = some (.winchSnag, .tension))) ∧
    (s.winching = true → s.winch = some w → (takeSample (.wl m) s).filtered .wl = some v →
      v < w.target →
      ∃ t, exec (.sampleEvent (.wl m) none) s = .next t ∧ t.seq = s.seq ∧
        t.drives = { Drives.off with winch := true } ∧ t.faults = s.faults ∧
        t.winch.map (fun r => (r.target, r.installed, r.outcome)) =
          some (w.target, w.installed, w.outcome)) ∧
    (s.winching = true → s.winch = some w → (takeSample (.wl m) s).filtered .wl = some v →
      w.target ≤ v → s.faults.pending = [] →
      ∃ t, exec (.sampleEvent (.wl m) none) s = .next t ∧ t.seq.stage = .none ∧
        t.seq.runState = .idle ∧ t.seq.progress = .winched ∧ t.seq.jobClock = 0 ∧ t.drives = .off ∧
        t.winch.map (fun r => (r.target, r.installed, r.outcome)) =
          some (w.target, some v, .complete)) ∧
    (s.seq.config = some g → (takeSample (.load m) s).filtered .load = some v → g.loadLimit < v →
      s.drives.lower = false →
      (s.standing = true → s.seq.stage ≠ .none → s.seq.runState ≠ .aborting →
        ∃ t, exec (.sampleEvent (.load m) none) s = .next t ∧ .loadLimit ∈ t.faults.seen ∧
          t.seq.runState = (if s.seq.runState = .stopped then .stopped else .faulted) ∧
          t.drives = .off ∧ t.seq.stage = s.seq.stage ∧
          t.faults.taken.map TakenFault.kind =
            some (if s.seq.runState = .stopped then .wallStop else .loadLimit)) ∧
      (s.seq.stage = .none →
        ∃ t, exec (.sampleEvent (.load m) none) s = .next t ∧ .loadLimit ∈ t.faults.seen ∧
          t.seq = s.seq ∧ t.faults.taken = s.faults.taken)) ∧
    (s.seq.config = some g → (takeSample (.ext m) s).filtered .ext = some v → g.strokeLimit ≤ v →
      (s.drives.lower = false → s.standing = true → s.seq.stage ≠ .none →
        ∃ t, exec (.sampleEvent (.ext m) none) s = .next t ∧ .strokeEnd ∈ t.faults.seen ∧
          t.seq.runState = (if s.seq.runState = .stopped then .stopped else .faulted) ∧
          t.drives = .off ∧ t.seq.stage = s.seq.stage ∧
          (t.faults.taken.any fun f => decide (f.kind.priority ≤ 3)) = true) ∧
      (s.drives.lower = true →
        ∃ t, exec (.sampleEvent (.ext m) none) s = .next t ∧ t.seq = s.seq ∧ t.faults = s.faults ∧
          t.drives = s.drives)) ∧
    (s.seq.config = some g → s.standing = true → s.stressing .rampDown = true →
      s.drives.lower = true →
      (takeSample (.load m) s).filtered .load = some v → v ≤ s.stepTarget + g.loadTolerance →
      ((takeSample (.load m) s).filtered .ext).any (fun e => decide (g.strokeLimit ≤ e)) = true →
      ∃ t, exec (.sampleEvent (.load m) none) s = .next t ∧ .strokeEnd ∈ t.faults.seen ∧
        t.seq.runState = .faulted ∧ t.seq.stage = .stress ∧ t.drives = .off ∧
        t.faults.taken.map TakenFault.kind =
          some (if g.loadLimit < v then .loadLimit else .strokeEnd))

/-- R135, R136, R36: at 60 s of SETTLE with LOAD valid the locked load is recorded and judged; the stage ends LOCKED, or
an unmasked LOCK_LOSS is taken at the stage's end. -/
def Obligations.SettleWaitLocksTheAnchor : Prop :=
  ∀ (v : Nat) (s : State), s.drivesLegal = true → s.jobAdvances = true → s.boundaryClear = true →
    s.stressing .settle = true → s.jack.lockOffTimer = 59 → s.filtered .load = some v →
    ∃ t, exec .settleWaitEnd s = .next t ∧ t.jack.lockedLoad = some v ∧
      t.eval.summary.lockedLoad = some v ∧ t.drives = .off ∧
      t.eval.summary.lockOutcome =
        (if v + s.cfg Setup.lockTolerance 0 < s.stepTarget then .loss else .pass) ∧
      (s.stepTarget ≤ v + s.cfg Setup.lockTolerance 0 ∨ s.masked .lockLoss = true →
        t.seq.progress = .locked ∧ t.seq.stage = .none ∧ t.seq.runState = .idle ∧
        t.seq.jobClock = 0 ∧ t.eval.summary.jobStatus = .complete ∧ t.jack.schedule = [] ∧
        t.jack.stepIndex = 0 ∧ t.jack.phase = .none ∧ t.faults.pending = [] ∧
        t.ownFlags.locked = true ∧ t.jack.datum = s.jack.datum) ∧
      (v + s.cfg Setup.lockTolerance 0 < s.stepTarget → s.masked .lockLoss = false →
        t.seq.progress = s.seq.progress ∧ t.seq.stage = .stress ∧ t.seq.runState = .faulted ∧
        t.seq.held = some (.stageEnd false) ∧ .lockLoss ∈ t.faults.seen ∧ t.faults.pending = [] ∧
        (s.watchQuiet = true → t.faults.taken.map TakenFault.kind = some .lockLoss))

/-- R92: the gate timer reaches the gate timeout in RAISE_WAIT with the gate's conditions failing: unmasked, GATE_TIMEOUT
is taken with the wait's end held; masked, the wait goes on and the timer keeps its value. -/
def Obligations.GateTimeoutEndsTheWait : Prop :=
  ∀ s : State, s.drivesLegal = true → s.jobAdvances = true → s.boundaryClear = true →
    s.stressing .raiseWait = true → s.table.gateTimer + 1 = s.cfg Setup.gateTimeout 0 * 60 →
    (clocksAt s).raiseConditions = false →
    (s.masked .gateTimeout = false →
      ∃ t, exec .gateTimeout s = .next t ∧ t.seq.runState = .faulted ∧ t.seq.stage = .stress ∧
        t.seq.held = some .gateTimeout ∧ t.jack = { s.jack with topUp := false } ∧
        t.drives = .off ∧ t.table.gateTimer = s.table.gateTimer + 1 ∧
        .gateTimeout ∈ t.faults.seen ∧ t.faults.pending = [] ∧
        (s.watchQuiet = true → t.faults.taken.map TakenFault.kind = some .gateTimeout)) ∧
    (s.masked .gateTimeout = true →
      ∃ t, exec .gateTimeout s = .next t ∧ t.seq.runState = .running ∧ t.seq.stage = .stress ∧
        t.seq.held = s.seq.held ∧ t.jack = s.jack ∧ t.drives = s.drives ∧
        t.table.gateTimer = s.table.gateTimer + 1 ∧ .gateTimeout ∈ t.faults.seen ∧
        t.faults.pending = [] ∧ t.faults.taken = s.faults.taken)

/-- R88, R89, R126: the tick that ends the raise intent interval, with no gate timeout on it: where the conditions of the
interval's end hold and LOAD is below the target's band, RAMP_UP with the raise valve open and a new ramp record; where
they fail, back to RAISE_WAIT. -/
def Obligations.RaiseIntentEndsInRampUpOrWait : Prop :=
  ∀ (v : Nat) (s : State), s.drivesLegal = true → s.boundaryClear = true →
    s.stressing .raiseIntent = true → 1 ≤ s.table.raiseTicks →
    (s.jobAdvances = false ∨ s.table.gateTimer + 1 ≠ s.cfg Setup.gateTimeout 0 * 60) →
    ((clocksAt s).raiseConditionsAtEnd = true → s.filtered .load = some v →
      v + s.cfg Setup.loadTolerance 0 < s.stepTarget →
      ∃ t, exec .raiseIntentEnd s = .next t ∧ t.seq.runState = .running ∧
        t.jack =
          { s.jack with
            phase := .rampUp, ramp := { startLoad := v, clock := 0, history := [], slow := false } } ∧
        t.drives = { Drives.off with raise := true } ∧ t.faults.pending = [] ∧
        t.eval = s.eval) ∧
    ((clocksAt s).raiseConditionsAtEnd = false →
      ∃ t, exec .raiseIntentEnd s = .next t ∧ t.seq.runState = .running ∧
        t.jack = { s.jack with phase := .raiseWait } ∧ t.drives = .off ∧ t.faults.pending = [] ∧
        t.eval = s.eval)

/-- R84, R85, R87, R88, R90, R91: what the raise gate reads. In span is a bay distance within the span (R75). Precedence goes
to a valid load over VOID, then to the lower load, then to the lower station number, a LAPSED entry's load being VOID.
RAISE_INTENT is entered on conditions (a) to (d), asked once more at its end, where RAISING is judged by precedence. An
applied in-span entry that conflicts withdraws a raise intent, turns a ramp back, or marks a hold DISTURBED, each by its own
conditions. R94: NOTICE_APPLIED makes these checks on the entry of an application that changes the table, and evaluates the
gate of RAISE_WAIT and of GROUT_WAIT; an application that changes no entry leaves the work as it stands (log 13). -/
def Obligations.ConflictsHoldTheRaiseBack : Prop :=
  ∀ (a : Applying) (e : Entry) (g : Setup) (s : State),
    (s.line.applying = some a → s.seq.config = some g → s.drivesLegal = true →
      s.faults.pending = [] → e = entryOf g.claimLimit a.frame →
      ((e.station = g.station ∨ frameWellFormed a.frame = false ∨
          (findEntry e.station s.table.entries).map Entry.sequence = some e.sequence) →
        ∃ t, exec .noticeApplied s = .next t ∧ t.seq = s.seq ∧ t.jack = s.jack ∧ t.grout = s.grout ∧
          t.eval = s.eval ∧ t.drives = s.drives ∧ t.log = s.log) ∧
      (frameWellFormed a.frame = true → e.station ≠ g.station →
        (findEntry e.station s.table.entries).map Entry.sequence ≠ some e.sequence →
        ((findEntry e.station s.table.entries).isSome = true ∨ s.table.entries.length < 24 ∨
          s.entryToGiveUp.isSome = true) →
        ∃ t, exec .noticeApplied s = .next t ∧ e ∈ t.table.entries ∧
          (s.stressing .raiseIntent = true →
            t.drives = .off ∧
            (s.inSpan e = true → s.withdrawsFor e = true →
              t.jack = { s.jack with phase := .raiseWait } ∧ t.seq = { s.seq with held := none } ∧
              t.table.gateTimer = s.table.gateTimer) ∧
            ((s.inSpan e = false ∨ s.withdrawsFor e = false) →
              t.jack = s.jack ∧ t.seq = s.seq ∧ t.log = s.log)) ∧
          (s.stressing .rampUp = true →
            (s.inSpan e = true → s.turnsBackFor e = true →
              t.jack = { s.jack with phase := .raiseWait } ∧ t.seq = { s.seq with held := none } ∧
              t.drives = .off ∧ t.table.gateTimer = 0) ∧
            ((s.inSpan e = false ∨ s.turnsBackFor e = false) →
              t.jack = s.jack ∧ t.seq = s.seq ∧ t.drives = s.drives ∧ t.log = s.log)) ∧
          (s.seq.stage = .stress → s.jack.phase = .hold →
            t.jack = s.jack ∧ t.seq = s.seq ∧ t.drives = s.drives ∧
            t.eval =
              (if s.inSpan e = true ∧ e.disturbs = true then
                { s.eval with
                  results :=
                    s.eval.results.map fun x =>
                      if x.index = s.jack.stepIndex then { x with disturbed := true } else x }
              else s.eval)) ∧
          (s.stressing .raiseWait = true →
            t.drives = .off ∧
            t.jack =
              { s.jack with
                phase :=
                  if t.raiseConditions = true ∧ s.jack.approach ≠ .pending then .raiseIntent
                  else .raiseWait }) ∧
          (s.grouting = true → s.grout.phase = .wait → g.main ≠ 0 →
            t.drives = .off ∧ t.grout.claim = s.grout.claim ∧
            t.grout.phase = (if t.drawers < g.concurrency then .intent else .wait)))) ∧
    (s.seq.config = some g →
      (s.inSpan e = true ↔ e.bay ≤ g.bay + g.span ∧ g.bay ≤ e.bay + g.span) ∧
      (e.lapsed = true →
        (s.entryPrecedes e = true ↔ s.filtered .load = none ∧ e.station < g.station)) ∧
      (e.lapsed = false →
        (s.entryPrecedes e = true ↔
          (e.load.isSome = true ∧ s.filtered .load = none) ∨
          (e.load.isSome = true ∧ (s.filtered .load).isSome = true ∧
            e.load.getD 0 < (s.filtered .load).getD 0) ∨
          (e.load = s.filtered .load ∧ e.station < g.station))) ∧
      (e.station ≠ g.station → s.ownPrecedes e = !s.entryPrecedes e) ∧
      (s.raiseConditions = true ↔
        s.seq.runState = .running ∧
        ∀ x ∈ s.table.entries, s.inSpan x = true →
          x.phase ∉ [.raising, .holding, .seating] ∧ x.flags.hold = false ∧ x.flags.drift = false ∧
          x.lapsed = false ∧
          (x.flags.locked = true →
            x.locked.isSome = true ∧ s.stepTarget ≤ x.locked.getD 0 + g.imbalanceLimit) ∧
          (x.flags.raisePending = true → s.entryPrecedes x = false)) ∧
      (s.raiseConditionsAtEnd = true ↔
        s.seq.runState = .running ∧
        ∀ x ∈ s.table.entries, s.inSpan x = true →
          x.phase ∉ [.holding, .seating] ∧ (x.phase = .raising → s.ownPrecedes x = true) ∧
          x.flags.hold = false ∧ x.flags.drift = false ∧ x.lapsed = false ∧
          (x.flags.locked = true →
            x.locked.isSome = true ∧ s.stepTarget ≤ x.locked.getD 0 + g.imbalanceLimit) ∧
          (x.flags.raisePending = true → s.entryPrecedes x = false))) ∧
    (s.withdrawsFor e = true ↔
      e.phase ∈ [.holding, .seating] ∨ e.flags.hold = true ∨ e.flags.drift = true ∨
      ((e.phase = .raising ∨ e.flags.raisePending = true) ∧ s.entryPrecedes e = true)) ∧
    (s.turnsBackFor e = true ↔
      e.phase ∈ [.holding, .seating] ∨ e.flags.hold = true ∨ e.flags.drift = true ∨
      (e.phase = .raising ∧ s.entryPrecedes e = true)) ∧
    (e.disturbs = true ↔ e.phase ∈ [.raising, .holding, .seating]) ∧
    (s.faults.pending = [] → s.seq.stage = .stress → s.inSpan e = true →
      (s.jack.phase = .raiseIntent → s.withdrawsFor e = true → s.raiseConditions = false →
        (appliedWork e s).jack = { s.jack with phase := .raiseWait } ∧
        (appliedWork e s).seq = { s.seq with held := none } ∧
        (appliedWork e s).table = s.table) ∧
      (s.jack.phase = .raiseIntent → s.withdrawsFor e = false → appliedWork e s = s) ∧
      (s.jack.phase = .rampUp → s.seq.runState = .running → s.turnsBackFor e = true →
        s.raiseConditions = false →
        (appliedWork e s).jack = { s.jack with phase := .raiseWait } ∧
        (appliedWork e s).drives = { s.drives with raise := false } ∧
        (appliedWork e s).table = { s.table with gateTimer := 0 }) ∧
      (s.jack.phase = .rampUp → s.turnsBackFor e = false → appliedWork e s = s) ∧
      (s.jack.phase = .hold → e.disturbs = true →
        appliedWork e s =
          { s with
            eval :=
              { s.eval with
                results :=
                  s.eval.results.map fun x =>
                    if x.index = s.jack.stepIndex then { x with disturbed := true } else x } }) ∧
      (s.jack.phase = .hold → e.disturbs = false → appliedWork e s = s))

/-- R126 to R129, R131, R132: the decisions on LOAD in RAMP_UP, RAMP_DOWN and HOLD. The ramp clock first exceeds the ramp
allowance: RATE_SLOW is seen once, waits in the pending set unless it is masked, and the ramp goes on; with the slow mark
set no second tick detects it. Short of the target the raise valve is open but where the rate limit shuts it; at the target
the step goes on to its hold, to SEATING in the LOCK step, or to the next step at hold 0, its load reached. The unload stop
and the top-up act at their own ends of the band. An unaware stop on VOID takes VOID_TEST unless it is masked. -/
def Obligations.SlowRampsAreDetectedOnce : Prop :=
  ∀ (x : ScheduleStep) (m v tol : Nat) (g : Setup) (s u : State), s.drivesLegal = true →
    u = takeSample (.load m) s → s.seq.config = some g → tol = g.loadTolerance →
    (s.jobAdvances = true → s.stressing .rampUp = true → s.jack.ramp.clock < 16777215 →
      rampAllowance s.stepTarget s.jack.ramp.startLoad g.rampRate < s.jack.ramp.clock + 1 →
      s.jack.ramp.slow = false →
      ∃ t, exec .rateSlow s = .next t ∧ .rateSlow ∈ t.faults.seen ∧ t.seq.runState = .running ∧
        t.jack =
          { s.jack with ramp := { s.jack.ramp with clock := s.jack.ramp.clock + 1, slow := true } } ∧
        t.drives = s.drives ∧ t.faults.taken = s.faults.taken ∧
        (s.masked .rateSlow = false → .rateSlow ∈ t.faults.pending.map Prod.fst) ∧
        (s.masked .rateSlow = true → s.boundaryClear = true → t.faults.pending = [])) ∧
    (s.jobAdvances = true → s.stressing .rampUp = true → s.jack.ramp.clock < 16777215 →
      s.jack.ramp.slow = true →
      exec .rateSlow s = .next s ∧
      (s.boundaryClear = true →
        ∃ t, exec .jobClockAdvance s = .next t ∧ t.faults = s.faults ∧
          t.seq.runState = .running ∧ t.drives = s.drives ∧
          t.jack = { s.jack with ramp := { s.jack.ramp with clock := s.jack.ramp.clock + 1 } })) ∧
    (s.stressing .rampUp = true → u.filtered .load = some v → v + tol < s.stepTarget →
      u.watchQuiet = true →
      ∃ t, exec (.sampleEvent (.load m) none) s = .next t ∧ t.seq = s.seq ∧ t.faults = s.faults ∧
        t.jack =
          { s.jack with
            ramp :=
              { s.jack.ramp with
                history :=
                  (s.jack.ramp.history ++ [some v]).drop (s.jack.ramp.history.length + 1 - 51) } } ∧
        t.drives.lower = false ∧
        t.drives.raise =
          t.jack.ramp.history.head?.join.all fun old => decide (6 * v ≤ 6 * old + g.rampRate)) ∧
    (s.stressing .rampUp = true → s.currentStep = some x → u.filtered .load = some v →
      x.target ≤ v + tol → u.watchQuiet = true → s.faults.pending = [] →
      (x.kind = .load → x.hold ≠ 0 →
        ∃ t, exec (.sampleEvent (.load m) none) s = .next t ∧ t.seq.runState = .running ∧
          t.seq.stage = .stress ∧ t.jack.phase = .hold ∧ t.jack.stepIndex = s.jack.stepIndex ∧
          t.jack.holdClock = 0 ∧ t.jack.holdLength = some x.hold ∧ t.jack.topUp = false ∧
          t.drives = .off ∧ t.faults = s.faults ∧
          t.currentEntry.map StepEntry.reached = s.currentEntry.map (fun _ => some v) ∧
          t.jack.datum =
            (if s.jack.stepIndex = 1 then some (s.filtered .ext) else s.jack.datum)) ∧
      (x.kind = .lock → s.contacts.seat.active = false → s.jack.stepIndex ≠ 1 →
        ∃ t, exec (.sampleEvent (.load m) none) s = .next t ∧ t.seq.runState = .running ∧
          t.jack.phase = .seating ∧ t.jack.lockOffTimer = 0 ∧ t.faults = s.faults ∧
          t.drives = { Drives.off with seating := true } ∧ t.jack.datum = s.jack.datum ∧
          t.currentEntry.map StepEntry.reached = s.currentEntry.map (fun _ => some v)) ∧
      (x.kind = .load → x.hold = 0 → s.elasticAt s.jack.stepIndex = false →
        (s.jack.schedule[s.jack.stepIndex]?).map ScheduleStep.kind = some .load →
        ∃ t, exec (.sampleEvent (.load m) none) s = .next t ∧ t.seq.runState = .running ∧
          t.jack.stepIndex = s.jack.stepIndex + 1 ∧ t.faults = s.faults ∧ t.drives = .off ∧
          t.jack.phase = (if t.raiseConditions = true then .raiseIntent else .raiseWait) ∧
          t.table.gateTimer = 0)) ∧
    (s.stressing .rampDown = true → u.filtered .load = some v → u.watchQuiet = true →
      (s.stepTarget + tol < v →
        ∃ t, exec (.sampleEvent (.load m) none) s = .next t ∧ t.seq = s.seq ∧ t.jack = s.jack ∧
          t.faults = s.faults ∧ t.drives = { Drives.off with lower := true }) ∧
      (v ≤ s.stepTarget + tol → s.currentStep = some x → x.kind = .unload → x.hold ≠ 0 →
        s.faults.pending = [] → s.jack.stepIndex ≠ 1 →
        ∃ t, exec (.sampleEvent (.load m) none) s = .next t ∧ t.seq.runState = .running ∧
          t.jack.phase = .hold ∧ t.jack.stepIndex = s.jack.stepIndex ∧ t.jack.holdClock = 0 ∧
          t.jack.holdLength = some x.hold ∧ t.faults = s.faults ∧
          t.jack.topUp = decide (v + tol < x.target) ∧
          t.drives = { Drives.off with raise := decide (v + tol < x.target) } ∧
          t.currentEntry.map StepEntry.reached = s.currentEntry.map (fun _ => some v))) ∧
    (s.seq.stage = .stress → s.jack.phase = .hold →
      (s.seq.runState = .running ∨ s.seq.runState = .paused) → u.filtered .load = some v →
      u.watchQuiet = true →
      (s.jack.topUp = false → v + tol < s.stepTarget →
        ∃ t, exec (.sampleEvent (.load m) none) s = .next t ∧ t.seq = s.seq ∧
          t.faults = s.faults ∧ t.jack = { s.jack with topUp := true } ∧
          t.drives = { s.drives with raise := true } ∧
          t.currentEntry.map StepEntry.topUps =
            s.currentEntry.map (fun e => min (e.topUps + 1) 65535)) ∧
      (s.jack.topUp = true → s.stepTarget ≤ v + tol →
        ∃ t, exec (.sampleEvent (.load m) none) s = .next t ∧ t.seq = s.seq ∧
          t.faults = s.faults ∧ t.jack = { s.jack with topUp := false } ∧
          t.drives = { s.drives with raise := false } ∧ t.eval = s.eval) ∧
      ((s.jack.topUp = true ↔ v + tol < s.stepTarget) →
        ∃ t, exec (.sampleEvent (.load m) none) s = .next t ∧ t.seq = s.seq ∧
          t.faults = s.faults ∧ t.jack = s.jack ∧ t.drives = s.drives ∧ t.eval = s.eval)) ∧
    (s.stressing .rampUp = true → u.filtered .load = none → u.chans.load.voidRun < 100 →
      (s.masked .voidTest = false →
        ∃ t, exec (.sampleEvent (.load m) none) s = .next t ∧ .voidTest ∈ t.faults.seen ∧
          t.seq = { s.seq with runState := .faulted } ∧ t.drives = .off ∧ t.jack.phase = .rampUp ∧
          (u.watchQuiet = true →
            t.faults.taken.map (fun f => (f.kind, f.detail)) = some (.voidTest, .channel .load))) ∧
      (s.masked .voidTest = true → u.watchQuiet = true →
        ∃ t, exec (.sampleEvent (.load m) none) s = .next t ∧ .voidTest ∈ t.faults.seen ∧
          t.seq = s.seq ∧ t.faults.taken = s.faults.taken ∧
          t.drives = { Drives.off with raise := true }))

/-- R130, R148: at a reading time within the current length, and short of it, one reading is appended to the step's entry
with the extension and the load as they stand, in every run state; the hold goes on. -/
def Obligations.ReadingsAreTakenAtTheirTimes : Prop :=
  ∀ (i m len : Nat) (s : State), s.drivesLegal = true → s.jobAdvances = true →
    s.seq.stage = .stress → s.jack.phase = .hold → readingTimes[i]? = some m →
    s.jack.holdClock + 1 = m * 60 → s.jack.holdLength = some len → m < len →
    ∃ t, exec .holdReading s = .next t ∧
      t.jack = { s.jack with holdClock := m * 60 } ∧ t.seq.runState = s.seq.runState ∧
      t.drives = s.drives ∧ t.faults.taken = s.faults.taken ∧
      t.eval =
        { s.eval with
          results :=
            s.eval.results.map fun e =>
              if e.index = s.jack.stepIndex then
                { e with
                  readings :=
                    e.readings ++
                      [{ index := i + 1, minutes := m, ext := s.extension, load := s.filtered .load }] }
              else e }

/-- R130, R149: the hold clock reaches the current length of a step without EVALUATE: the actual hold and the outcome
DONE are written; in RUNNING with nothing pending the next step, a LOAD step, begins at its gate; in another run state
the hold's end is held. -/
def Obligations.HoldsEndAtTheirLength : Prop :=
  ∀ (x : ScheduleStep) (e : StepEntry) (len : Nat) (s : State), s.drivesLegal = true →
    s.jobAdvances = true → s.seq.stage = .stress → s.jack.phase = .hold →
    s.jack.holdLength = some len → len ≤ 60 → s.jack.holdClock + 1 = len * 60 →
    s.currentStep = some x → x.evaluate = false → s.currentEntry = some e →
    s.elasticAt s.jack.stepIndex = false →
    (s.seq.runState ≠ .running →
      ∃ t, exec .holdEnd s = .next t ∧ t.seq.held = some .holdEnd ∧
        t.seq.runState = s.seq.runState ∧ t.jack.phase = .hold ∧ t.jack.holdClock = len * 60 ∧
        t.drives = s.drives ∧ t.faults.taken = s.faults.taken ∧
        t.currentEntry.map (fun f => (f.actualHold, f.outcome)) =
          some (len * 60, if e.outcome = .inProgress ∨ e.outcome = .extending then .done
                          else e.outcome)) ∧
    (s.seq.runState = .running → s.boundaryClear = true →
      (s.jack.schedule[s.jack.stepIndex]?).map ScheduleStep.kind = some .load →
      ∃ t, exec .holdEnd s = .next t ∧ t.seq.runState = .running ∧
        t.jack.stepIndex = s.jack.stepIndex + 1 ∧
        t.jack.phase = (if t.raiseConditions = true then .raiseIntent else .raiseWait) ∧
        t.jack.holdClock = 0 ∧ t.jack.holdLength = none ∧ t.jack.topUp = false ∧
        t.drives = .off ∧ t.faults.pending = [] ∧
        (t.eval.results.find? fun f => f.index == s.jack.stepIndex).map
            (fun f => (f.actualHold, f.outcome)) =
          some (len * 60, if e.outcome = .inProgress ∨ e.outcome = .extending then .done
                          else e.outcome))

/-- R149, R151 to R154: at the end of a hold with EVALUATE: k from the readings with the one just taken, the step's
outcome, and where the work goes: on to the next step, a masked CREEP_EXCESS with it, to a taken CREEP_EXCESS, or to a held
end in a run state other than RUNNING; an EXTEND step above its limit holds on, to the extended length, in every run state. A
VOID k gives the outcome VOID and no extension: with VOID_TEST masked the work goes on, with it unmasked VOID_TEST is taken
and the hold's end is held. -/
def Obligations.HoldEndsEvaluateTheCreep : Prop :=
  ∀ (x : ScheduleStep) (e : StepEntry) (i len : Nat) (k : Int) (s : State), s.drivesLegal = true →
    s.jobAdvances = true → s.seq.stage = .stress → s.jack.phase = .hold →
    s.jack.holdLength = some len → readingTimes[i]? = some len → s.jack.holdClock + 1 = len * 60 →
    s.currentStep = some x → x.evaluate = true → s.currentEntry = some e →
    (e.outcome = .inProgress ∨ e.outcome = .extending) →
    s.elasticAt s.jack.stepIndex = false →
    (creepCoefficient len
        (e.readings ++
          [{ index := i + 1, minutes := len, ext := s.extension, load := s.filtered .load }]) =
      .void →
      (s.masked .voidTest = true → s.seq.runState ≠ .running →
        ∃ t, exec .holdEnd s = .next t ∧ t.seq.held = some .holdEnd ∧
          t.seq.runState = s.seq.runState ∧ .voidTest ∈ t.faults.seen ∧
          t.faults.taken = s.faults.taken ∧ t.drives = s.drives ∧
          t.jack =
            { s.jack with
              holdClock := len * 60
              datum :=
                if s.jack.stepIndex = 1 then some (s.filtered .ext) else s.jack.datum } ∧
          t.currentEntry.map (fun f => (f.actualHold, f.k, f.outcome)) = some (len * 60, .void, .void)) ∧
      (s.masked .voidTest = true → s.seq.runState = .running → s.boundaryClear = true →
        (s.jack.schedule[s.jack.stepIndex]?).map ScheduleStep.kind = some .load →
        ∃ t, exec .holdEnd s = .next t ∧ t.seq.runState = .running ∧ .voidTest ∈ t.faults.seen ∧
          t.jack.stepIndex = s.jack.stepIndex + 1 ∧ t.jack.holdClock = 0 ∧ t.drives = .off ∧
          t.faults.taken = s.faults.taken ∧ t.faults.pending = [] ∧
          (t.eval.results.find? fun f => f.index == s.jack.stepIndex).map
              (fun f => (f.actualHold, f.k, f.outcome)) =
            some (len * 60, .void, .void)) ∧
      (s.masked .voidTest = false → s.standing = true →
        ∃ t, exec .holdEnd s = .next t ∧ .voidTest ∈ t.faults.seen ∧
          t.seq.runState = (if s.seq.runState = .stopped then .stopped else .faulted) ∧
          t.seq.held = some .holdEnd ∧ t.drives = .off ∧ t.jack.phase = .hold ∧
          t.jack.stepIndex = s.jack.stepIndex ∧ t.jack.holdLength = some len ∧
          (s.watchQuiet = true → s.seq.runState = .running ∨ s.seq.runState = .paused →
            t.faults.taken.map (fun f => (f.kind, f.detail)) = some (.voidTest, .creep)) ∧
          t.currentEntry.map (fun f => (f.actualHold, f.k, f.outcome)) =
            some (len * 60, .void, .void))) ∧
    (creepCoefficient len
        (e.readings ++
          [{ index := i + 1, minutes := len, ext := s.extension, load := s.filtered .load }]) =
      .value k →
      (s.seq.runState = .running → s.boundaryClear = true → s.masked .creepExcess = true →
        (s.cfg Setup.creepLimit 0 : Nat) < k →
        (e.outcome = .extending ∨ x.extend = false ∨ len = 60) →
        (s.jack.schedule[s.jack.stepIndex]?).map ScheduleStep.kind = some .load →
        ∃ t, exec .holdEnd s = .next t ∧ t.seq.runState = .running ∧ .creepExcess ∈ t.faults.seen ∧
          t.jack.stepIndex = s.jack.stepIndex + 1 ∧ t.jack.holdClock = 0 ∧ t.drives = .off ∧
          t.faults.taken = s.faults.taken ∧ t.faults.pending = [] ∧
          (t.eval.results.find? fun f => f.index == s.jack.stepIndex).map
              (fun f => (f.actualHold, f.k, f.outcome)) =
            some (len * 60, .value k, if e.outcome = .extending then .extendedExcess else .excess)) ∧
      (s.seq.runState ≠ .running → k ≤ (s.cfg Setup.creepLimit 0 : Nat) →
        ∃ t, exec .holdEnd s = .next t ∧ t.seq.held = some .holdEnd ∧
          t.seq.runState = s.seq.runState ∧ t.jack.phase = .hold ∧ t.drives = s.drives ∧
          t.faults.taken = s.faults.taken ∧
          t.currentEntry.map (fun f => (f.actualHold, f.k, f.outcome)) =
            some (len * 60, .value k, if e.outcome = .extending then .extendedPass else .pass)) ∧
      ((s.cfg Setup.creepLimit 0 : Nat) < k → e.outcome = .inProgress → x.extend = true → len < 60 →
        ∃ t, exec .holdEnd s = .next t ∧ t.seq.held = s.seq.held ∧
          t.seq.runState = s.seq.runState ∧ t.drives = s.drives ∧
          t.jack = { s.jack with holdClock := len * 60, holdLength := some (extendedLength len) } ∧
          t.faults.taken = s.faults.taken ∧
          t.currentEntry.map (fun f => (f.actualHold, f.k, f.outcome)) =
            some (e.actualHold, .value k, .extending)) ∧
      (s.seq.runState ≠ .running → (s.cfg Setup.creepLimit 0 : Nat) < k →
        (e.outcome = .extending ∨ x.extend = false ∨ len = 60) →
        ∃ t, exec .holdEnd s = .next t ∧ t.seq.held = some .holdEnd ∧
          t.seq.runState = s.seq.runState ∧ .creepExcess ∈ t.faults.seen ∧
          t.faults.taken = s.faults.taken ∧
          (s.masked .creepExcess = false → .creepExcess ∈ t.faults.pending.map Prod.fst) ∧
          t.currentEntry.map (fun f => (f.actualHold, f.k, f.outcome)) =
            some (len * 60, .value k, if e.outcome = .extending then .extendedExcess else .excess)) ∧
      (s.seq.runState = .running → s.boundaryClear = true → s.masked .creepExcess = false →
        (s.cfg Setup.creepLimit 0 : Nat) < k →
        (e.outcome = .extending ∨ x.extend = false ∨ len = 60) →
        ∃ t, exec .holdEnd s = .next t ∧ t.seq.held = some .holdEnd ∧ t.seq.runState = .faulted ∧
          t.jack.stepIndex = s.jack.stepIndex ∧ t.jack.phase = .hold ∧ t.faults.pending = [] ∧
          (s.watchQuiet = true → t.faults.taken.map TakenFault.kind = some .creepExcess) ∧
          t.currentEntry.map (fun f => (f.actualHold, f.k, f.outcome)) =
            some (len * 60, .value k, if e.outcome = .extending then .extendedExcess else .excess)) ∧
      (s.seq.runState = .running → s.boundaryClear = true → k ≤ (s.cfg Setup.creepLimit 0 : Nat) →
        (s.jack.schedule[s.jack.stepIndex]?).map ScheduleStep.kind = some .load →
        ∃ t, exec .holdEnd s = .next t ∧ t.seq.runState = .running ∧
          t.jack.stepIndex = s.jack.stepIndex + 1 ∧ t.jack.holdClock = 0 ∧ t.drives = .off ∧
          (t.eval.results.find? fun f => f.index == s.jack.stepIndex).map
              (fun f => (f.actualHold, f.k, f.outcome)) =
            some (len * 60, .value k, if e.outcome = .extending then .extendedPass else .pass)))

/-- R94 to R97, R110 to R114: the grout gate and the claim. What a drawer is, the count of drawers, the total at the end of
the intent interval, and that end with room on the main and without; the end of a claim at its limit; the end of REST in each
run state; at a GP sample event a throttle, a third throttle under each mask, a reopen; at a GV sample event the end of the
stage on its volume. REST ends at a tick that finds 119 counted, whichever of R1 and R97 counts it (which one does is free,
log 39). -/
def Obligations.GroutTicksMoveTheClaim : Prop :=
  ∀ (r : GroutRecord) (c : Claim) (e : Entry) (p m : Nat) (g : Setup) (s : State),
    s.drivesLegal = true → s.seq.stage = .grout → s.grout.record = some r →
    s.seq.config = some g →
    (s.isDrawer e = true ↔ e.main = g.main ∧ e.flags.groutDraw = true ∧ e.overstay = false) ∧
    (s.drawers =
        s.table.entries.countP fun y => y.main == g.main && y.flags.groutDraw && !y.overstay) ∧
    (s.groutTotal =
        s.table.entries.countP fun y =>
          y.main == g.main &&
            ((y.flags.groutDraw && !y.overstay) ||
              (y.flags.groutPending && decide (y.station < g.station)))) ∧
    (s.boundaryClear = true → s.filtered .gp = some p → p ≤ r.limit →
      (s.seq.runState = .running → s.grout.phase = .intent → s.grout.claim = none →
        1 ≤ s.grout.intentTicks → (clocksAt s).groutTotal < s.cfg Setup.concurrency 0 →
        ∃ t, exec .groutIntentEnd s = .next t ∧ t.seq.runState = .running ∧ t.grout.phase = .draw ∧
          t.grout.claim = some { ticks := 0, throttles := 0 } ∧
          t.grout.record = some { r with claimsMade := min (r.claimsMade + 1) 255 } ∧
          t.drives = { Drives.off with grout := true } ∧ t.chans.drainOpen = false) ∧
      (s.seq.runState = .running → s.grout.phase = .intent → s.grout.claim = none →
        1 ≤ s.grout.intentTicks → s.cfg Setup.concurrency 0 ≤ (clocksAt s).groutTotal →
        s.cfg Setup.main 0 ≠ 0 →
        ∃ t, exec .groutIntentEnd s = .next t ∧ t.seq.runState = .running ∧ t.grout.claim = none ∧
          t.grout.phase =
            (if t.drawers < s.cfg Setup.concurrency 0 then .intent else .wait) ∧
          t.grout.record = some r ∧ t.drives = .off) ∧
      (s.grout.claim.isSome = true →
        s.cfg Setup.claimLimit 0 * 120 ≤ (s.grout.claim.map Claim.ticks).getD 0 + 1 →
        ∃ t, exec .claimLimit s = .next t ∧ t.seq.runState = s.seq.runState ∧
          t.seq.stage = .grout ∧ t.grout.claim = none ∧ t.grout.phase = .rest ∧
          t.grout.restTicks = 0 ∧ t.grout.record = some r ∧ t.drives = .off ∧
          t.chans.drainOpen = (s.drives.grout || s.chans.drainOpen) ∧ t.ownFlags.groutDraw = false) ∧
      (s.grout.claim = none → s.grout.phase = .rest → 119 ≤ s.grout.restTicks → s.seq.held = none →
        (s.seq.runState = .running → s.cfg Setup.main 0 ≠ 0 →
          ∃ t, exec .restEnd s = .next t ∧ t.seq.runState = .running ∧ t.grout.claim = none ∧
            t.grout.phase =
              (if t.drawers < s.cfg Setup.concurrency 0 then .intent else .wait) ∧
            t.grout.record = some r ∧ t.drives = .off) ∧
        (s.seq.runState = .running → s.cfg Setup.main 0 = 0 →
          ∃ t, exec .restEnd s = .next t ∧ t.seq.runState = .running ∧ t.grout.phase = .draw ∧
            t.grout.claim = some { ticks := 0, throttles := 0 } ∧
            t.grout.record = some { r with claimsMade := min (r.claimsMade + 1) 255 } ∧
            t.drives = { Drives.off with grout := true }) ∧
        (s.seq.runState = .paused →
          ∃ t, exec .restEnd s = .next t ∧ t.seq.runState = .paused ∧ t.grout.phase = .wait ∧
            t.grout.claim = none ∧ t.seq.held = none ∧ t.drives = .off) ∧
        (s.seq.runState = .faulted ∨ s.seq.runState = .stopped →
          ∃ t, exec .restEnd s = .next t ∧ t.seq.runState = s.seq.runState ∧ t.grout.phase = .rest ∧
            t.seq.held = some .restEnd ∧ t.drives = .off))) ∧
    (s.seq.runState = .running → s.grout.phase = .draw → s.grout.claim = some c →
      (takeSample (.gp m) s).filtered .gp = some p → s.faults.pending = [] →
      (p ≤ r.limit →
        ∃ t, exec (.sampleEvent (.gp m) none) s = .next t ∧ t.seq = s.seq ∧ t.grout = s.grout ∧
          t.faults = s.faults ∧ t.drives = { Drives.off with grout := true }) ∧
      (r.limit < p → c.throttles < 2 →
        ∃ t, exec (.sampleEvent (.gp m) none) s = .next t ∧ t.seq.runState = .running ∧
          t.seq.stage = .grout ∧ t.grout.phase = .throttled ∧
          t.grout.claim = some { c with throttles := c.throttles + 1 } ∧
          t.grout.record = some { r with throttles := min (r.throttles + 1) 65535 } ∧
          t.drives = .off ∧ t.chans.drainOpen = true ∧ t.faults = s.faults) ∧
      (r.limit < p → 2 ≤ c.throttles → s.masked .groutRefusal = false → s.watchQuiet = true →
        ∃ t, exec (.sampleEvent (.gp m) none) s = .next t ∧ t.seq.runState = .faulted ∧
          t.seq.stage = .grout ∧ t.seq.held = some .refusal ∧ t.grout.claim = none ∧
          t.grout.phase = .draw ∧ t.seq.progress = s.seq.progress ∧ t.drives = .off ∧
          t.grout.record = some { r with throttles := min (r.throttles + 1) 65535 } ∧
          .groutRefusal ∈ t.faults.seen ∧ t.faults.pending = [] ∧
          t.faults.taken.map TakenFault.kind = some .groutRefusal) ∧
      (r.limit < p → 2 ≤ c.throttles → s.masked .groutRefusal = true → s.watchQuiet = true →
        ∃ t, exec (.sampleEvent (.gp m) none) s = .next t ∧ t.seq.runState = .idle ∧
          t.seq.stage = .none ∧ t.seq.progress = .grouted ∧ t.grout.claim = none ∧
          t.grout.phase = .none ∧ t.drives = .off ∧
          t.seq.cure = { hours := 0, seconds := 0, running := true, half := false } ∧
          t.grout.record =
            some { r with throttles := min (r.throttles + 1) 65535, mark := .refused } ∧
          .groutRefusal ∈ t.faults.seen ∧ t.faults.pending = [])) ∧
    (s.seq.runState = .running → s.grout.phase = .throttled → s.grout.claim = some c →
      (takeSample (.gp m) s).filtered .gp = some p →
      (p < r.reopen → p ≤ r.limit → s.faults.pending = [] →
        ∃ t, exec (.sampleEvent (.gp m) none) s = .next t ∧ t.seq.runState = .running ∧
          t.grout = { s.grout with phase := .draw } ∧ t.faults = s.faults ∧
          t.drives = { Drives.off with grout := true } ∧ t.chans.drainOpen = false) ∧
      (r.reopen ≤ p →
        ∃ t, exec (.sampleEvent (.gp m) none) s = .next t ∧ t.seq = s.seq ∧ t.grout = s.grout ∧
          t.faults = s.faults ∧ t.drives = s.drives)) ∧
    ((s.seq.runState = .running ∨ s.seq.runState = .paused) → s.stageEndHeld = false →
      (takeSample .gv s).filtered .gv = some p →
      (r.target ≤ p → s.faults.pending = [] → s.watchQuiet = true →
        ∃ t, exec (.sampleEvent .gv none) s = .next t ∧ t.seq.runState = .idle ∧
          t.seq.stage = .none ∧ t.seq.progress = .grouted ∧ t.seq.jobClock = 0 ∧
          t.seq.cure = { hours := 0, seconds := 0, running := true, half := false } ∧
          t.grout.claim = none ∧ t.grout.phase = .none ∧ t.drives = .off ∧
          t.chans.drainOpen = (s.drives.grout || s.chans.drainOpen) ∧
          t.grout.record = some { r with mark := .complete }) ∧
      (p < r.target →
        ∃ t, exec (.sampleEvent .gv none) s = .next t ∧ t.seq = s.seq ∧ t.grout = s.grout ∧
          t.faults = s.faults ∧ t.drives = s.drives))

/-! ## The wall line, bit time by bit time

Each of the rows below is run on bit times `pre` and one last bit time `b`; `u` is the station as `pre` leaves it. -/

/-- R56, R68, R69: the line state follows the two runs; on entering BREAK the queue, the partial frame and the slot are
emptied and WALL_STOP is detected and taken; the break drive ends with ESTOP inactive and 66 bit times given. -/
def Obligations.LineStatesFollowTheRuns : Prop :=
  ∀ (pre : List BitTime) (b : BitTime) (s u : State), u = bitTimes pre s →
    (u.line.state ≠ .idle → 11 ≤ u.line.recRun → u.readsDominant b = false →
      ∃ t, exec (.lineIdle (pre ++ [b])) s = .next t ∧ t.line.state = .idle ∧
        t.line.domRun = 0 ∧ t.line.recRun = min (u.line.recRun + 1) 100 ∧
        t.line.assembling = none ∧ t.table.entries = u.table.entries ∧ t.port = u.port) ∧
    (u.line.state = .idle → u.readsDominant b = true →
      ∃ t, exec (.lineBusy (pre ++ [b])) s = .next t ∧ t.line.state = .busy ∧
        t.line.domRun = min (u.line.domRun + 1) 100 ∧ t.line.recRun = 0 ∧
        t.table.entries = u.table.entries ∧ t.port = u.port) ∧
    (u.line.state = .busy → 32 ≤ u.line.domRun → u.readsDominant b = true → u.standing = true →
      ∃ t, exec (.lineBreakDetect (pre ++ [b])) s = .next t ∧ t.line.state = .broken ∧
        t.line.queue = [] ∧ t.line.assembling = none ∧ t.line.slot = none ∧
        t.line.followOn = false ∧ t.line.lossCount = 0 ∧
        t.line.applying = u.line.applying.map (fun a => { a with counted := false }) ∧
        .wallStop ∈ t.faults.seen ∧ t.drives = .off ∧ t.seq.stage = u.seq.stage ∧
        t.table.entries = u.table.entries ∧ t.seq.progress = u.seq.progress ∧
        (u.seq.runState = .unconfigured → t.seq.runState = .unconfigured ∧ t.faults.taken = none) ∧
        (u.seq.runState ≠ .unconfigured →
          t.seq.runState = .stopped ∧ t.faults.taken.map TakenFault.kind = some .wallStop)) ∧
    (u.line.breakDrive = true → u.contacts.estop.active = false → 65 ≤ u.line.breakBits →
      ∃ t, exec (.breakDriveEnd (pre ++ [b])) s = .next t ∧ t.line.breakDrive = false ∧
        t.contacts = u.contacts ∧ t.table.entries = u.table.entries)

/-- R54, R58, R59: the character that a stop bit completes, and what it makes of the frame being assembled; a framing
error, a third noisy character and a mark discard a partial frame. -/
def Obligations.CharactersAssembleFrames : Prop :=
  ∀ (pre : List BitTime) (b : BitTime) (bits : List Bool) (noisy : Bool) (f : Assembly) (s u : State),
    u = bitTimes pre s → u.line.state = .busy → u.line.receiver = .character bits noisy →
    bits.length = 10 →
    (u.readsDominant b = false → u.line.recRun < 11 →
      (bits.getD 9 false = true →
        ∃ t, exec (.characterFormed (pre ++ [b])) s = .next t ∧ t.line.receiver = .waiting ∧
          t.line.assembling =
            some { bytes := [byteOf ((bits.drop 1).take 8)],
                   noisy := (noisy || u.readsNoisy b).toNat }) ∧
      (bits.getD 9 false = true → u.line.assembling = some f →
        exec (.frameDiscard (pre ++ [b])) s = exec (.characterFormed (pre ++ [b])) s) ∧
      (bits.getD 9 false = false → u.line.assembling = none →
        ∃ t, exec (.characterFormed (pre ++ [b])) s = .next t ∧ t.line.receiver = .waiting ∧
          t.line.assembling = none ∧ t.line.queue = u.line.queue) ∧
      (bits.getD 9 false = false → u.line.assembling = some f →
        f.noisy + (noisy || u.readsNoisy b).toNat < 3 → f.bytes.length < 14 →
        ∃ t, exec (.characterFormed (pre ++ [b])) s = .next t ∧ t.line.receiver = .waiting ∧
          t.line.assembling =
            some { bytes := f.bytes ++ [byteOf ((bits.drop 1).take 8)],
                   noisy := f.noisy + (noisy || u.readsNoisy b).toNat } ∧
          t.line.queue = u.line.queue) ∧
      (bits.getD 9 false = false → u.line.assembling = some f →
        3 ≤ f.noisy + (noisy || u.readsNoisy b).toNat →
        ∃ t, exec (.frameDiscard (pre ++ [b])) s = .next t ∧ t.line.receiver = .waiting ∧
          t.line.assembling = none ∧ t.line.queue = u.line.queue)) ∧
    (u.readsDominant b = true → u.line.domRun < 32 → u.line.assembling = some f →
      ∃ t, exec (.frameDiscard (pre ++ [b])) s = .next t ∧ t.line.receiver = .awaitRecessive ∧
        t.line.assembling = none ∧ t.line.queue = u.line.queue)

/-- R60, R61, R72: a completed frame of another station: before SETUP it is discarded; with a bad check or a full queue
LINE_FAULT is detected; otherwise it joins the queue, and the table begins applying the head if it was idle. -/
def Obligations.CompletedFramesJoinTheQueue : Prop :=
  ∀ (pre : List BitTime) (b : BitTime) (bits : List Bool) (noisy : Bool) (f : Assembly)
    (frame : List Byte) (s u : State),
    u = bitTimes pre s → u.line.state = .busy → u.line.recRun < 11 →
    u.line.receiver = .character bits noisy → bits.length = 10 → bits.getD 9 false = false →
    u.readsDominant b = false → (beginAttempt u).ownBit = none → u.line.assembling = some f →
    f.bytes.length = 14 → f.noisy + (noisy || u.readsNoisy b).toNat < 3 →
    frame = f.bytes ++ [byteOf ((bits.drop 1).take 8)] →
    ∃ t, exec (.frameComplete (pre ++ [b])) s = .next t ∧ t.line.assembling = none ∧
      t.line.receiver = .waiting ∧ t.line.slot = u.line.slot ∧ t.table = u.table ∧ t.seq = u.seq ∧
      (u.seq.config = none → t.line.queue = u.line.queue ∧ t.faults = u.faults) ∧
      (u.seq.config.isSome = true → crcBytes (frame.take 13) ≠ frame.drop 13 →
        t.line.queue = u.line.queue ∧ .lineFault ∈ t.faults.seen ∧
        t.faults = (detect .lineFault .check u).faults) ∧
      (u.seq.config.isSome = true → crcBytes (frame.take 13) = frame.drop 13 →
        4 ≤ u.line.queue.length →
        t.line.queue = u.line.queue ∧ .lineFault ∈ t.faults.seen ∧
        t.faults = (detect .lineFault .overrun u).faults) ∧
      (u.seq.config.isSome = true → crcBytes (frame.take 13) = frame.drop 13 →
        u.line.queue.length < 4 →
        t.line.queue = u.line.queue ++ [frame] ∧ t.faults = u.faults ∧
        (u.line.applying.isSome = true → t.line.applying = u.line.applying) ∧
        (u.line.applying = none →
          t.line.applying =
            (u.line.queue ++ [frame]).head?.map fun x => { frame := x, counted := true }))

/-- R62 to R67: a waiting notice begins its attempt in IDLE, a notice in back-off at its recessive run; a last bit read
back ends the attempt with the slot empty; a mismatch is a loss, which waits out a back-off, or drops the notice at the
sixteenth. That a follow-on notice takes over a back-off and is retried is the model's reading (log 18); an own driver that
fails at the first bit is left out here (log 35, log 41). -/
def Obligations.AttemptsAreWonOrLost : Prop :=
  ∀ (pre : List BitTime) (b : BitTime) (n : Slot) (k : Nat) (s u : State),
    u = bitTimes pre s → u.line.breakDrive = false → u.line.slot = some n →
    (u.line.state = .idle → n.status = .waiting → b.driverFails = false →
      ∃ t, exec (.attemptStart (pre ++ [b])) s = .next t ∧ t.line.state = .busy ∧
        t.line.slot = some { n with status := .sending 1 } ∧ t.line.lossCount = u.line.lossCount) ∧
    (u.line.state = .idle → n.status = .backoff → b.driverFails = false →
      12 + (u.cfg Setup.station 0 % 8 + 1) * 11 ≤ u.line.recRun →
      ∃ t, exec (.backoffEnd (pre ++ [b])) s = .next t ∧ t.line.state = .busy ∧
        t.line.slot = some { n with status := .sending 1 } ∧ t.line.lossCount = u.line.lossCount) ∧
    (n.status = .sending 164 → u.readsDominant b = false →
      ∃ t, exec (.attemptSuccess (pre ++ [b])) s = .next t ∧ t.line.lossCount = 0 ∧
        t.line.followOn = false ∧ t.line.queue = u.line.queue ∧ t.faults = u.faults ∧
        t.table.entries = u.table.entries ∧
        (u.line.followOn = false → t.line.slot = none ∧ t.table = u.table) ∧
        (u.line.followOn = true →
          t.line.slot.map Slot.status = some .waiting ∧
          t.table.ownSequence = (u.table.ownSequence + 1) % 256)) ∧
    (n.status = .sending k → u.readsDominant b ≠ frameBit n.frame k → u.line.domRun < 32 →
      u.line.lossCount < 15 →
      ∃ t, exec (.attemptLost (pre ++ [b])) s = .next t ∧ t.line.followOn = false ∧
        (u.line.followOn = false →
          t.line.lossCount = u.line.lossCount + 1 ∧ t.table = u.table ∧
          t.line.slot = (if n.retry = true then some { n with status := .backoff } else none)) ∧
        (u.line.followOn = true →
          t.line.lossCount = 0 ∧ t.table.ownSequence = (u.table.ownSequence + 1) % 256 ∧
          t.line.slot.map Slot.status =
            some (if n.retry = true then .backoff else .waiting))) ∧
    (n.status = .sending k → u.readsDominant b ≠ frameBit n.frame k → u.line.domRun < 32 →
      15 ≤ u.line.lossCount →
      ∃ t, exec (.noticeDropped (pre ++ [b])) s = .next t ∧ t.line.followOn = false ∧
        t.line.lossCount = 0 ∧ .lineFault ∈ t.faults.seen ∧
        (u.line.followOn = false → t.line.slot = none ∧ t.table = u.table) ∧
        (u.line.followOn = true →
          t.line.slot.map Slot.status = some .waiting ∧
          t.table.ownSequence = (u.table.ownSequence + 1) % 256))

/-! ## Notices -/

/-- R61, R76, R77, R78: the application of a frame completes: a clash or a malformed frame, a duplicate, a known station,
a new one with room, and one that meets a full table; no other entry moves. A full table gives up an entry that is out of
span and not on the own grout main (no entry is, where that main is 0): the one at the greatest bay distance, and of those at
one distance the one with the highest station number; with none to give up, LINE_FAULT is detected. -/
def Obligations.NoticesUpdateTheTable : Prop :=
  ∀ (a : Applying) (g : Setup) (n : Nat) (old : Entry) (s : State),
    s.line.applying = some a → s.seq.config = some g →
    ∃ t, exec .noticeApplied s = .next t ∧
      t.line.queue = (if a.counted = true then s.line.queue.drop 1 else s.line.queue) ∧
      t.line.applying = t.line.queue.head?.map (fun f => { frame := f, counted := true }) ∧
      t.port = s.port ∧ t.contacts = s.contacts ∧ t.seq.config = s.seq.config ∧
      ((entryOf g.claimLimit a.frame).station = g.station →
        t.table.entries = s.table.entries ∧ .lineFault ∈ t.faults.seen) ∧
      (frameWellFormed a.frame = false →
        t.table.entries = s.table.entries ∧ .lineFault ∈ t.faults.seen) ∧
      (frameWellFormed a.frame = true → (entryOf g.claimLimit a.frame).station ≠ g.station →
        (findEntry (entryOf g.claimLimit a.frame).station s.table.entries = some old →
          (old.sequence = (entryOf g.claimLimit a.frame).sequence →
            t.table.entries = s.table.entries) ∧
          (old.sequence ≠ (entryOf g.claimLimit a.frame).sequence →
            findEntry (entryOf g.claimLimit a.frame).station t.table.entries =
              some (entryOf g.claimLimit a.frame) ∧
            (n ≠ (entryOf g.claimLimit a.frame).station →
              findEntry n t.table.entries = findEntry n s.table.entries))) ∧
        (findEntry (entryOf g.claimLimit a.frame).station s.table.entries = none →
          (s.table.entries.length < 24 →
            findEntry (entryOf g.claimLimit a.frame).station t.table.entries =
              some (entryOf g.claimLimit a.frame) ∧
            (n ≠ (entryOf g.claimLimit a.frame).station →
              findEntry n t.table.entries = findEntry n s.table.entries)) ∧
          (24 ≤ s.table.entries.length →
            (∀ y ∈ s.table.entries, s.inSpan y = true ∨ (g.main ≠ 0 ∧ y.main = g.main)) →
            t.table.entries = s.table.entries ∧ .lineFault ∈ t.faults.seen) ∧
          (24 ≤ s.table.entries.length → old ∈ s.table.entries → s.inSpan old = false →
            (g.main = 0 ∨ old.main ≠ g.main) →
            (∀ y ∈ s.table.entries, s.inSpan y = false → (g.main = 0 ∨ y.main ≠ g.main) →
              ((y.bay : Int) - g.bay).natAbs < ((old.bay : Int) - g.bay).natAbs ∨
              (((y.bay : Int) - g.bay).natAbs = ((old.bay : Int) - g.bay).natAbs ∧
                y.station ≤ old.station)) →
            findEntry (entryOf g.claimLimit a.frame).station t.table.entries =
              some (entryOf g.claimLimit a.frame) ∧
            findEntry old.station t.table.entries = none ∧
            (n ≠ (entryOf g.claimLimit a.frame).station → n ≠ old.station →
              findEntry n t.table.entries = findEntry n s.table.entries))))

/-- R57, R82, R195: a notice formed by a station is fifteen bytes with a good check, and a station that hears it reads
from it exactly what was announced. -/
def Obligations.NoticesReadBackAsAnnounced : Prop :=
  ∀ (limit : Nat) (g : Setup) (s : State), s.seq.config = some g →
    1 ≤ g.station → g.station ≤ 63 → g.bay ≤ 999 → 1 ≤ g.row → g.row ≤ 8 → g.main ≤ 15 →
    (∀ v, s.filtered .load = some v → v ≤ 60000) → (∀ v, s.jack.lockedLoad = some v → v ≤ 60000) →
    s.claimAge < 65535 → s.table.ownSequence < 256 →
    (formNotice s).length = 15 ∧ crcBytes ((formNotice s).take 13) = (formNotice s).drop 13 ∧
    frameWellFormed (formNotice s) = true ∧
    entryOf limit (formNotice s) =
      { station := g.station, bay := g.bay, row := g.row, main := g.main
        phase := s.noticePhase, flags := s.ownFlags, load := s.filtered .load
        locked := some (if s.seq.progress = .locked then s.jack.lockedLoad.getD 0 else 0)
        drawAge := s.claimAge, sequence := s.table.ownSequence, age := 0, lapsed := false
        overstay := s.grout.claim.isSome && decide (limit * 60 + 60 < s.claimAge) }

/-! ## The log and the evaluator's figures -/

/-- R177, R182: a new record is the last; the records before it are the newest that leave room for it in 4096 bytes, and
it carries GAP exactly when one had to go. -/
def Obligations.TheLogKeepsTheNewestRecords : Prop :=
  ∀ (log : List LogRecord) (r : LogRecord),
    ∃ gone kept, log = gone ++ kept ∧
      appendRecord log r = kept ++ [{ r with gap := !gone.isEmpty }] ∧
      logUsed (appendRecord log r) ≤ 4096 ∧
      (gone ≠ [] → 4096 < logUsed (gone.drop (gone.length - 1) ++ kept) + r.size) ∧
      (r.field.isSome = true → r.event.isSome = true → r.size = 11) ∧
      (r.field = none → r.event = none → r.size = 4) ∧
      r.bytes.length = r.size

/-- R150, R151, R153, R156, R157: the evaluation pairs, the creep coefficient rounded to nearest with ties away from zero
and saturated, the extended lengths, the apparent free length rounded half up, and its outcome. -/
def Obligations.FiguresFollowTheirFormulas : Prop :=
  ∀ (sa sb : Int) (area modulus p x free bond : Nat), 100 ≤ p →
    [5, 10, 15, 20, 30, 45, 60].map pairStart = [1, 1, 1, 2, 3, 4, 6] ∧
    [5, 10, 15, 20, 30, 45, 60].map (fun n => logTable n - logTable (pairStart n)) =
      [6990, 10000, 11761, 10000, 10000, 10511, 10000] ∧
    [5, 10, 15, 20, 30, 45].map extendedLength = [15, 30, 45, 60, 60, 60] ∧
    (∀ d ∈ [6990, 10000, 10511, 11761],
      creepOf sb sa d = - creepOf sa sb d ∧ -32767 ≤ creepOf sa sb d ∧ creepOf sa sb d ≤ 32767 ∧
      (sa ≤ sb → 2 * (d : Int) * creepOf sa sb d ≤ 2 * (10000 * (sb - sa)) + d) ∧
      (sa ≤ sb → creepOf sa sb d < 32767 →
        2 * (10000 * (sb - sa)) + d < 2 * (d : Int) * (creepOf sa sb d + 1))) ∧
    (∃ l, apparentLength area modulus (some (p : Int)) (some (x : Int)) = some l ∧ 0 ≤ l ∧
      l ≤ 99999 ∧
      2 * (100000 * (p : Int)) * l ≤ 2 * ((area : Int) * modulus * x) + 100000 * p ∧
      (l < 99999 →
        2 * ((area : Int) * modulus * x) + 100000 * p < 2 * (100000 * (p : Int)) * (l + 1)) ∧
      (lengthOutcomeOf l (lengthLower free) (lengthUpper free bond) = .short ↔
        10 * l < 8 * (free : Int) - 8 * (free : Int) % 10) ∧
      (lengthOutcomeOf l (lengthLower free) (lengthUpper free bond) = .long ↔
        (free : Int) + (bond / 2 : Nat) < l) ∧
      (lengthOutcomeOf l (lengthLower free) (lengthUpper free bond) = .pass ↔
        (lengthLower free : Int) ≤ l ∧ l ≤ (lengthUpper free bond : Int))) ∧
    apparentLength area modulus none (some (x : Int)) = none ∧
    apparentLength area modulus (some 99) (some (x : Int)) = none ∧
    apparentLength area modulus (some (p : Int)) none = none ∧
    apparentLength area modulus (some (p : Int)) (some (-1)) = none
end

