-- ==== Sys2Proof/Laws/State.lean ====
section
/-!
SUPPORT. Small lemmas about the state: each named update read through each field of State, all true by rfl.
-/
namespace Sys2Proof.Machine

/-! ### State.setEntries -/

@[simp] theorem State.setEntries_chans (es : List Entry) (s : State) :
    (s.setEntries es).chans = s.chans := rfl
@[simp] theorem State.setEntries_contacts (es : List Entry) (s : State) :
    (s.setEntries es).contacts = s.contacts := rfl
@[simp] theorem State.setEntries_seq (es : List Entry) (s : State) :
    (s.setEntries es).seq = s.seq := rfl
@[simp] theorem State.setEntries_drives (es : List Entry) (s : State) :
    (s.setEntries es).drives = s.drives := rfl
@[simp] theorem State.setEntries_winch (es : List Entry) (s : State) :
    (s.setEntries es).winch = s.winch := rfl
@[simp] theorem State.setEntries_grout (es : List Entry) (s : State) :
    (s.setEntries es).grout = s.grout := rfl
@[simp] theorem State.setEntries_jack (es : List Entry) (s : State) :
    (s.setEntries es).jack = s.jack := rfl
@[simp] theorem State.setEntries_eval (es : List Entry) (s : State) :
    (s.setEntries es).eval = s.eval := rfl
@[simp] theorem State.setEntries_faults (es : List Entry) (s : State) :
    (s.setEntries es).faults = s.faults := rfl
@[simp] theorem State.setEntries_line (es : List Entry) (s : State) :
    (s.setEntries es).line = s.line := rfl
@[simp] theorem State.setEntries_table (es : List Entry) (s : State) :
    (s.setEntries es).table = { s.table with entries := es } := rfl
@[simp] theorem State.setEntries_log (es : List Entry) (s : State) :
    (s.setEntries es).log = s.log := rfl
@[simp] theorem State.setEntries_port (es : List Entry) (s : State) :
    (s.setEntries es).port = s.port := rfl
@[simp] theorem State.setEntries_freeCount (es : List Entry) (s : State) :
    (s.setEntries es).freeCount = s.freeCount := rfl
@[simp] theorem State.setEntries_pending (es : List Entry) (s : State) :
    (s.setEntries es).pending = s.pending := rfl

/-! ### State.updateChan -/

@[simp] theorem State.updateChan_chans (c : ChannelName) (f : Channel → Channel) (s : State) :
    (s.updateChan c f).chans = s.chans.update f c := rfl
@[simp] theorem State.updateChan_contacts (c : ChannelName) (f : Channel → Channel) (s : State) :
    (s.updateChan c f).contacts = s.contacts := rfl
@[simp] theorem State.updateChan_seq (c : ChannelName) (f : Channel → Channel) (s : State) :
    (s.updateChan c f).seq = s.seq := rfl
@[simp] theorem State.updateChan_drives (c : ChannelName) (f : Channel → Channel) (s : State) :
    (s.updateChan c f).drives = s.drives := rfl
@[simp] theorem State.updateChan_winch (c : ChannelName) (f : Channel → Channel) (s : State) :
    (s.updateChan c f).winch = s.winch := rfl
@[simp] theorem State.updateChan_grout (c : ChannelName) (f : Channel → Channel) (s : State) :
    (s.updateChan c f).grout = s.grout := rfl
@[simp] theorem State.updateChan_jack (c : ChannelName) (f : Channel → Channel) (s : State) :
    (s.updateChan c f).jack = s.jack := rfl
@[simp] theorem State.updateChan_eval (c : ChannelName) (f : Channel → Channel) (s : State) :
    (s.updateChan c f).eval = s.eval := rfl
@[simp] theorem State.updateChan_faults (c : ChannelName) (f : Channel → Channel) (s : State) :
    (s.updateChan c f).faults = s.faults := rfl
@[simp] theorem State.updateChan_line (c : ChannelName) (f : Channel → Channel) (s : State) :
    (s.updateChan c f).line = s.line := rfl
@[simp] theorem State.updateChan_table (c : ChannelName) (f : Channel → Channel) (s : State) :
    (s.updateChan c f).table = s.table := rfl
@[simp] theorem State.updateChan_log (c : ChannelName) (f : Channel → Channel) (s : State) :
    (s.updateChan c f).log = s.log := rfl
@[simp] theorem State.updateChan_port (c : ChannelName) (f : Channel → Channel) (s : State) :
    (s.updateChan c f).port = s.port := rfl
@[simp] theorem State.updateChan_freeCount (c : ChannelName) (f : Channel → Channel) (s : State) :
    (s.updateChan c f).freeCount = s.freeCount := rfl
@[simp] theorem State.updateChan_pending (c : ChannelName) (f : Channel → Channel) (s : State) :
    (s.updateChan c f).pending = s.pending := rfl

/-! ### setGroutPhase -/

@[simp] theorem setGroutPhase_chans (p : GroutPhase) (s : State) :
    (setGroutPhase p s).chans = s.chans := rfl
@[simp] theorem setGroutPhase_contacts (p : GroutPhase) (s : State) :
    (setGroutPhase p s).contacts = s.contacts := rfl
@[simp] theorem setGroutPhase_seq (p : GroutPhase) (s : State) :
    (setGroutPhase p s).seq = s.seq := rfl
@[simp] theorem setGroutPhase_drives (p : GroutPhase) (s : State) :
    (setGroutPhase p s).drives = s.drives := rfl
@[simp] theorem setGroutPhase_winch (p : GroutPhase) (s : State) :
    (setGroutPhase p s).winch = s.winch := rfl
@[simp] theorem setGroutPhase_grout (p : GroutPhase) (s : State) :
    (setGroutPhase p s).grout = { s.grout with phase := p } := rfl
@[simp] theorem setGroutPhase_jack (p : GroutPhase) (s : State) :
    (setGroutPhase p s).jack = s.jack := rfl
@[simp] theorem setGroutPhase_eval (p : GroutPhase) (s : State) :
    (setGroutPhase p s).eval = s.eval := rfl
@[simp] theorem setGroutPhase_faults (p : GroutPhase) (s : State) :
    (setGroutPhase p s).faults = s.faults := rfl
@[simp] theorem setGroutPhase_line (p : GroutPhase) (s : State) :
    (setGroutPhase p s).line = s.line := rfl
@[simp] theorem setGroutPhase_table (p : GroutPhase) (s : State) :
    (setGroutPhase p s).table = s.table := rfl
@[simp] theorem setGroutPhase_log (p : GroutPhase) (s : State) :
    (setGroutPhase p s).log = s.log := rfl
@[simp] theorem setGroutPhase_port (p : GroutPhase) (s : State) :
    (setGroutPhase p s).port = s.port := rfl
@[simp] theorem setGroutPhase_freeCount (p : GroutPhase) (s : State) :
    (setGroutPhase p s).freeCount = s.freeCount := rfl
@[simp] theorem setGroutPhase_pending (p : GroutPhase) (s : State) :
    (setGroutPhase p s).pending = s.pending := rfl

/-! ### setRunState -/

@[simp] theorem setRunState_chans (r : RunState) (s : State) :
    (setRunState r s).chans = s.chans := rfl
@[simp] theorem setRunState_contacts (r : RunState) (s : State) :
    (setRunState r s).contacts = s.contacts := rfl
@[simp] theorem setRunState_seq (r : RunState) (s : State) :
    (setRunState r s).seq = { s.seq with runState := r } := rfl
@[simp] theorem setRunState_drives (r : RunState) (s : State) :
    (setRunState r s).drives = s.drives := rfl
@[simp] theorem setRunState_winch (r : RunState) (s : State) :
    (setRunState r s).winch = s.winch := rfl
@[simp] theorem setRunState_grout (r : RunState) (s : State) :
    (setRunState r s).grout = s.grout := rfl
@[simp] theorem setRunState_jack (r : RunState) (s : State) :
    (setRunState r s).jack = s.jack := rfl
@[simp] theorem setRunState_eval (r : RunState) (s : State) :
    (setRunState r s).eval = s.eval := rfl
@[simp] theorem setRunState_faults (r : RunState) (s : State) :
    (setRunState r s).faults = s.faults := rfl
@[simp] theorem setRunState_line (r : RunState) (s : State) :
    (setRunState r s).line = s.line := rfl
@[simp] theorem setRunState_table (r : RunState) (s : State) :
    (setRunState r s).table = s.table := rfl
@[simp] theorem setRunState_log (r : RunState) (s : State) :
    (setRunState r s).log = s.log := rfl
@[simp] theorem setRunState_port (r : RunState) (s : State) :
    (setRunState r s).port = s.port := rfl
@[simp] theorem setRunState_freeCount (r : RunState) (s : State) :
    (setRunState r s).freeCount = s.freeCount := rfl
@[simp] theorem setRunState_pending (r : RunState) (s : State) :
    (setRunState r s).pending = s.pending := rfl

/-! ### seeKind -/

@[simp] theorem seeKind_chans (k : FaultKind) (s : State) :
    (seeKind k s).chans = s.chans := rfl
@[simp] theorem seeKind_contacts (k : FaultKind) (s : State) :
    (seeKind k s).contacts = s.contacts := rfl
@[simp] theorem seeKind_seq (k : FaultKind) (s : State) :
    (seeKind k s).seq = s.seq := rfl
@[simp] theorem seeKind_drives (k : FaultKind) (s : State) :
    (seeKind k s).drives = s.drives := rfl
@[simp] theorem seeKind_winch (k : FaultKind) (s : State) :
    (seeKind k s).winch = s.winch := rfl
@[simp] theorem seeKind_grout (k : FaultKind) (s : State) :
    (seeKind k s).grout = s.grout := rfl
@[simp] theorem seeKind_jack (k : FaultKind) (s : State) :
    (seeKind k s).jack = s.jack := rfl
@[simp] theorem seeKind_eval (k : FaultKind) (s : State) :
    (seeKind k s).eval = s.eval := rfl
@[simp] theorem seeKind_faults (k : FaultKind) (s : State) :
    (seeKind k s).faults = { s.faults with seen := insertKind k s.faults.seen } := rfl
@[simp] theorem seeKind_line (k : FaultKind) (s : State) :
    (seeKind k s).line = s.line := rfl
@[simp] theorem seeKind_table (k : FaultKind) (s : State) :
    (seeKind k s).table = s.table := rfl
@[simp] theorem seeKind_log (k : FaultKind) (s : State) :
    (seeKind k s).log = s.log := rfl
@[simp] theorem seeKind_port (k : FaultKind) (s : State) :
    (seeKind k s).port = s.port := rfl
@[simp] theorem seeKind_freeCount (k : FaultKind) (s : State) :
    (seeKind k s).freeCount = s.freeCount := rfl
@[simp] theorem seeKind_pending (k : FaultKind) (s : State) :
    (seeKind k s).pending = s.pending := rfl

/-! ### pendKind -/

@[simp] theorem pendKind_chans (k : FaultKind) (d : Detail) (s : State) :
    (pendKind k d s).chans = s.chans := rfl
@[simp] theorem pendKind_contacts (k : FaultKind) (d : Detail) (s : State) :
    (pendKind k d s).contacts = s.contacts := rfl
@[simp] theorem pendKind_seq (k : FaultKind) (d : Detail) (s : State) :
    (pendKind k d s).seq = s.seq := rfl
@[simp] theorem pendKind_drives (k : FaultKind) (d : Detail) (s : State) :
    (pendKind k d s).drives = s.drives := rfl
@[simp] theorem pendKind_winch (k : FaultKind) (d : Detail) (s : State) :
    (pendKind k d s).winch = s.winch := rfl
@[simp] theorem pendKind_grout (k : FaultKind) (d : Detail) (s : State) :
    (pendKind k d s).grout = s.grout := rfl
@[simp] theorem pendKind_jack (k : FaultKind) (d : Detail) (s : State) :
    (pendKind k d s).jack = s.jack := rfl
@[simp] theorem pendKind_eval (k : FaultKind) (d : Detail) (s : State) :
    (pendKind k d s).eval = s.eval := rfl
@[simp] theorem pendKind_faults (k : FaultKind) (d : Detail) (s : State) :
    (pendKind k d s).faults = { s.faults with pending := insertPending k d s.faults.pending } := rfl
@[simp] theorem pendKind_line (k : FaultKind) (d : Detail) (s : State) :
    (pendKind k d s).line = s.line := rfl
@[simp] theorem pendKind_table (k : FaultKind) (d : Detail) (s : State) :
    (pendKind k d s).table = s.table := rfl
@[simp] theorem pendKind_log (k : FaultKind) (d : Detail) (s : State) :
    (pendKind k d s).log = s.log := rfl
@[simp] theorem pendKind_port (k : FaultKind) (d : Detail) (s : State) :
    (pendKind k d s).port = s.port := rfl
@[simp] theorem pendKind_freeCount (k : FaultKind) (d : Detail) (s : State) :
    (pendKind k d s).freeCount = s.freeCount := rfl
@[simp] theorem pendKind_pending (k : FaultKind) (d : Detail) (s : State) :
    (pendKind k d s).pending = s.pending := rfl

/-! ### clearTaken -/

@[simp] theorem clearTaken_chans (s : State) :
    (clearTaken s).chans = s.chans := rfl
@[simp] theorem clearTaken_contacts (s : State) :
    (clearTaken s).contacts = s.contacts := rfl
@[simp] theorem clearTaken_seq (s : State) :
    (clearTaken s).seq = s.seq := rfl
@[simp] theorem clearTaken_drives (s : State) :
    (clearTaken s).drives = s.drives := rfl
@[simp] theorem clearTaken_winch (s : State) :
    (clearTaken s).winch = s.winch := rfl
@[simp] theorem clearTaken_grout (s : State) :
    (clearTaken s).grout = s.grout := rfl
@[simp] theorem clearTaken_jack (s : State) :
    (clearTaken s).jack = s.jack := rfl
@[simp] theorem clearTaken_eval (s : State) :
    (clearTaken s).eval = s.eval := rfl
@[simp] theorem clearTaken_faults (s : State) :
    (clearTaken s).faults = { s.faults with taken := none } := rfl
@[simp] theorem clearTaken_line (s : State) :
    (clearTaken s).line = s.line := rfl
@[simp] theorem clearTaken_table (s : State) :
    (clearTaken s).table = s.table := rfl
@[simp] theorem clearTaken_log (s : State) :
    (clearTaken s).log = s.log := rfl
@[simp] theorem clearTaken_port (s : State) :
    (clearTaken s).port = s.port := rfl
@[simp] theorem clearTaken_freeCount (s : State) :
    (clearTaken s).freeCount = s.freeCount := rfl
@[simp] theorem clearTaken_pending (s : State) :
    (clearTaken s).pending = s.pending := rfl

/-! ### seenCleared -/

@[simp] theorem seenCleared_chans (s : State) :
    (seenCleared s).chans = s.chans := rfl
@[simp] theorem seenCleared_contacts (s : State) :
    (seenCleared s).contacts = s.contacts := rfl
@[simp] theorem seenCleared_seq (s : State) :
    (seenCleared s).seq = s.seq := rfl
@[simp] theorem seenCleared_drives (s : State) :
    (seenCleared s).drives = s.drives := rfl
@[simp] theorem seenCleared_winch (s : State) :
    (seenCleared s).winch = s.winch := rfl
@[simp] theorem seenCleared_grout (s : State) :
    (seenCleared s).grout = s.grout := rfl
@[simp] theorem seenCleared_jack (s : State) :
    (seenCleared s).jack = s.jack := rfl
@[simp] theorem seenCleared_eval (s : State) :
    (seenCleared s).eval = s.eval := rfl
@[simp] theorem seenCleared_faults (s : State) :
    (seenCleared s).faults = { s.faults with seen := [] } := rfl
@[simp] theorem seenCleared_line (s : State) :
    (seenCleared s).line = s.line := rfl
@[simp] theorem seenCleared_table (s : State) :
    (seenCleared s).table = s.table := rfl
@[simp] theorem seenCleared_log (s : State) :
    (seenCleared s).log = s.log := rfl
@[simp] theorem seenCleared_port (s : State) :
    (seenCleared s).port = s.port := rfl
@[simp] theorem seenCleared_freeCount (s : State) :
    (seenCleared s).freeCount = s.freeCount := rfl
@[simp] theorem seenCleared_pending (s : State) :
    (seenCleared s).pending = s.pending := rfl

/-! ### winchOff -/

@[simp] theorem winchOff_chans (s : State) :
    (winchOff s).chans = s.chans := rfl
@[simp] theorem winchOff_contacts (s : State) :
    (winchOff s).contacts = s.contacts := rfl
@[simp] theorem winchOff_seq (s : State) :
    (winchOff s).seq = s.seq := rfl
@[simp] theorem winchOff_drives (s : State) :
    (winchOff s).drives = { s.drives with winch := false } := rfl
@[simp] theorem winchOff_winch (s : State) :
    (winchOff s).winch = s.winch := rfl
@[simp] theorem winchOff_grout (s : State) :
    (winchOff s).grout = s.grout := rfl
@[simp] theorem winchOff_jack (s : State) :
    (winchOff s).jack = s.jack := rfl
@[simp] theorem winchOff_eval (s : State) :
    (winchOff s).eval = s.eval := rfl
@[simp] theorem winchOff_faults (s : State) :
    (winchOff s).faults = s.faults := rfl
@[simp] theorem winchOff_line (s : State) :
    (winchOff s).line = s.line := rfl
@[simp] theorem winchOff_table (s : State) :
    (winchOff s).table = s.table := rfl
@[simp] theorem winchOff_log (s : State) :
    (winchOff s).log = s.log := rfl
@[simp] theorem winchOff_port (s : State) :
    (winchOff s).port = s.port := rfl
@[simp] theorem winchOff_freeCount (s : State) :
    (winchOff s).freeCount = s.freeCount := rfl
@[simp] theorem winchOff_pending (s : State) :
    (winchOff s).pending = s.pending := rfl

/-! ### openGrout -/

@[simp] theorem openGrout_chans (s : State) :
    (openGrout s).chans = { s.chans with drainOpen := false } := rfl
@[simp] theorem openGrout_contacts (s : State) :
    (openGrout s).contacts = s.contacts := rfl
@[simp] theorem openGrout_seq (s : State) :
    (openGrout s).seq = s.seq := rfl
@[simp] theorem openGrout_drives (s : State) :
    (openGrout s).drives = { s.drives with grout := true } := rfl
@[simp] theorem openGrout_winch (s : State) :
    (openGrout s).winch = s.winch := rfl
@[simp] theorem openGrout_grout (s : State) :
    (openGrout s).grout = s.grout := rfl
@[simp] theorem openGrout_jack (s : State) :
    (openGrout s).jack = s.jack := rfl
@[simp] theorem openGrout_eval (s : State) :
    (openGrout s).eval = s.eval := rfl
@[simp] theorem openGrout_faults (s : State) :
    (openGrout s).faults = s.faults := rfl
@[simp] theorem openGrout_line (s : State) :
    (openGrout s).line = s.line := rfl
@[simp] theorem openGrout_table (s : State) :
    (openGrout s).table = s.table := rfl
@[simp] theorem openGrout_log (s : State) :
    (openGrout s).log = s.log := rfl
@[simp] theorem openGrout_port (s : State) :
    (openGrout s).port = s.port := rfl
@[simp] theorem openGrout_freeCount (s : State) :
    (openGrout s).freeCount = s.freeCount := rfl
@[simp] theorem openGrout_pending (s : State) :
    (openGrout s).pending = s.pending := rfl

/-! ### resetGateTimer -/

@[simp] theorem resetGateTimer_chans (s : State) :
    (resetGateTimer s).chans = s.chans := rfl
@[simp] theorem resetGateTimer_contacts (s : State) :
    (resetGateTimer s).contacts = s.contacts := rfl
@[simp] theorem resetGateTimer_seq (s : State) :
    (resetGateTimer s).seq = s.seq := rfl
@[simp] theorem resetGateTimer_drives (s : State) :
    (resetGateTimer s).drives = s.drives := rfl
@[simp] theorem resetGateTimer_winch (s : State) :
    (resetGateTimer s).winch = s.winch := rfl
@[simp] theorem resetGateTimer_grout (s : State) :
    (resetGateTimer s).grout = s.grout := rfl
@[simp] theorem resetGateTimer_jack (s : State) :
    (resetGateTimer s).jack = s.jack := rfl
@[simp] theorem resetGateTimer_eval (s : State) :
    (resetGateTimer s).eval = s.eval := rfl
@[simp] theorem resetGateTimer_faults (s : State) :
    (resetGateTimer s).faults = s.faults := rfl
@[simp] theorem resetGateTimer_line (s : State) :
    (resetGateTimer s).line = s.line := rfl
@[simp] theorem resetGateTimer_table (s : State) :
    (resetGateTimer s).table = { s.table with gateTimer := 0 } := rfl
@[simp] theorem resetGateTimer_log (s : State) :
    (resetGateTimer s).log = s.log := rfl
@[simp] theorem resetGateTimer_port (s : State) :
    (resetGateTimer s).port = s.port := rfl
@[simp] theorem resetGateTimer_freeCount (s : State) :
    (resetGateTimer s).freeCount = s.freeCount := rfl
@[simp] theorem resetGateTimer_pending (s : State) :
    (resetGateTimer s).pending = s.pending := rfl

/-! ### updateWinch -/

@[simp] theorem updateWinch_chans (f : WinchRecord → WinchRecord) (s : State) :
    (updateWinch f s).chans = s.chans := rfl
@[simp] theorem updateWinch_contacts (f : WinchRecord → WinchRecord) (s : State) :
    (updateWinch f s).contacts = s.contacts := rfl
@[simp] theorem updateWinch_seq (f : WinchRecord → WinchRecord) (s : State) :
    (updateWinch f s).seq = s.seq := rfl
@[simp] theorem updateWinch_drives (f : WinchRecord → WinchRecord) (s : State) :
    (updateWinch f s).drives = s.drives := rfl
@[simp] theorem updateWinch_winch (f : WinchRecord → WinchRecord) (s : State) :
    (updateWinch f s).winch = s.winch.map f := rfl
@[simp] theorem updateWinch_grout (f : WinchRecord → WinchRecord) (s : State) :
    (updateWinch f s).grout = s.grout := rfl
@[simp] theorem updateWinch_jack (f : WinchRecord → WinchRecord) (s : State) :
    (updateWinch f s).jack = s.jack := rfl
@[simp] theorem updateWinch_eval (f : WinchRecord → WinchRecord) (s : State) :
    (updateWinch f s).eval = s.eval := rfl
@[simp] theorem updateWinch_faults (f : WinchRecord → WinchRecord) (s : State) :
    (updateWinch f s).faults = s.faults := rfl
@[simp] theorem updateWinch_line (f : WinchRecord → WinchRecord) (s : State) :
    (updateWinch f s).line = s.line := rfl
@[simp] theorem updateWinch_table (f : WinchRecord → WinchRecord) (s : State) :
    (updateWinch f s).table = s.table := rfl
@[simp] theorem updateWinch_log (f : WinchRecord → WinchRecord) (s : State) :
    (updateWinch f s).log = s.log := rfl
@[simp] theorem updateWinch_port (f : WinchRecord → WinchRecord) (s : State) :
    (updateWinch f s).port = s.port := rfl
@[simp] theorem updateWinch_freeCount (f : WinchRecord → WinchRecord) (s : State) :
    (updateWinch f s).freeCount = s.freeCount := rfl
@[simp] theorem updateWinch_pending (f : WinchRecord → WinchRecord) (s : State) :
    (updateWinch f s).pending = s.pending := rfl

/-! ### updateGroutRecord -/

@[simp] theorem updateGroutRecord_chans (f : GroutRecord → GroutRecord) (s : State) :
    (updateGroutRecord f s).chans = s.chans := rfl
@[simp] theorem updateGroutRecord_contacts (f : GroutRecord → GroutRecord) (s : State) :
    (updateGroutRecord f s).contacts = s.contacts := rfl
@[simp] theorem updateGroutRecord_seq (f : GroutRecord → GroutRecord) (s : State) :
    (updateGroutRecord f s).seq = s.seq := rfl
@[simp] theorem updateGroutRecord_drives (f : GroutRecord → GroutRecord) (s : State) :
    (updateGroutRecord f s).drives = s.drives := rfl
@[simp] theorem updateGroutRecord_winch (f : GroutRecord → GroutRecord) (s : State) :
    (updateGroutRecord f s).winch = s.winch := rfl
@[simp] theorem updateGroutRecord_grout (f : GroutRecord → GroutRecord) (s : State) :
    (updateGroutRecord f s).grout = { s.grout with record := s.grout.record.map f } := rfl
@[simp] theorem updateGroutRecord_jack (f : GroutRecord → GroutRecord) (s : State) :
    (updateGroutRecord f s).jack = s.jack := rfl
@[simp] theorem updateGroutRecord_eval (f : GroutRecord → GroutRecord) (s : State) :
    (updateGroutRecord f s).eval = s.eval := rfl
@[simp] theorem updateGroutRecord_faults (f : GroutRecord → GroutRecord) (s : State) :
    (updateGroutRecord f s).faults = s.faults := rfl
@[simp] theorem updateGroutRecord_line (f : GroutRecord → GroutRecord) (s : State) :
    (updateGroutRecord f s).line = s.line := rfl
@[simp] theorem updateGroutRecord_table (f : GroutRecord → GroutRecord) (s : State) :
    (updateGroutRecord f s).table = s.table := rfl
@[simp] theorem updateGroutRecord_log (f : GroutRecord → GroutRecord) (s : State) :
    (updateGroutRecord f s).log = s.log := rfl
@[simp] theorem updateGroutRecord_port (f : GroutRecord → GroutRecord) (s : State) :
    (updateGroutRecord f s).port = s.port := rfl
@[simp] theorem updateGroutRecord_freeCount (f : GroutRecord → GroutRecord) (s : State) :
    (updateGroutRecord f s).freeCount = s.freeCount := rfl
@[simp] theorem updateGroutRecord_pending (f : GroutRecord → GroutRecord) (s : State) :
    (updateGroutRecord f s).pending = s.pending := rfl

/-! ### updateEntry -/

@[simp] theorem updateEntry_chans (f : StepEntry → StepEntry) (s : State) :
    (updateEntry f s).chans = s.chans := rfl
@[simp] theorem updateEntry_contacts (f : StepEntry → StepEntry) (s : State) :
    (updateEntry f s).contacts = s.contacts := rfl
@[simp] theorem updateEntry_seq (f : StepEntry → StepEntry) (s : State) :
    (updateEntry f s).seq = s.seq := rfl
@[simp] theorem updateEntry_drives (f : StepEntry → StepEntry) (s : State) :
    (updateEntry f s).drives = s.drives := rfl
@[simp] theorem updateEntry_winch (f : StepEntry → StepEntry) (s : State) :
    (updateEntry f s).winch = s.winch := rfl
@[simp] theorem updateEntry_grout (f : StepEntry → StepEntry) (s : State) :
    (updateEntry f s).grout = s.grout := rfl
@[simp] theorem updateEntry_jack (f : StepEntry → StepEntry) (s : State) :
    (updateEntry f s).jack = s.jack := rfl
@[simp] theorem updateEntry_faults (f : StepEntry → StepEntry) (s : State) :
    (updateEntry f s).faults = s.faults := rfl
@[simp] theorem updateEntry_line (f : StepEntry → StepEntry) (s : State) :
    (updateEntry f s).line = s.line := rfl
@[simp] theorem updateEntry_table (f : StepEntry → StepEntry) (s : State) :
    (updateEntry f s).table = s.table := rfl
@[simp] theorem updateEntry_log (f : StepEntry → StepEntry) (s : State) :
    (updateEntry f s).log = s.log := rfl
@[simp] theorem updateEntry_port (f : StepEntry → StepEntry) (s : State) :
    (updateEntry f s).port = s.port := rfl
@[simp] theorem updateEntry_freeCount (f : StepEntry → StepEntry) (s : State) :
    (updateEntry f s).freeCount = s.freeCount := rfl
@[simp] theorem updateEntry_pending (f : StepEntry → StepEntry) (s : State) :
    (updateEntry f s).pending = s.pending := rfl

/-! ### updateSummary -/

@[simp] theorem updateSummary_chans (f : JobSummary → JobSummary) (s : State) :
    (updateSummary f s).chans = s.chans := rfl
@[simp] theorem updateSummary_contacts (f : JobSummary → JobSummary) (s : State) :
    (updateSummary f s).contacts = s.contacts := rfl
@[simp] theorem updateSummary_seq (f : JobSummary → JobSummary) (s : State) :
    (updateSummary f s).seq = s.seq := rfl
@[simp] theorem updateSummary_drives (f : JobSummary → JobSummary) (s : State) :
    (updateSummary f s).drives = s.drives := rfl
@[simp] theorem updateSummary_winch (f : JobSummary → JobSummary) (s : State) :
    (updateSummary f s).winch = s.winch := rfl
@[simp] theorem updateSummary_grout (f : JobSummary → JobSummary) (s : State) :
    (updateSummary f s).grout = s.grout := rfl
@[simp] theorem updateSummary_jack (f : JobSummary → JobSummary) (s : State) :
    (updateSummary f s).jack = s.jack := rfl
@[simp] theorem updateSummary_eval (f : JobSummary → JobSummary) (s : State) :
    (updateSummary f s).eval = { s.eval with summary := f s.eval.summary } := rfl
@[simp] theorem updateSummary_faults (f : JobSummary → JobSummary) (s : State) :
    (updateSummary f s).faults = s.faults := rfl
@[simp] theorem updateSummary_line (f : JobSummary → JobSummary) (s : State) :
    (updateSummary f s).line = s.line := rfl
@[simp] theorem updateSummary_table (f : JobSummary → JobSummary) (s : State) :
    (updateSummary f s).table = s.table := rfl
@[simp] theorem updateSummary_log (f : JobSummary → JobSummary) (s : State) :
    (updateSummary f s).log = s.log := rfl
@[simp] theorem updateSummary_port (f : JobSummary → JobSummary) (s : State) :
    (updateSummary f s).port = s.port := rfl
@[simp] theorem updateSummary_freeCount (f : JobSummary → JobSummary) (s : State) :
    (updateSummary f s).freeCount = s.freeCount := rfl
@[simp] theorem updateSummary_pending (f : JobSummary → JobSummary) (s : State) :
    (updateSummary f s).pending = s.pending := rfl

/-! ### setDatum -/

@[simp] theorem setDatum_chans (s : State) :
    (setDatum s).chans = s.chans := rfl
@[simp] theorem setDatum_contacts (s : State) :
    (setDatum s).contacts = s.contacts := rfl
@[simp] theorem setDatum_seq (s : State) :
    (setDatum s).seq = s.seq := rfl
@[simp] theorem setDatum_drives (s : State) :
    (setDatum s).drives = s.drives := rfl
@[simp] theorem setDatum_winch (s : State) :
    (setDatum s).winch = s.winch := rfl
@[simp] theorem setDatum_grout (s : State) :
    (setDatum s).grout = s.grout := rfl
@[simp] theorem setDatum_jack (s : State) :
    (setDatum s).jack = { s.jack with datum := some (s.filtered .ext) } := rfl
@[simp] theorem setDatum_eval (s : State) :
    (setDatum s).eval = s.eval := rfl
@[simp] theorem setDatum_faults (s : State) :
    (setDatum s).faults = s.faults := rfl
@[simp] theorem setDatum_line (s : State) :
    (setDatum s).line = s.line := rfl
@[simp] theorem setDatum_table (s : State) :
    (setDatum s).table = s.table := rfl
@[simp] theorem setDatum_log (s : State) :
    (setDatum s).log = s.log := rfl
@[simp] theorem setDatum_port (s : State) :
    (setDatum s).port = s.port := rfl
@[simp] theorem setDatum_freeCount (s : State) :
    (setDatum s).freeCount = s.freeCount := rfl
@[simp] theorem setDatum_pending (s : State) :
    (setDatum s).pending = s.pending := rfl

/-! ### leaveHold -/

@[simp] theorem leaveHold_chans (s : State) :
    (leaveHold s).chans = s.chans := rfl
@[simp] theorem leaveHold_contacts (s : State) :
    (leaveHold s).contacts = s.contacts := rfl
@[simp] theorem leaveHold_seq (s : State) :
    (leaveHold s).seq = s.seq := rfl
@[simp] theorem leaveHold_drives (s : State) :
    (leaveHold s).drives = { s.drives with raise := false } := rfl
@[simp] theorem leaveHold_winch (s : State) :
    (leaveHold s).winch = s.winch := rfl
@[simp] theorem leaveHold_grout (s : State) :
    (leaveHold s).grout = s.grout := rfl
@[simp] theorem leaveHold_eval (s : State) :
    (leaveHold s).eval = s.eval := rfl
@[simp] theorem leaveHold_faults (s : State) :
    (leaveHold s).faults = s.faults := rfl
@[simp] theorem leaveHold_line (s : State) :
    (leaveHold s).line = s.line := rfl
@[simp] theorem leaveHold_table (s : State) :
    (leaveHold s).table = s.table := rfl
@[simp] theorem leaveHold_log (s : State) :
    (leaveHold s).log = s.log := rfl
@[simp] theorem leaveHold_port (s : State) :
    (leaveHold s).port = s.port := rfl
@[simp] theorem leaveHold_freeCount (s : State) :
    (leaveHold s).freeCount = s.freeCount := rfl
@[simp] theorem leaveHold_pending (s : State) :
    (leaveHold s).pending = s.pending := rfl

/-! ### startSettle -/

@[simp] theorem startSettle_chans (s : State) :
    (startSettle s).chans = s.chans := rfl
@[simp] theorem startSettle_contacts (s : State) :
    (startSettle s).contacts = s.contacts := rfl
@[simp] theorem startSettle_seq (s : State) :
    (startSettle s).seq = s.seq := rfl
@[simp] theorem startSettle_drives (s : State) :
    (startSettle s).drives = s.drives := rfl
@[simp] theorem startSettle_winch (s : State) :
    (startSettle s).winch = s.winch := rfl
@[simp] theorem startSettle_grout (s : State) :
    (startSettle s).grout = s.grout := rfl
@[simp] theorem startSettle_jack (s : State) :
    (startSettle s).jack = { s.jack with lockOffTimer := 0 } := rfl
@[simp] theorem startSettle_eval (s : State) :
    (startSettle s).eval = s.eval := rfl
@[simp] theorem startSettle_faults (s : State) :
    (startSettle s).faults = s.faults := rfl
@[simp] theorem startSettle_line (s : State) :
    (startSettle s).line = s.line := rfl
@[simp] theorem startSettle_table (s : State) :
    (startSettle s).table = s.table := rfl
@[simp] theorem startSettle_log (s : State) :
    (startSettle s).log = s.log := rfl
@[simp] theorem startSettle_port (s : State) :
    (startSettle s).port = s.port := rfl
@[simp] theorem startSettle_freeCount (s : State) :
    (startSettle s).freeCount = s.freeCount := rfl
@[simp] theorem startSettle_pending (s : State) :
    (startSettle s).pending = s.pending := rfl

/-! ### setAssembling -/

@[simp] theorem setAssembling_chans (a : Option Assembly) (s : State) :
    (setAssembling a s).chans = s.chans := rfl
@[simp] theorem setAssembling_contacts (a : Option Assembly) (s : State) :
    (setAssembling a s).contacts = s.contacts := rfl
@[simp] theorem setAssembling_seq (a : Option Assembly) (s : State) :
    (setAssembling a s).seq = s.seq := rfl
@[simp] theorem setAssembling_drives (a : Option Assembly) (s : State) :
    (setAssembling a s).drives = s.drives := rfl
@[simp] theorem setAssembling_winch (a : Option Assembly) (s : State) :
    (setAssembling a s).winch = s.winch := rfl
@[simp] theorem setAssembling_grout (a : Option Assembly) (s : State) :
    (setAssembling a s).grout = s.grout := rfl
@[simp] theorem setAssembling_jack (a : Option Assembly) (s : State) :
    (setAssembling a s).jack = s.jack := rfl
@[simp] theorem setAssembling_eval (a : Option Assembly) (s : State) :
    (setAssembling a s).eval = s.eval := rfl
@[simp] theorem setAssembling_faults (a : Option Assembly) (s : State) :
    (setAssembling a s).faults = s.faults := rfl
@[simp] theorem setAssembling_line (a : Option Assembly) (s : State) :
    (setAssembling a s).line = { s.line with assembling := a } := rfl
@[simp] theorem setAssembling_table (a : Option Assembly) (s : State) :
    (setAssembling a s).table = s.table := rfl
@[simp] theorem setAssembling_log (a : Option Assembly) (s : State) :
    (setAssembling a s).log = s.log := rfl
@[simp] theorem setAssembling_port (a : Option Assembly) (s : State) :
    (setAssembling a s).port = s.port := rfl
@[simp] theorem setAssembling_freeCount (a : Option Assembly) (s : State) :
    (setAssembling a s).freeCount = s.freeCount := rfl
@[simp] theorem setAssembling_pending (a : Option Assembly) (s : State) :
    (setAssembling a s).pending = s.pending := rfl

/-! ### setReceiver -/

@[simp] theorem setReceiver_chans (r : PendantReceiver) (s : State) :
    (setReceiver r s).chans = s.chans := rfl
@[simp] theorem setReceiver_contacts (r : PendantReceiver) (s : State) :
    (setReceiver r s).contacts = s.contacts := rfl
@[simp] theorem setReceiver_seq (r : PendantReceiver) (s : State) :
    (setReceiver r s).seq = s.seq := rfl
@[simp] theorem setReceiver_drives (r : PendantReceiver) (s : State) :
    (setReceiver r s).drives = s.drives := rfl
@[simp] theorem setReceiver_winch (r : PendantReceiver) (s : State) :
    (setReceiver r s).winch = s.winch := rfl
@[simp] theorem setReceiver_grout (r : PendantReceiver) (s : State) :
    (setReceiver r s).grout = s.grout := rfl
@[simp] theorem setReceiver_jack (r : PendantReceiver) (s : State) :
    (setReceiver r s).jack = s.jack := rfl
@[simp] theorem setReceiver_eval (r : PendantReceiver) (s : State) :
    (setReceiver r s).eval = s.eval := rfl
@[simp] theorem setReceiver_faults (r : PendantReceiver) (s : State) :
    (setReceiver r s).faults = s.faults := rfl
@[simp] theorem setReceiver_line (r : PendantReceiver) (s : State) :
    (setReceiver r s).line = s.line := rfl
@[simp] theorem setReceiver_table (r : PendantReceiver) (s : State) :
    (setReceiver r s).table = s.table := rfl
@[simp] theorem setReceiver_log (r : PendantReceiver) (s : State) :
    (setReceiver r s).log = s.log := rfl
@[simp] theorem setReceiver_port (r : PendantReceiver) (s : State) :
    (setReceiver r s).port = { s.port with receiver := r } := rfl
@[simp] theorem setReceiver_freeCount (r : PendantReceiver) (s : State) :
    (setReceiver r s).freeCount = s.freeCount := rfl
@[simp] theorem setReceiver_pending (r : PendantReceiver) (s : State) :
    (setReceiver r s).pending = s.pending := rfl

/-! ### setReply -/

@[simp] theorem setReply_chans (code : Byte) (body : List Byte) (outcome argument : Nat) (out : List Byte) (s : State) :
    (setReply code body outcome argument out s).chans = s.chans := rfl
@[simp] theorem setReply_contacts (code : Byte) (body : List Byte) (outcome argument : Nat) (out : List Byte) (s : State) :
    (setReply code body outcome argument out s).contacts = s.contacts := rfl
@[simp] theorem setReply_seq (code : Byte) (body : List Byte) (outcome argument : Nat) (out : List Byte) (s : State) :
    (setReply code body outcome argument out s).seq = s.seq := rfl
@[simp] theorem setReply_drives (code : Byte) (body : List Byte) (outcome argument : Nat) (out : List Byte) (s : State) :
    (setReply code body outcome argument out s).drives = s.drives := rfl
@[simp] theorem setReply_winch (code : Byte) (body : List Byte) (outcome argument : Nat) (out : List Byte) (s : State) :
    (setReply code body outcome argument out s).winch = s.winch := rfl
@[simp] theorem setReply_grout (code : Byte) (body : List Byte) (outcome argument : Nat) (out : List Byte) (s : State) :
    (setReply code body outcome argument out s).grout = s.grout := rfl
@[simp] theorem setReply_jack (code : Byte) (body : List Byte) (outcome argument : Nat) (out : List Byte) (s : State) :
    (setReply code body outcome argument out s).jack = s.jack := rfl
@[simp] theorem setReply_eval (code : Byte) (body : List Byte) (outcome argument : Nat) (out : List Byte) (s : State) :
    (setReply code body outcome argument out s).eval = s.eval := rfl
@[simp] theorem setReply_faults (code : Byte) (body : List Byte) (outcome argument : Nat) (out : List Byte) (s : State) :
    (setReply code body outcome argument out s).faults = s.faults := rfl
@[simp] theorem setReply_line (code : Byte) (body : List Byte) (outcome argument : Nat) (out : List Byte) (s : State) :
    (setReply code body outcome argument out s).line = s.line := rfl
@[simp] theorem setReply_table (code : Byte) (body : List Byte) (outcome argument : Nat) (out : List Byte) (s : State) :
    (setReply code body outcome argument out s).table = s.table := rfl
@[simp] theorem setReply_log (code : Byte) (body : List Byte) (outcome argument : Nat) (out : List Byte) (s : State) :
    (setReply code body outcome argument out s).log = s.log := rfl
@[simp] theorem setReply_freeCount (code : Byte) (body : List Byte) (outcome argument : Nat) (out : List Byte) (s : State) :
    (setReply code body outcome argument out s).freeCount = s.freeCount := rfl
@[simp] theorem setReply_pending (code : Byte) (body : List Byte) (outcome argument : Nat) (out : List Byte) (s : State) :
    (setReply code body outcome argument out s).pending = s.pending := rfl

/-! ### State.replied -/

@[simp] theorem State.replied_chans (code : Byte) (body : List Byte) (outcome argument : Nat) (out : List Byte) (s : State) :
    (s.replied code body outcome argument out).chans = s.chans := rfl
@[simp] theorem State.replied_contacts (code : Byte) (body : List Byte) (outcome argument : Nat) (out : List Byte) (s : State) :
    (s.replied code body outcome argument out).contacts = s.contacts := rfl
@[simp] theorem State.replied_seq (code : Byte) (body : List Byte) (outcome argument : Nat) (out : List Byte) (s : State) :
    (s.replied code body outcome argument out).seq = s.seq := rfl
@[simp] theorem State.replied_drives (code : Byte) (body : List Byte) (outcome argument : Nat) (out : List Byte) (s : State) :
    (s.replied code body outcome argument out).drives = s.drives := rfl
@[simp] theorem State.replied_winch (code : Byte) (body : List Byte) (outcome argument : Nat) (out : List Byte) (s : State) :
    (s.replied code body outcome argument out).winch = s.winch := rfl
@[simp] theorem State.replied_grout (code : Byte) (body : List Byte) (outcome argument : Nat) (out : List Byte) (s : State) :
    (s.replied code body outcome argument out).grout = s.grout := rfl
@[simp] theorem State.replied_jack (code : Byte) (body : List Byte) (outcome argument : Nat) (out : List Byte) (s : State) :
    (s.replied code body outcome argument out).jack = s.jack := rfl
@[simp] theorem State.replied_eval (code : Byte) (body : List Byte) (outcome argument : Nat) (out : List Byte) (s : State) :
    (s.replied code body outcome argument out).eval = s.eval := rfl
@[simp] theorem State.replied_faults (code : Byte) (body : List Byte) (outcome argument : Nat) (out : List Byte) (s : State) :
    (s.replied code body outcome argument out).faults = s.faults := rfl
@[simp] theorem State.replied_line (code : Byte) (body : List Byte) (outcome argument : Nat) (out : List Byte) (s : State) :
    (s.replied code body outcome argument out).line = s.line := rfl
@[simp] theorem State.replied_table (code : Byte) (body : List Byte) (outcome argument : Nat) (out : List Byte) (s : State) :
    (s.replied code body outcome argument out).table = s.table := rfl
@[simp] theorem State.replied_log (code : Byte) (body : List Byte) (outcome argument : Nat) (out : List Byte) (s : State) :
    (s.replied code body outcome argument out).log = s.log := rfl
@[simp] theorem State.replied_freeCount (code : Byte) (body : List Byte) (outcome argument : Nat) (out : List Byte) (s : State) :
    (s.replied code body outcome argument out).freeCount = s.freeCount := rfl
@[simp] theorem State.replied_pending (code : Byte) (body : List Byte) (outcome argument : Nat) (out : List Byte) (s : State) :
    (s.replied code body outcome argument out).pending = s.pending := rfl

/-! ### placeNotice -/

@[simp] theorem placeNotice_chans (st : SlotStatus) (s : State) :
    (placeNotice st s).chans = s.chans := rfl
@[simp] theorem placeNotice_contacts (st : SlotStatus) (s : State) :
    (placeNotice st s).contacts = s.contacts := rfl
@[simp] theorem placeNotice_seq (st : SlotStatus) (s : State) :
    (placeNotice st s).seq = s.seq := rfl
@[simp] theorem placeNotice_drives (st : SlotStatus) (s : State) :
    (placeNotice st s).drives = s.drives := rfl
@[simp] theorem placeNotice_winch (st : SlotStatus) (s : State) :
    (placeNotice st s).winch = s.winch := rfl
@[simp] theorem placeNotice_grout (st : SlotStatus) (s : State) :
    (placeNotice st s).grout = s.grout := rfl
@[simp] theorem placeNotice_jack (st : SlotStatus) (s : State) :
    (placeNotice st s).jack = s.jack := rfl
@[simp] theorem placeNotice_eval (st : SlotStatus) (s : State) :
    (placeNotice st s).eval = s.eval := rfl
@[simp] theorem placeNotice_faults (st : SlotStatus) (s : State) :
    (placeNotice st s).faults = s.faults := rfl
@[simp] theorem placeNotice_table (st : SlotStatus) (s : State) :
    (placeNotice st s).table = { s.table with ownSequence := (s.table.ownSequence + 1) % 256 } := rfl
@[simp] theorem placeNotice_log (st : SlotStatus) (s : State) :
    (placeNotice st s).log = s.log := rfl
@[simp] theorem placeNotice_port (st : SlotStatus) (s : State) :
    (placeNotice st s).port = s.port := rfl
@[simp] theorem placeNotice_freeCount (st : SlotStatus) (s : State) :
    (placeNotice st s).freeCount = s.freeCount := rfl
@[simp] theorem placeNotice_pending (st : SlotStatus) (s : State) :
    (placeNotice st s).pending = s.pending := rfl

/-! ### readContacts -/

@[simp] theorem readContacts_chans (r : ContactRead) (s : State) :
    (readContacts r s).chans = s.chans := rfl
@[simp] theorem readContacts_seq (r : ContactRead) (s : State) :
    (readContacts r s).seq = s.seq := rfl
@[simp] theorem readContacts_drives (r : ContactRead) (s : State) :
    (readContacts r s).drives = s.drives := rfl
@[simp] theorem readContacts_winch (r : ContactRead) (s : State) :
    (readContacts r s).winch = s.winch := rfl
@[simp] theorem readContacts_grout (r : ContactRead) (s : State) :
    (readContacts r s).grout = s.grout := rfl
@[simp] theorem readContacts_jack (r : ContactRead) (s : State) :
    (readContacts r s).jack = s.jack := rfl
@[simp] theorem readContacts_eval (r : ContactRead) (s : State) :
    (readContacts r s).eval = s.eval := rfl
@[simp] theorem readContacts_faults (r : ContactRead) (s : State) :
    (readContacts r s).faults = s.faults := rfl
@[simp] theorem readContacts_line (r : ContactRead) (s : State) :
    (readContacts r s).line = s.line := rfl
@[simp] theorem readContacts_table (r : ContactRead) (s : State) :
    (readContacts r s).table = s.table := rfl
@[simp] theorem readContacts_log (r : ContactRead) (s : State) :
    (readContacts r s).log = s.log := rfl
@[simp] theorem readContacts_port (r : ContactRead) (s : State) :
    (readContacts r s).port = s.port := rfl
@[simp] theorem readContacts_freeCount (r : ContactRead) (s : State) :
    (readContacts r s).freeCount = s.freeCount := rfl
@[simp] theorem readContacts_pending (r : ContactRead) (s : State) :
    (readContacts r s).pending = s.pending := rfl

/-! ### cureTick -/

@[simp] theorem cureTick_chans (s : State) :
    (cureTick s).chans = s.chans := rfl
@[simp] theorem cureTick_contacts (s : State) :
    (cureTick s).contacts = s.contacts := rfl
@[simp] theorem cureTick_seq (s : State) :
    (cureTick s).seq = { s.seq with cure := s.seq.cure.tick } := rfl
@[simp] theorem cureTick_drives (s : State) :
    (cureTick s).drives = s.drives := rfl
@[simp] theorem cureTick_winch (s : State) :
    (cureTick s).winch = s.winch := rfl
@[simp] theorem cureTick_grout (s : State) :
    (cureTick s).grout = s.grout := rfl
@[simp] theorem cureTick_jack (s : State) :
    (cureTick s).jack = s.jack := rfl
@[simp] theorem cureTick_eval (s : State) :
    (cureTick s).eval = s.eval := rfl
@[simp] theorem cureTick_faults (s : State) :
    (cureTick s).faults = s.faults := rfl
@[simp] theorem cureTick_line (s : State) :
    (cureTick s).line = s.line := rfl
@[simp] theorem cureTick_table (s : State) :
    (cureTick s).table = s.table := rfl
@[simp] theorem cureTick_log (s : State) :
    (cureTick s).log = s.log := rfl
@[simp] theorem cureTick_port (s : State) :
    (cureTick s).port = s.port := rfl
@[simp] theorem cureTick_freeCount (s : State) :
    (cureTick s).freeCount = s.freeCount := rfl
@[simp] theorem cureTick_pending (s : State) :
    (cureTick s).pending = s.pending := rfl

/-! ### countTicks -/

@[simp] theorem countTicks_chans (s : State) :
    (countTicks s).chans = s.chans := rfl
@[simp] theorem countTicks_contacts (s : State) :
    (countTicks s).contacts = s.contacts := rfl
@[simp] theorem countTicks_seq (s : State) :
    (countTicks s).seq = s.seq := rfl
@[simp] theorem countTicks_drives (s : State) :
    (countTicks s).drives = s.drives := rfl
@[simp] theorem countTicks_winch (s : State) :
    (countTicks s).winch = s.winch := rfl
@[simp] theorem countTicks_jack (s : State) :
    (countTicks s).jack = s.jack := rfl
@[simp] theorem countTicks_eval (s : State) :
    (countTicks s).eval = s.eval := rfl
@[simp] theorem countTicks_faults (s : State) :
    (countTicks s).faults = s.faults := rfl
@[simp] theorem countTicks_line (s : State) :
    (countTicks s).line = s.line := rfl
@[simp] theorem countTicks_log (s : State) :
    (countTicks s).log = s.log := rfl
@[simp] theorem countTicks_port (s : State) :
    (countTicks s).port = s.port := rfl
@[simp] theorem countTicks_freeCount (s : State) :
    (countTicks s).freeCount = s.freeCount := rfl
@[simp] theorem countTicks_pending (s : State) :
    (countTicks s).pending = s.pending := rfl

/-! ### logRead -/

@[simp] theorem logRead_chans (s : State) :
    (logRead s).chans = s.chans := rfl
@[simp] theorem logRead_contacts (s : State) :
    (logRead s).contacts = s.contacts := rfl
@[simp] theorem logRead_seq (s : State) :
    (logRead s).seq = s.seq := rfl
@[simp] theorem logRead_drives (s : State) :
    (logRead s).drives = s.drives := rfl
@[simp] theorem logRead_winch (s : State) :
    (logRead s).winch = s.winch := rfl
@[simp] theorem logRead_grout (s : State) :
    (logRead s).grout = s.grout := rfl
@[simp] theorem logRead_jack (s : State) :
    (logRead s).jack = s.jack := rfl
@[simp] theorem logRead_eval (s : State) :
    (logRead s).eval = s.eval := rfl
@[simp] theorem logRead_faults (s : State) :
    (logRead s).faults = s.faults := rfl
@[simp] theorem logRead_line (s : State) :
    (logRead s).line = s.line := rfl
@[simp] theorem logRead_table (s : State) :
    (logRead s).table = s.table := rfl
@[simp] theorem logRead_port (s : State) :
    (logRead s).port = s.port := rfl
@[simp] theorem logRead_freeCount (s : State) :
    (logRead s).freeCount = s.freeCount := rfl
@[simp] theorem logRead_pending (s : State) :
    (logRead s).pending = s.pending := rfl

/-! ### maskSet -/

@[simp] theorem maskSet_chans (m : List FaultKind) (s : State) :
    (maskSet m s).chans = s.chans := rfl
@[simp] theorem maskSet_contacts (m : List FaultKind) (s : State) :
    (maskSet m s).contacts = s.contacts := rfl
@[simp] theorem maskSet_seq (m : List FaultKind) (s : State) :
    (maskSet m s).seq = s.seq := rfl
@[simp] theorem maskSet_drives (m : List FaultKind) (s : State) :
    (maskSet m s).drives = s.drives := rfl
@[simp] theorem maskSet_winch (m : List FaultKind) (s : State) :
    (maskSet m s).winch = s.winch := rfl
@[simp] theorem maskSet_grout (m : List FaultKind) (s : State) :
    (maskSet m s).grout = s.grout := rfl
@[simp] theorem maskSet_jack (m : List FaultKind) (s : State) :
    (maskSet m s).jack = s.jack := rfl
@[simp] theorem maskSet_eval (m : List FaultKind) (s : State) :
    (maskSet m s).eval = s.eval := rfl
@[simp] theorem maskSet_line (m : List FaultKind) (s : State) :
    (maskSet m s).line = s.line := rfl
@[simp] theorem maskSet_table (m : List FaultKind) (s : State) :
    (maskSet m s).table = s.table := rfl
@[simp] theorem maskSet_log (m : List FaultKind) (s : State) :
    (maskSet m s).log = s.log := rfl
@[simp] theorem maskSet_port (m : List FaultKind) (s : State) :
    (maskSet m s).port = s.port := rfl
@[simp] theorem maskSet_freeCount (m : List FaultKind) (s : State) :
    (maskSet m s).freeCount = s.freeCount := rfl
@[simp] theorem maskSet_pending (m : List FaultKind) (s : State) :
    (maskSet m s).pending = s.pending := rfl

/-! ### driftAccepted -/

@[simp] theorem driftAccepted_chans (s : State) :
    (driftAccepted s).chans = s.chans := rfl
@[simp] theorem driftAccepted_contacts (s : State) :
    (driftAccepted s).contacts = s.contacts := rfl
@[simp] theorem driftAccepted_seq (s : State) :
    (driftAccepted s).seq = s.seq := rfl
@[simp] theorem driftAccepted_drives (s : State) :
    (driftAccepted s).drives = s.drives := rfl
@[simp] theorem driftAccepted_winch (s : State) :
    (driftAccepted s).winch = s.winch := rfl
@[simp] theorem driftAccepted_grout (s : State) :
    (driftAccepted s).grout = s.grout := rfl
@[simp] theorem driftAccepted_jack (s : State) :
    (driftAccepted s).jack = { s.jack with lockedLoad := s.filtered .load } := rfl
@[simp] theorem driftAccepted_eval (s : State) :
    (driftAccepted s).eval = s.eval := rfl
@[simp] theorem driftAccepted_faults (s : State) :
    (driftAccepted s).faults = s.faults := rfl
@[simp] theorem driftAccepted_line (s : State) :
    (driftAccepted s).line = s.line := rfl
@[simp] theorem driftAccepted_table (s : State) :
    (driftAccepted s).table = { s.table with drift := false } := rfl
@[simp] theorem driftAccepted_log (s : State) :
    (driftAccepted s).log = s.log := rfl
@[simp] theorem driftAccepted_port (s : State) :
    (driftAccepted s).port = s.port := rfl
@[simp] theorem driftAccepted_freeCount (s : State) :
    (driftAccepted s).freeCount = s.freeCount := rfl
@[simp] theorem driftAccepted_pending (s : State) :
    (driftAccepted s).pending = s.pending := rfl

end Sys2Proof.Machine
end

