-- ==== Sys2Proof/Laws/Work.lean ====
section
/-!
SUPPORT. What the work of a stage can do, said once: the relation `Work`, and that the shared operations stay
within it.
-/
namespace Sys2Proof.Machine

/-- A channel but for its REFILLED mark, which a log record consumes (R11). -/
def Channel.content (c : Channel) : Channel := { c with refilled := false }

/-- The channels but for their REFILLED marks, with the GV pulse count; the drain window is a valve's (R4). -/
def State.contents (s : State) : Channels :=
  { s.chans with
    load := s.chans.load.content, ext := s.chans.ext.content, gp := s.chans.gp.content
    gv := s.chans.gv.content, wl := s.chans.wl.content, wt := s.chans.wt.content
    drainOpen := false }

/-- The parts of the state that most updates leave alone. -/
def core (s : State) :=
  (s.contacts, s.port, s.pending, s.line, s.seq.config, s.seq.runState, s.seq.stage, s.seq.progress,
    s.seq.abortMark, s.faults.mask, s.faults.pending, s.faults.taken, s.table.entries,
    s.table.ownSequence, s.log, s.contents, s.seq.jobClock, s.seq.jobHalf, s.seq.cure, s.faults.seen)

/-- What work can do from `s` to `t`: it never touches the contacts, the port, the queue of commands, the line, the
configuration, the mask, the neighbour entries, the own sequence or what the channels hold; the log stays bounded;
the stage stays, or ends with the progress where it was or one place forward; the clocks stay while the stage does;
no kind leaves the seen set; the standing stays sound. -/
structure Work (s t : State) : Prop where
  contacts : t.contacts = s.contacts
  port : t.port = s.port
  queue : t.pending = s.pending
  line : t.line = s.line
  config : t.seq.config = s.seq.config
  mask : t.faults.mask = s.faults.mask
  entries : t.table.entries = s.table.entries
  sequence : t.table.ownSequence = s.table.ownSequence
  log : s.logBounded = true → t.logBounded = true
  stage : s.standing = true →
    (t.seq.stage = s.seq.stage ∧ t.seq.progress = s.seq.progress) ∨
    (s.seq.stage ≠ .none ∧ t.seq.stage = .none ∧
      (t.seq.progress = s.seq.progress ∨ t.seq.progress = s.seq.progress.forward))
  standing : s.standing = true → t.standing = true
  content : t.contents = s.contents
  clocks :
    (t.seq.stage = s.seq.stage ∧ t.seq.jobClock = s.seq.jobClock ∧ t.seq.jobHalf = s.seq.jobHalf ∧
      t.seq.cure = s.seq.cure) ∨ t.seq.stage = .none
  seen : ∀ k, k ∈ s.faults.seen → k ∈ t.faults.seen

theorem Work.refl (s : State) : Work s s := by
  constructor <;> simp

theorem Work.trans {s t u : State} (h : Work s t) (k : Work t u) : Work s u where
  contacts := k.contacts.trans h.contacts
  port := k.port.trans h.port
  queue := k.queue.trans h.queue
  line := k.line.trans h.line
  config := k.config.trans h.config
  mask := k.mask.trans h.mask
  entries := k.entries.trans h.entries
  sequence := k.sequence.trans h.sequence
  log := k.log ∘ h.log
  stage := by
    intro hs
    rcases h.stage hs with ⟨a, b⟩ | ⟨a, b, c⟩ <;> rcases k.stage (h.standing hs) with ⟨d, e⟩ | ⟨d, e, f⟩
    · exact .inl ⟨d.trans a, e.trans b⟩
    · rw [a] at d; rw [b] at f; exact .inr ⟨d, e, f⟩
    · rw [b] at d; rw [← e] at c; exact .inr ⟨a, d, c⟩
    · exact absurd b d
  standing := k.standing ∘ h.standing
  content := k.content.trans h.content
  clocks := by
    rcases k.clocks with ⟨a, b, c, d⟩ | a
    · rcases h.clocks with ⟨e, f, g, i⟩ | e
      · exact .inl ⟨a.trans e, b.trans f, c.trans g, d.trans i⟩
      · exact .inr (a.trans e)
    · exact .inr a
  seen := fun j hj => k.seen j (h.seen j hj)

/-- An update that leaves the parts of `core` alone is work. -/
theorem Work.quiet {s t : State} (h : core t = core s) : Work s t := by
  simp only [core, Prod.mk.injEq] at h
  obtain ⟨h1, h2, h3, h4, h5, h6, h7, h8, h9, h10, h11, h12, h13, h14, h15, h16, h17, h18, h19, h20⟩ := h
  refine ⟨h1, h2, h3, h4, h5, h10, h13, h14, ?_, fun _ => .inl ⟨h7, h8⟩, ?_, h16,
    .inl ⟨h7, h17, h18, h19⟩, fun _ hj => h20 ▸ hj⟩
  · simp [State.logBounded, h15]
  · simp [State.standing, State.faultMatches, State.stageSound, State.pendingSound, h5, h6, h7, h8,
      h9, h11, h12]

/-- Work after an update that leaves the parts of `core` alone. -/
theorem Work.after {s t u : State} (k : Work t u) (h : core t = core s) : Work s u :=
  (Work.quiet h).trans k

/-- Work, and then an update that leaves the parts of `core` alone. -/
theorem Work.thenQuiet {s t u : State} (k : Work s t) (h : core u = core t) : Work s u :=
  k.trans (Work.quiet h)

/-- Work before work, the later part first. -/
theorem Work.since {s t u : State} (k : Work t u) (h : Work s t) : Work s u := h.trans k

/-! ## The log (R176, R182) -/

theorem LogRecord.size_le (r : LogRecord) : r.size ≤ 11 := by
  unfold LogRecord.size; split <;> split <;> omega

/-- Making room leaves room (R182). -/
theorem makeRoom_fits (n : Nat) (hn : n ≤ Config.logSize) (log : List LogRecord) :
    logUsed (makeRoom n log) + n ≤ Config.logSize := by
  induction log with
  | nil => simpa [makeRoom, logUsed] using hn
  | cons r rest ih =>
    unfold makeRoom
    split
    · assumption
    · exact ih

/-- A record more keeps the store within its 4096 bytes, whatever it held (R176, R182). -/
theorem appendRecord_fits (log : List LogRecord) (r : LogRecord) :
    logUsed (appendRecord log r) ≤ Config.logSize := by
  have hs : r.size ≤ Config.logSize := Nat.le_trans r.size_le (by decide)
  have h := makeRoom_fits r.size hs log
  simp only [appendRecord, logUsed, List.map_append, List.sum_append, List.map_cons, List.map_nil,
    List.sum_cons, List.sum_nil, Nat.add_zero] at h ⊢
  exact h

theorem consumeRefilled_core (f : Option FieldKind) (s : State) :
    core (consumeRefilled f s) = core s := by
  unfold consumeRefilled
  split
  · rfl
  · rename_i f; cases f <;> rfl

/-- Writing a record touches the log and, in the channels, REFILLED marks (R182, R183). -/
theorem writeRecord_work (f : Option FieldKind) (e : Option (EventCode × Nat)) (s : State) :
    Work s (writeRecord f e s) := by
  have h := consumeRefilled_core f s
  simp only [core, Prod.mk.injEq] at h
  obtain ⟨h1, h2, h3, h4, h5, h6, h7, h8, h9, h10, h11, h12, h13, h14, _, h16, h17, h18, h19, h20⟩ := h
  refine ⟨h1, h2, h3, h4, h5, h10, h13, h14, fun _ => ?_, fun _ => .inl ⟨h7, h8⟩, ?_, h16,
    .inl ⟨h7, h17, h18, h19⟩, fun _ hj => h20 ▸ hj⟩
  · exact decide_eq_true (appendRecord_fits _ _)
  · simp [State.standing, State.faultMatches, State.stageSound, State.pendingSound, writeRecord,
      h5, h6, h7, h8, h9, h11, h12]

theorem logEvent_work (e : EventCode) (a : Nat) (s : State) : Work s (logEvent e a s) :=
  writeRecord_work _ _ _

theorem consumeRefilled_seq (f : Option FieldKind) (s : State) : (consumeRefilled f s).seq = s.seq := by
  unfold consumeRefilled; split <;> rfl

theorem consumeRefilled_faults (f : Option FieldKind) (s : State) :
    (consumeRefilled f s).faults = s.faults := by
  unfold consumeRefilled; split <;> rfl

theorem consumeRefilled_jack (f : Option FieldKind) (s : State) :
    (consumeRefilled f s).jack = s.jack := by
  unfold consumeRefilled; split <;> rfl

@[simp] theorem logEvent_seq (e : EventCode) (a : Nat) (s : State) : (logEvent e a s).seq = s.seq :=
  consumeRefilled_seq _ _

@[simp] theorem logEvent_faults (e : EventCode) (a : Nat) (s : State) :
    (logEvent e a s).faults = s.faults := consumeRefilled_faults _ _

@[simp] theorem logEvent_jack (e : EventCode) (a : Nat) (s : State) :
    (logEvent e a s).jack = s.jack := consumeRefilled_jack _ _

/-! ## Phases and the stopping of work (R50, R96, R123) -/

theorem setStepPhase_work (p : StepPhase) (s : State) : Work s (setStepPhase p s) := by
  unfold setStepPhase
  split
  · exact .refl s
  · exact .after (logEvent_work _ _ _) rfl

@[simp] theorem setStepPhase_seq (p : StepPhase) (s : State) : (setStepPhase p s).seq = s.seq := by
  unfold setStepPhase; split <;> simp

@[simp] theorem setStepPhase_faults (p : StepPhase) (s : State) :
    (setStepPhase p s).faults = s.faults := by
  unfold setStepPhase; split <;> simp

/-- The phase is the one set, whatever it was (R123). -/
@[simp] theorem setStepPhase_phase (p : StepPhase) (s : State) : (setStepPhase p s).jack.phase = p := by
  unfold setStepPhase; split <;> simp [*]

theorem closeGrout_core (s : State) : core (closeGrout s) = core s := by
  unfold closeGrout; split <;> rfl

@[simp] theorem closeGrout_seq (s : State) : (closeGrout s).seq = s.seq := by
  unfold closeGrout; split <;> rfl

theorem endClaim_work (cause : Nat) (s : State) : Work s (endClaim cause s) := by
  unfold endClaim
  split
  · exact .after (logEvent_work _ _ _) (closeGrout_core s)
  · exact .refl s

@[simp] theorem endClaim_seq (cause : Nat) (s : State) : (endClaim cause s).seq = s.seq := by
  unfold endClaim; split <;> simp

theorem stopWork_work (s : State) : Work s (stopWork s) := by
  unfold stopWork
  split
  · exact .refl s
  · exact .quiet rfl
  · have h : Work s (closeGrout s) := .quiet (closeGrout_core s)
    dsimp only
    split
    · exact (h.trans (endClaim_work _ _)).trans (.quiet rfl)
    · split
      · exact h.trans (.quiet rfl)
      · exact h
  · dsimp only
    split
    · exact .after (setStepPhase_work _ _) rfl
    · exact .quiet rfl

@[simp] theorem stopWork_seq (s : State) : (stopWork s).seq = s.seq := by
  unfold stopWork; split
  · rfl
  · rfl
  · dsimp only; split
    · simp
    · split <;> simp
  · dsimp only; split <;> simp

/-! ## Taking a fault (R50, R166 to R172) -/

theorem logTaken_work (k : FaultKind) (s : State) : Work s (logTaken k s) := by
  unfold logTaken; split <;> exact logEvent_work _ _ _

@[simp] theorem logTaken_seq (k : FaultKind) (s : State) : (logTaken k s).seq = s.seq := by
  unfold logTaken; split <;> simp

@[simp] theorem takeFault_stage (k : FaultKind) (d : Detail) (s : State) :
    (takeFault k d s).seq.stage = s.seq.stage := by
  simp [takeFault, writeTaken]

/-- After a taking the run state is the one that the kind gives, and the record names the kind (R50, R169). -/
theorem takeFault_taken (k : FaultKind) (d : Detail) (s : State) :
    (takeFault k d s).seq.runState = runStateOf k ∧
    (takeFault k d s).faults.taken.map TakenFault.kind = some k ∧
    (takeFault k d s).faults.taken.map TakenFault.detail = some d := by
  simp [takeFault, writeTaken]

/-- The standing after a new taken record and its run state. -/
theorem standing_of_taken {s t : State} (k : FaultKind) (hs : s.standing = true)
    (hk : s.seq.stage ≠ .none ∨ (k = .wallStop ∧ s.seq.runState ≠ .unconfigured))
    (hr : t.seq.runState = runStateOf k) (hq : t.seq.stage = s.seq.stage)
    (hp : t.seq.progress = s.seq.progress) (hc : t.seq.config = s.seq.config)
    (ha : t.seq.abortMark = s.seq.abortMark) (hf : t.faults.pending = s.faults.pending)
    (ht : t.faults.taken.map TakenFault.kind = some k) : t.standing = true := by
  obtain ⟨x, hx, rfl⟩ := Option.map_eq_some_iff.mp ht
  have hcfg : s.seq.config.isSome = true := by
    revert hs hk
    simp only [State.standing, State.stageSound, Bool.and_eq_true]
    rcases s.seq.runState <;> simp <;> intros <;> simp_all
  revert hs
  simp only [State.standing, State.faultMatches, State.stageSound, State.pendingSound, hx, hr, hq,
    hp, hc, ha, hf, Bool.and_eq_true]
  rintro ⟨⟨_, ⟨_, h2⟩, h3⟩, h4⟩
  refine ⟨⟨?_, ⟨?_, h2⟩, h3⟩, h4⟩
  · simp [runStateOf]
  · by_cases hw : x.kind = .wallStop
    · simp [runStateOf, hw, hcfg]
    · rcases hk with hk | ⟨hk, _⟩
      · simp [runStateOf, hw, hk, hcfg]
      · exact absurd hk hw

theorem takeFault_work {k : FaultKind} (d : Detail) {s : State}
    (hk : s.seq.stage ≠ .none ∨ (k = .wallStop ∧ s.seq.runState ≠ .unconfigured)) :
    Work s (takeFault k d s) := by
  have h : Work s (stopWork (logTaken k s)) := (logTaken_work k s).trans (stopWork_work _)
  have hq : (stopWork (logTaken k s)).seq = s.seq := by simp
  refine ⟨h.contacts, h.port, h.queue, h.line, ?_, h.mask, h.entries, h.sequence, h.log,
    fun _ => .inl ⟨?_, ?_⟩, fun hs => ?_, h.content, .inl ⟨?_, ?_, ?_, ?_⟩, h.seen⟩
  · simp [takeFault, writeTaken]
  · simp
  · simp [takeFault, writeTaken]
  · have hs' := h.standing hs
    refine standing_of_taken (s := stopWork (logTaken k s)) k hs' (by rw [hq]; exact hk)
      (takeFault_taken k d s).1 ?_ ?_ ?_ ?_ ?_ (takeFault_taken k d s).2.1 <;>
      simp [takeFault, writeTaken]
  all_goals simp [takeFault, writeTaken]

theorem replaceTaken_work {k : FaultKind} (d : Detail) {s : State} (hf : s.seq.runState = .faulted) :
    Work s (replaceTaken k d s) := by
  have h := logTaken_work k s
  have hc : (replaceTaken k d s).contents = (logTaken k s).contents := by
    unfold replaceTaken writeTaken; dsimp only; split <;> rfl
  refine ⟨?_, ?_, ?_, ?_, ?_, ?_, ?_, ?_, ?_, fun _ => .inl ⟨?_, ?_⟩, fun hs => ?_,
    hc.trans h.content, .inl ⟨?_, ?_, ?_, ?_⟩, ?_⟩
  case refine_12 =>
    refine standing_of_taken (s := logTaken k s) k (h.standing hs) ?_ ?_ ?_ ?_ ?_ ?_ ?_ ?_
    · left
      have := h.standing hs
      revert this
      simp only [State.standing, State.stageSound, logTaken_seq, hf, Bool.and_eq_true]
      rintro ⟨⟨_, ⟨⟨h1, _⟩, _⟩, _⟩, _⟩
      simpa using h1
    all_goals
      unfold replaceTaken writeTaken
      dsimp only
      split <;> simp_all [runStateOf]
  all_goals
    unfold replaceTaken writeTaken
    dsimp only
    split <;> first
      | exact h.seen
      | exact h.log
      | simp [h.contacts, h.port, h.queue, h.line, h.mask, h.entries, h.sequence]

theorem takeAtOnce_work {k : FaultKind} (d : Detail) {s : State}
    (hk : s.seq.stage ≠ .none ∨ (k = .wallStop ∧ s.seq.runState ≠ .unconfigured)) :
    Work s (takeAtOnce k d s) := by
  unfold takeAtOnce
  split
  · exact .refl s
  · split
    · split
      · exact replaceTaken_work d ‹_›
      · exact .refl s
    · exact takeFault_work d hk
  · exact takeFault_work d hk

@[simp] theorem takeAtOnce_stage (k : FaultKind) (d : Detail) (s : State) :
    (takeAtOnce k d s).seq.stage = s.seq.stage := by
  unfold takeAtOnce
  split
  · rfl
  · split
    · split
      · unfold replaceTaken writeTaken; dsimp only; split <;> simp
      · rfl
    · simp
  · simp

/-! ## Detection (R164) -/

/-- No two kinds share a priority (R162). -/
theorem priority_injective {j k : FaultKind} (h : j.priority = k.priority) : j = k := by
  cases j <;> cases k <;> first | rfl | (simp [FaultKind.priority] at h)

theorem mem_insertPending {k : FaultKind} {d : Detail} {p : FaultKind × Detail}
    {l : List (FaultKind × Detail)} (h : p ∈ insertPending k d l) : p = (k, d) ∨ p ∈ l := by
  induction l with
  | nil => simpa [insertPending] using h
  | cons x rest ih =>
    obtain ⟨j, e⟩ := x
    unfold insertPending at h
    split at h
    · simpa using h
    · split at h
      · exact .inr h
      · rcases List.mem_cons.mp h with h | h
        · simp [h]
        · rcases ih h with h | h
          · exact .inl h
          · exact .inr (List.mem_cons_of_mem _ h)

/-- The head of an insertion is the new kind or the old head (R163). -/
theorem head_insertPending (k : FaultKind) (d : Detail) (l : List (FaultKind × Detail)) :
    ((insertPending k d l).head?.map Prod.fst = some k) ∨ (insertPending k d l).head? = l.head? := by
  cases l with
  | nil => simp [insertPending]
  | cons x rest =>
    unfold insertPending
    split
    · simp
    · split <;> simp

/-- An insertion keeps the order of priority (R163). -/
theorem fallingPriority_insertPending {k : FaultKind} {d : Detail} {l : List (FaultKind × Detail)}
    (h : fallingPriority l = true) : fallingPriority (insertPending k d l) = true := by
  induction l with
  | nil => rfl
  | cons x rest ih =>
    have hr : fallingPriority rest = true := by
      cases rest with
      | nil => rfl
      | cons y more => simp only [fallingPriority, Bool.and_eq_true] at h; exact h.2
    unfold insertPending
    split
    · simp only [fallingPriority, h, Bool.and_true, decide_eq_true_eq]; assumption
    · split
      · exact h
      · rename_i h1 h2
        have hlt : x.1.priority < k.priority := by
          have : x.1.priority ≠ k.priority := fun e => h2 (priority_injective e.symm)
          omega
        have ho := ih hr
        rcases hi : insertPending k d rest with _ | ⟨y, more⟩
        · rfl
        · rw [hi] at ho
          simp only [fallingPriority, ho, Bool.and_true, decide_eq_true_eq]
          have hh := head_insertPending k d rest
          rw [hi] at hh
          rcases hh with hh | hh
          · simp only [List.head?_cons, Option.map_some, Option.some.injEq] at hh; rw [hh]; exact hlt
          · cases rest with
            | nil => simp at hh
            | cons z tail =>
              simp only [List.head?_cons, Option.some.injEq] at hh
              simp only [fallingPriority, Bool.and_eq_true, decide_eq_true_eq] at h
              rw [hh]; exact h.1

theorem pendKind_work {k : FaultKind} (d : Detail) (s : State) (hm : k.maskable = true)
    (hv : k ≠ .voidTest) : Work s (pendKind k d s) := by
  refine ⟨rfl, rfl, rfl, rfl, rfl, rfl, rfl, rfl, id, fun _ => .inl ⟨rfl, rfl⟩, fun hs => ?_, rfl,
    .inl ⟨rfl, rfl, rfl, rfl⟩, fun _ => id⟩
  simp only [State.standing, Bool.and_eq_true] at hs ⊢
  refine ⟨hs.1, ?_⟩
  have hp := hs.2
  simp only [State.pendingSound, pendKind_faults, List.all_eq_true, Bool.and_eq_true] at hp ⊢
  refine ⟨?_, fallingPriority_insertPending hp.2⟩
  intro p hmem
  rcases mem_insertPending hmem with rfl | h
  · simp [hm, hv]
  · exact hp.1 p h

theorem FaultKind.mem_all (k : FaultKind) : k ∈ FaultKind.all := by cases k <;> decide

/-- A set with one more kind holds that kind and the kinds it held (R163). -/
theorem mem_insertKind {k j : FaultKind} {set : List FaultKind} :
    j ∈ insertKind k set ↔ j = k ∨ j ∈ set := by
  simp [insertKind, FaultKind.mem_all]

theorem seeKind_work (k : FaultKind) (s : State) : Work s (seeKind k s) := by
  refine ⟨rfl, rfl, rfl, rfl, rfl, rfl, rfl, rfl, id, fun _ => .inl ⟨rfl, rfl⟩, fun hs => hs, rfl,
    .inl ⟨rfl, rfl, rfl, rfl⟩, fun j hj => ?_⟩
  exact mem_insertKind.mpr (.inr hj)

/-- A detection is work; VOID_TEST belongs to a stage (R165). -/
theorem detect_work {k : FaultKind} (d : Detail) {s : State}
    (hv : k = .voidTest → s.seq.stage ≠ .none) : Work s (detect k d s) := by
  have h : Work s (seeKind k s) := seeKind_work k s
  unfold detect
  split
  · exact .refl s
  · dsimp only
    split
    · split
      · exact h
      · exact h.trans (takeAtOnce_work d (.inr ⟨‹_›, ‹_›⟩))
    · split
      · split
        · rename_i ha
          exact h.trans (takeAtOnce_work d (.inl (by simpa [State.stageActive] using ha)))
        · exact h
      · split
        · exact h
        · split
          · rename_i hk
            exact h.trans (takeAtOnce_work d (.inl (hv hk)))
          · split
            · exact h.trans (pendKind_work d _ (by simpa using ‹¬(!k.maskable) = true›) ‹_›)
            · exact h

@[simp] theorem detect_stage (k : FaultKind) (d : Detail) (s : State) :
    (detect k d s).seq.stage = s.seq.stage := by
  unfold detect
  split
  · rfl
  · dsimp only
    split
    · split <;> simp
    · split
      · split <;> simp
      · split
        · simp
        · split
          · simp
          · split <;> simp

/-- A maskable kind other than VOID_TEST leaves the run state alone when it is detected (R164). -/
theorem detect_runState {k : FaultKind} (d : Detail) (s : State) (hm : k.maskable = true)
    (hv : k ≠ .voidTest) : (detect k d s).seq = s.seq := by
  have hw : k ≠ .wallStop := by rintro rfl; simp [FaultKind.maskable, FaultKind.priority] at hm
  unfold detect
  simp only [hw, hm, hv, if_false, Bool.not_true, Bool.false_eq_true]
  split
  · rfl
  · split
    · rfl
    · split <;> rfl

/-! ## Reaching a boundary (R40, R167) -/

/-- Where a boundary may be reached: a stage is active, and a stage's own end is reached in RUNNING or PAUSED
(R39). -/
def Ready (b : Boundary) (s : State) : Prop :=
  s.seq.stage ≠ .none ∧
  ∀ r, b = .stageEnd r → s.seq.runState = .running ∨ s.seq.runState = .paused

/-- A way of reaching a boundary that is work wherever it may be reached. -/
def Reaches (reach : Boundary → State → State) : Prop := ∀ b s, Ready b s → Work s (reach b s)

theorem takeAtBoundary_work {k : FaultKind} (d : Detail) (b : Boundary) {s : State}
    (h : s.seq.stage ≠ .none) : Work s (takeAtBoundary k d b s) := by
  have h1 : Work s { s with faults := { s.faults with pending := [] } } := by
    refine ⟨rfl, rfl, rfl, rfl, rfl, rfl, rfl, rfl, id, fun _ => .inl ⟨rfl, rfl⟩, fun hs => ?_, rfl,
    .inl ⟨rfl, rfl, rfl, rfl⟩, fun _ => id⟩
    simp only [State.standing, Bool.and_eq_true] at hs ⊢
    exact ⟨hs.1, by simp [State.pendingSound, fallingPriority]⟩
  exact (h1.trans (takeFault_work d (.inl h))).trans (.quiet rfl)

theorem reachWith_work {pass : Boundary → State → State} {b : Boundary} {s : State}
    (h : Ready b s) (hp : Work s (pass b s)) : Work s (reachWith pass b s) := by
  unfold reachWith
  split
  · exact hp
  · exact takeAtBoundary_work _ _ h.1

/-! ## Unaware tests (R22, R23) -/

theorem unaware_work {d : Detail} {t : Test} {c : Condition} {f g : State → State} {s : State}
    (h : s.seq.stage ≠ .none) (hf : Work s (f s))
    (hg : ∀ u, Work s u → u.seq.stage = s.seq.stage → u.seq.runState = s.seq.runState → Work u (g u)) :
    Work s (unaware d t c f g s) := by
  unfold unaware
  have hd : Work s (detect .voidTest d s) := detect_work d fun _ => h
  split
  · split
    · rename_i hm
      refine hd.trans (hg _ hd (by simp) ?_)
      unfold detect
      have hm' : (seeKind .voidTest s).masked .voidTest = true := by
        simpa [State.masked] using hm
      simp [hm', FaultKind.maskable, FaultKind.priority]
    · exact hd
  · split
    · exact hf
    · exact hg s (.refl s) rfl rfl

/-! ## An order left open (R25) -/

/-- Whatever holds after both orders, and of a state whatever its count of free orders, holds after the order that
is taken. -/
theorem eitherOrder_elim {f g : State → State} {s : State} {p : State → Prop}
    (hfg : p (g (f s))) (hgf : p (f (g s)))
    (hn : ∀ (t : State) (n : Nat), p t → p { t with freeCount := n }) : p (eitherOrder f g s) := by
  unfold eitherOrder
  split
  · exact hfg
  · dsimp only
    split
    · exact hn _ _ hfg
    · exact hn _ _ hgf

/-- Where both orders end alike, that end is the one taken. -/
theorem eitherOrder_eq {f g : State → State} {s : State} (h : g (f s) = f (g s)) :
    eitherOrder f g s = g (f s) := by
  simp [eitherOrder, h]

theorem eitherOrder_work {f g : State → State} {s : State} (hfg : Work s (g (f s)))
    (hgf : Work s (f (g s))) : Work s (eitherOrder f g s) :=
  eitherOrder_elim hfg hgf fun _ _ h => h.trans (.quiet rfl)

theorem eitherOrder_all {f g : State → State} (hf : ∀ s, Work s (f s)) (hg : ∀ s, Work s (g s))
    (s : State) : Work s (eitherOrder f g s) :=
  eitherOrder_work ((hf s).trans (hg _)) ((hg s).trans (hf _))

/-! ## Kinds taken at once beside the work of their moment (R168) -/

theorem detectIf_work (asked : Bool) {k : FaultKind} (d : Detail) (hk : k ≠ .voidTest) (s : State) :
    Work s (detectIf asked k d s) := by
  unfold detectIf
  split
  · exact detect_work d fun h => absurd h hk
  · exact .refl s

theorem watchAsked_work (u s : State) : Work s (watchAsked u s) :=
  eitherOrder_all (detectIf_work _ _ (by simp)) (detectIf_work _ _ (by simp)) s

/-- All that kinds beside work can come to: the kinds after the work, where it has left the stage active, found none, or
found an abort's lowering, or the work after the kinds. -/
theorem besideKinds_elim {kinds work : State → State} {s : State} {p : State → Prop}
    (hw : (s.stageActive = true → s.seq.runState ≠ .aborting → (work s).stageActive = true) →
      p (kinds (work s)))
    (hk : p (work (kinds s))) (hn : ∀ (t : State) (n : Nat), p t → p { t with freeCount := n }) :
    p (besideKinds kinds work s) := by
  unfold besideKinds
  split
  · exact hk
  · rename_i h
    refine eitherOrder_elim (hw fun ha hr => ?_) hk hn
    simpa [ha, hr] using h

theorem besideKinds_work {kinds work : State → State} (hk : ∀ s, Work s (kinds s))
    (hw : ∀ s, Work s (work s)) (s : State) : Work s (besideKinds kinds work s) :=
  besideKinds_elim (fun _ => (hw s).trans (hk _)) ((hk s).trans (hw _)) fun _ _ h => h.trans (.quiet rfl)

/-- Where nothing is detected, the work acts alone. -/
theorem besideKinds_quiet {kinds work : State → State} (h : ∀ s, kinds s = s) (s : State) :
    besideKinds kinds work s = work s := by
  unfold besideKinds
  split
  · rw [h]
  · rw [eitherOrder_eq (by simp [h]), h]

theorem shutLower_work {work : State → State} (hw : ∀ s, Work s (work s)) (s : State) :
    Work s (shutLower work s) := by
  unfold shutLower
  dsimp only
  split
  · exact .after (besideKinds_work (watchAsked_work _) hw _) rfl
  · exact .after (hw _) rfl

/-- A lower valve that stands shut does not close. -/
theorem shutLower_shut {work : State → State} {s : State} (h : s.drives.lower = false) :
    shutLower work s = work s := by
  have e : ({ s with drives := { s.drives with lower := false } } : State) = s := by rw [← h]
  unfold shutLower
  simp only [e, h, Bool.false_eq_true, if_false]

end Sys2Proof.Machine
end

