-- ==== Sys2Proof/Laws/Stages.lean ====
section
/-!
SUPPORT. The work of the three stages stays within `Work`: one lemma for each operation of Machine/Evaluator.lean,
Machine/Neighbours.lean and Machine/Work.lean.
-/
namespace Sys2Proof.Machine

/-! ## Readiness through the small operations -/

theorem Ready.of_seq {b : Boundary} {s t : State} (h : Ready b s) (hq : t.seq = s.seq) : Ready b t := by
  simpa [Ready, hq] using h

theorem Ready.plain {b : Boundary} {s : State} (h : s.seq.stage ≠ .none)
    (hb : ∀ r, b ≠ .stageEnd r) : Ready b s := ⟨h, fun r e => absurd e (hb r)⟩

theorem Ready.atEnd {r : Bool} {s : State} (h : s.seq.stage ≠ .none)
    (hr : s.seq.runState = .running ∨ s.seq.runState = .paused) : Ready (.stageEnd r) s :=
  ⟨h, fun _ _ => hr⟩

/-- Reach a boundary after work that leaves the sequencer alone. -/
theorem Reaches.after {reach : Boundary → State → State} (hr : Reaches reach) {b : Boundary}
    {s t : State} (h : Work s t) (hb : Ready b t) : Work s (reach b t) := h.trans (hr b t hb)

/-! ## Hold evaluator (chapter 8) -/

theorem takeReading_work (i n : Nat) (s : State) : Work s (takeReading i n s) :=
  .after (logEvent_work _ _ _) rfl

@[simp] theorem takeReading_seq (i n : Nat) (s : State) : (takeReading i n s).seq = s.seq := by
  simp [takeReading]

theorem actOnCreep_work (v : CreepVerdict) (first : Bool) (n : Nat) {s : State}
    (h : s.seq.stage ≠ .none) : Work s (actOnCreep v first n s) := by
  cases v
  · exact .quiet rfl
  · exact .quiet rfl
  · exact .after (detect_work _ (by simp)) rfl
  · exact .after (detect_work _ fun _ => h) rfl

@[simp] theorem actOnCreep_stage (v : CreepVerdict) (first : Bool) (n : Nat) (s : State) :
    (actOnCreep v first n s).seq.stage = s.seq.stage := by
  cases v <;> simp [actOnCreep]

theorem judgeLength_work (l : Option Int) {s : State} (h : s.seq.stage ≠ .none) :
    Work s (judgeLength l s) := by
  cases l with
  | none => exact .after (detect_work _ fun _ => h) rfl
  | some l =>
    unfold judgeLength
    dsimp only
    split
    · exact .after (detect_work _ (by simp)) rfl
    · exact .after (detect_work _ (by simp)) rfl
    · exact .quiet rfl

@[simp] theorem judgeLength_stage (l : Option Int) (s : State) :
    (judgeLength l s).seq.stage = s.seq.stage := by
  cases l with
  | none => simp [judgeLength]
  | some l => unfold judgeLength; dsimp only; split <;> simp

theorem takeDatumPair_work (p : LoadExt) {s : State} (h : s.seq.stage ≠ .none) :
    Work s (takeDatumPair p s) :=
  .after (judgeLength_work _ h) rfl

theorem takePair_work (p : LoadExt) {s : State} (h : s.seq.stage ≠ .none) : Work s (takePair p s) := by
  unfold takePair
  split
  · exact takeDatumPair_work p h
  · split
    · exact .quiet rfl
    · exact .refl s

@[simp] theorem takePair_stage (p : LoadExt) (s : State) : (takePair p s).seq.stage = s.seq.stage := by
  unfold takePair
  split
  · simp [takeDatumPair]
  · split <;> rfl

theorem finishPhase_work {reach : Boundary → State → State} (hr : Reaches reach) {b : Boundary}
    {s : State} (h : s.seq.stage ≠ .none) (hb : ∀ r, b ≠ .stageEnd r) :
    Work s (finishPhase reach b s) := by
  unfold finishPhase
  split
  · exact hr b s (.plain h hb)
  · exact .quiet rfl

theorem holdStandsEnded_work (n : Nat) (e : Bool) {s : State} (h : s.seq.stage ≠ .none) :
    Work s (holdStandsEnded n e s) := by
  unfold holdStandsEnded
  dsimp only
  refine .after (takePair_work _ ?_) ?_ <;> split <;> split <;> first | exact h | rfl

@[simp] theorem holdStandsEnded_stage (n : Nat) (e : Bool) (s : State) :
    (holdStandsEnded n e s).seq.stage = s.seq.stage := by
  unfold holdStandsEnded
  simp only [takePair_stage]
  split <;> split <;> rfl

theorem takeDue_work (s : State) : Work s (takeDue s) := by
  unfold takeDue
  split
  · exact takeReading_work _ _ _
  · exact .refl s

@[simp] theorem takeDue_seq (s : State) : (takeDue s).seq = s.seq := by
  unfold takeDue; split <;> simp

theorem evaluateHold_work {reach : Boundary → State → State} (hr : Reaches reach) (e : StepEntry)
    (x : ScheduleStep) {s : State} (h : s.seq.stage ≠ .none) : Work s (evaluateHold reach e x s) := by
  unfold evaluateHold
  dsimp only
  split
  · exact .after (actOnCreep_work _ _ _ h) rfl
  · exact .since (finishPhase_work hr (by simpa using h) (by simp))
      (.since (holdStandsEnded_work _ _ (by simpa using h)) (.after (actOnCreep_work _ _ _ h) rfl))

theorem holdEndWork_work {reach : Boundary → State → State} (hr : Reaches reach) {s : State}
    (h : s.seq.stage ≠ .none) : Work s (holdEndWork reach s) := by
  have h' : (takeDue s).seq.stage ≠ .none := by simpa using h
  unfold holdEndWork
  dsimp only
  split
  · split
    · exact (takeDue_work s).trans (evaluateHold_work hr _ _ h')
    · exact ((takeDue_work s).trans (holdStandsEnded_work _ _ h')).trans
        (finishPhase_work hr (by simpa using h) (by simp))
  · exact (takeDue_work s).trans (finishPhase_work hr h' (by simp))

theorem holdClockWork_work {reach : Boundary → State → State} (hr : Reaches reach) {s : State}
    (h : s.seq.stage ≠ .none) : Work s (holdClockWork reach s) := by
  unfold holdClockWork
  split
  · exact holdEndWork_work hr h
  · exact takeDue_work s

/-! ## Stage ends (R36) -/

/-- A stage ends in IDLE: the parts of `core` but for the sequencer's stay, the progress stays or goes one place
forward. -/
theorem Work.ends {s t : State} (h : s.seq.stage ≠ .none)
    (hr : s.seq.runState ≠ .faulted ∧ s.seq.runState ≠ .stopped)
    (hc : (t.contacts, t.port, t.pending, t.line, t.seq.config, t.faults.mask, t.faults.taken,
      t.table.entries, t.table.ownSequence, t.log, t.contents, t.faults.seen) =
      (s.contacts, s.port, s.pending, s.line, s.seq.config, s.faults.mask, s.faults.taken,
      s.table.entries, s.table.ownSequence, s.log, s.contents, s.faults.seen))
    (hp : s.pendingSound = true → t.pendingSound = true)
    (ht : (t.seq.runState, t.seq.stage, t.seq.abortMark) = (.idle, .none, false))
    (hf : s.stageSound = true →
      t.seq.progress = s.seq.progress ∨ t.seq.progress = s.seq.progress.forward) : Work s t := by
  simp only [Prod.mk.injEq] at hc ht
  obtain ⟨c1, c2, c3, c4, c5, c6, c7, c8, c9, c10, c11, c12⟩ := hc
  obtain ⟨t1, t2, t3⟩ := ht
  refine ⟨c1, c2, c3, c4, c5, c6, c8, c9, by simp [State.logBounded, c10], ?_, ?_, c11,
    .inr t2, fun _ hj => c12 ▸ hj⟩
  · intro hs
    simp only [State.standing, Bool.and_eq_true] at hs
    exact .inr ⟨h, t2, hf hs.1.2⟩
  · intro hs
    simp only [State.standing, Bool.and_eq_true] at hs ⊢
    obtain ⟨⟨h1, h2⟩, h3⟩ := hs
    have hcfg : s.seq.config.isSome = true := by
      revert h2 h
      simp only [State.stageSound, Bool.and_eq_true]
      rcases s.seq.runState <;> simp <;> intros <;> simp_all
    have htk : s.faults.taken = none := by
      revert h1 hr
      unfold State.faultMatches
      cases s.faults.taken with
      | none => simp
      | some x => simp only [beq_iff_eq]; split <;> simp_all
    refine ⟨⟨?_, ?_⟩, hp h3⟩
    · simp [State.faultMatches, c7, htk, t1]
    · simp [State.stageSound, t1, t2, t3, c5, hcfg]

theorem running_or_paused {s : State} (h : s.seq.runState = .running ∨ s.seq.runState = .paused) :
    s.seq.runState ≠ .faulted ∧ s.seq.runState ≠ .stopped := by
  rcases h with h | h <;> simp [h]

/-- The progress that a sound state has in each stage (R34). -/
theorem progress_of_stage {s : State} (h : s.stageSound = true) :
    (s.seq.stage = .winch → s.seq.progress = .none) ∧
    (s.seq.stage = .grout → s.seq.progress = .winched) ∧
    (s.seq.stage = .stress → s.seq.progress = .grouted) := by
  simp only [State.stageSound, Bool.and_eq_true] at h
  have := h.1.2
  refine ⟨?_, ?_, ?_⟩ <;> intro e <;> simpa [e] using this

theorem driftDecision_work (s : State) : Work s (driftDecision s) := by
  unfold driftDecision
  dsimp only
  split
  · split
    · split
      · exact .quiet rfl
      · exact .refl s
    · split
      · exact .after (detect_work _ (by simp)) rfl
      · exact .refl s
  · exact .refl s

/-- The end of a stage, where its boundary may be reached (R36). -/
theorem endStage_work (r : Bool) {s : State} (h : s.seq.stage ≠ .none)
    (hr : s.seq.runState = .running ∨ s.seq.runState = .paused) : Work s (endStage r s) := by
  have hr' := running_or_paused hr
  unfold endStage
  split
  · exact .refl s
  · rename_i hs
    dsimp only
    refine Work.trans (t := logEvent .stageEnd argComplete
      (updateWinch (fun w => { w with outcome := .complete }) s)) (.after (logEvent_work _ _ _) rfl) ?_
    refine Work.ends (by simpa using h) (by simpa using hr') rfl id rfl ?_
    intro hp
    right
    simpa [updateWinch, Progress.forward] using
      congrArg Progress.forward ((progress_of_stage hp).1 (by simpa using hs)).symm
  · rename_i hs
    dsimp only
    refine Work.trans (t := logEvent .stageEnd (if r = true then argRefused else argComplete)
      (updateGroutRecord (fun x => { x with mark := if r = true then .refused else .complete })
        (closeGrout s))) (.after (logEvent_work _ _ _) (closeGrout_core s)) ?_
    refine Work.ends (by simpa using h) (by simpa using hr') rfl id rfl ?_
    intro hp
    right
    simpa [updateGroutRecord, Progress.forward] using
      congrArg Progress.forward ((progress_of_stage hp).2.1 (by simpa using hs)).symm
  · rename_i hs
    dsimp only
    refine .since (driftDecision_work _) ?_
    refine Work.trans (t := updateSummary (fun j => { j with jobStatus := .complete })
      (setStepPhase .none
        (logEvent .stageEnd argComplete (logEvent .locked s.eval.summary.lockOutcome.code s))))
      ((((logEvent_work .locked _ s).trans (logEvent_work .stageEnd _ _)).trans
        (setStepPhase_work .none _)).thenQuiet rfl) ?_
    refine Work.ends (by simpa [updateSummary] using h) (by simpa [updateSummary] using hr') rfl id rfl ?_
    intro hp
    right
    simpa [updateSummary, Progress.forward] using
      congrArg Progress.forward ((progress_of_stage hp).2.2 (by simpa using hs)).symm

/-! ## Winch (R103 to R105) -/

theorem winchOn_work (s : State) : Work s (winchOn s) := by
  unfold winchOn; split
  · exact .refl s
  · exact .quiet rfl

theorem lengthDecision_work {reach : Boundary → State → State} (hr : Reaches reach) (s : State) :
    Work s (lengthDecision reach s) := by
  unfold lengthDecision
  split
  · split
    · rename_i h
      simp only [State.winching, Bool.and_eq_true, beq_iff_eq] at h
      refine unaware_work (by simp [h]) ?_ fun u _ _ _ => winchOn_work u
      exact hr.after (.quiet rfl) (.atEnd (by simp [h]) (by simp [h]))
    · exact .refl s
  · exact .refl s

theorem snagAsked_work (u s : State) : Work s (snagAsked u s) := by
  unfold snagAsked
  split
  · exact .after (detect_work _ (by simp)) rfl
  · exact .refl s

theorem snagDecision_work (s : State) : Work s (snagDecision s) := snagAsked_work s s

theorem winchDecisions_work {reach : Boundary → State → State} (hr : Reaches reach) (s : State) :
    Work s (winchDecisions reach s) :=
  besideKinds_work (snagAsked_work s) (lengthDecision_work hr) s

theorem stallReference_work (s : State) : Work s (stallReference s) := by
  unfold stallReference
  split
  · split
    · exact .refl s
    · exact .quiet rfl
  · exact .refl s

theorem stallClock_work (s : State) : Work s (stallClock s) := by
  unfold stallClock
  split
  · split
    · dsimp only
      split
      · exact .after (detect_work _ (by simp)) rfl
      · exact .quiet rfl
    · exact .refl s
  · exact .refl s

/-! ## Grout (R94 to R98, R110 to R114) -/

theorem groutGate_work {reach : Boundary → State → State} (hr : Reaches reach) (s : State) :
    Work s (groutGate reach s) := by
  unfold groutGate
  split
  · rename_i h
    simp only [State.grouting, Bool.and_eq_true, beq_iff_eq] at h
    split
    · exact hr _ s (.plain (by simp [h]) (by simp))
    · split
      · exact hr _ s (.plain (by simp [h]) (by simp))
      · exact .refl s
  · exact .refl s

theorem startClaim_work (s : State) : Work s (startClaim s) := .after (logEvent_work _ _ _) rfl

@[simp] theorem startClaim_seq (s : State) : (startClaim s).seq = s.seq := by
  simp [startClaim]

/-- The bookkeeping of a throttle (R111). -/
theorem onThrottle_work {reach : Boundary → State → State} (hr : Reaches reach) {s : State}
    (h : s.seq.stage ≠ .none) (hrun : s.seq.runState = .running) : Work s (onThrottle reach s) := by
  unfold onThrottle
  dsimp only
  split
  · exact hr.after (.quiet (closeGrout_core (openGrout s))) (.plain (by simpa using h) (by simp))
  · have hm : FaultKind.groutRefusal.maskable = true := rfl
    split
    · exact hr.after (.since (endClaim_work _ _) (.after (detect_work _ (by simp))
        (closeGrout_core (openGrout s))))
        (.atEnd (by simpa using h) (by simp [detect_runState _ _ hm, hrun]))
    · exact hr.after (.since (endClaim_work _ _) (.after (detect_work _ (by simp))
        (closeGrout_core (openGrout s)))) (.plain (by simpa using h) (by simp))

theorem throttleDecision_work {reach : Boundary → State → State} (hr : Reaches reach) (s : State) :
    Work s (throttleDecision reach s) := by
  unfold throttleDecision
  split
  · split
    · rename_i h
      simp only [State.grouting, Bool.and_eq_true, beq_iff_eq] at h
      refine unaware_work (by simp [h]) (onThrottle_work hr (by simp [h]) (by simp [h])) ?_
      intro u _ _ _
      split
      · exact .refl u
      · exact .quiet rfl
    · exact .refl s
  · exact .refl s

theorem reopenDecision_work {reach : Boundary → State → State} (hr : Reaches reach) (s : State) :
    Work s (reopenDecision reach s) := by
  unfold reopenDecision
  split
  · split
    · rename_i h
      simp only [State.grouting, Bool.and_eq_true, beq_iff_eq] at h
      exact hr.after (.quiet rfl) (.plain (by simp [h]) (by simp))
    · exact .refl s
  · exact .refl s

theorem volumeDecision_work {reach : Boundary → State → State} (hr : Reaches reach) (s : State) :
    Work s (volumeDecision reach s) := by
  unfold volumeDecision
  split
  · split
    · rename_i h
      simp only [Bool.and_eq_true, Bool.or_eq_true, beq_iff_eq] at h
      refine unaware_work (by simp [h]) ?_ fun u _ _ _ => .refl u
      exact hr.after (.after (endClaim_work _ _) (closeGrout_core s))
        (.atEnd (by simp [h]) (by simpa using h.1.2))
    · exact .refl s
  · exact .refl s

/-! ## The raise gate (R85 to R90) -/

theorem raiseGate_work {reach : Boundary → State → State} (hr : Reaches reach) (s : State) :
    Work s (raiseGate reach s) := by
  unfold raiseGate
  split
  · rename_i h
    simp only [Bool.and_eq_true, beq_iff_eq] at h
    exact hr _ s (.plain (by simp [h]) (by simp))
  · exact .refl s

theorem withdraw_work {reach : Boundary → State → State} (hr : Reaches reach) {s : State}
    (h : s.seq.stage ≠ .none) : Work s (withdraw reach s) :=
  hr.after (logEvent_work _ _ _) (.plain (by simpa using h) (by simp))

theorem turnBack_work {reach : Boundary → State → State} (hr : Reaches reach) {s : State}
    (h : s.seq.stage ≠ .none) : Work s (turnBack reach s) :=
  hr.after (.after (logEvent_work _ _ _) rfl) (.plain (by simpa using h) (by simp))

/-! ## Ramps and holds (R126 to R131) -/

theorem stepReached_work {s : State} (h : s.seq.stage ≠ .none) : Work s (stepReached s) := by
  unfold stepReached
  dsimp only
  split
  · split
    · exact .after (takePair_work _ h) rfl
    · exact .quiet rfl
  · exact .quiet rfl

@[simp] theorem stepReached_stage (s : State) : (stepReached s).seq.stage = s.seq.stage := by
  unfold stepReached
  dsimp only
  split
  · split
    · simp [handReached]
    · rfl
  · rfl

theorem rampStopped_work {reach : Boundary → State → State} (hr : Reaches reach) {s : State}
    (h : s.seq.stage ≠ .none) : Work s (rampStopped reach s) := by
  unfold rampStopped
  dsimp only
  split <;>
  · refine .since (finishPhase_work hr ?_ (by simp)) (.after (stepReached_work ?_) rfl)
    · simpa using h
    · simpa using h

theorem rampStop_work {reach : Boundary → State → State} (hr : Reaches reach) (b : Bool) (s : State) :
    Work s (rampStop reach b s) := by
  unfold rampStop
  split
  · rename_i h
    simp only [State.stressing, Bool.and_eq_true, beq_iff_eq] at h
    exact unaware_work (by simp [h]) (rampStopped_work hr (by simp [h])) fun u _ _ _ => .quiet rfl
  · exact .refl s

theorem rampSample_work {reach : Boundary → State → State} (hr : Reaches reach) (s : State) :
    Work s (rampSample reach s) :=
  .after (rampStop_work hr _ _) rfl

theorem rampClock_work (s : State) : Work s (rampClock s) := by
  unfold rampClock
  dsimp only
  split
  · exact .after (detect_work _ (by simp)) rfl
  · exact .quiet rfl

theorem enterRampUp_work {reach : Boundary → State → State} (hr : Reaches reach) (s : State) :
    Work s (enterRampUp reach s) :=
  (setStepPhase_work .rampUp s).trans (.after (rampStop_work hr _ _) rfl)

theorem unloadStopped_work {reach : Boundary → State → State} (hr : Reaches reach) (s : State) :
    Work s (unloadStopped reach s) := by
  refine shutLower_work (fun u => ?_) s
  split
  · rename_i h
    simp only [State.stressing, Bool.and_eq_true, beq_iff_eq] at h
    have hs : u.seq.stage ≠ .none := by simp [h]
    exact .since (finishPhase_work hr (by simpa using hs) (by simp)) (stepReached_work hs)
  · exact .refl u

theorem unloadStop_work {reach : Boundary → State → State} (hr : Reaches reach) (s : State) :
    Work s (unloadStop reach s) := by
  unfold unloadStop
  split
  · rename_i h
    simp only [State.stressing, Bool.and_eq_true, beq_iff_eq] at h
    exact unaware_work (by simp [h]) (unloadStopped_work hr s) fun u _ _ _ => .quiet rfl
  · exact .refl s

theorem enterRampDown_work {reach : Boundary → State → State} (hr : Reaches reach) (s : State) :
    Work s (enterRampDown reach s) :=
  (setStepPhase_work .rampDown s).trans (unloadStop_work hr _)

theorem loadMaintenance_work (s : State) : Work s (loadMaintenance s) := by
  unfold loadMaintenance
  split
  · rename_i h
    simp only [Bool.and_eq_true, beq_iff_eq] at h
    split
    · exact unaware_work (by simp [h]) (.quiet rfl) fun u _ _ _ => .refl u
    · exact unaware_work (by simp [h]) (.quiet rfl) fun u _ _ _ => .refl u
  · exact .refl s

theorem enterHold_work (s : State) : Work s (enterHold s) :=
  (setStepPhase_work .hold s).trans (.after (loadMaintenance_work _) rfl)

/-! ## Lock-off (R133 to R136) -/

theorem startSeating_work {reach : Boundary → State → State} (hr : Reaches reach) {s : State}
    (h : s.seq.stage ≠ .none) : Work s (startSeating reach s) := by
  unfold startSeating
  dsimp only
  split
  · exact hr.after (.quiet rfl) (.plain h (by simp))
  · exact .quiet rfl

theorem enterSeating_work {reach : Boundary → State → State} (hr : Reaches reach) {s : State}
    (h : s.seq.stage ≠ .none) : Work s (enterSeating reach s) :=
  (setStepPhase_work .seating s).trans (.after (startSeating_work hr (by simpa using h)) rfl)

theorem startRelease_work {reach : Boundary → State → State} (hr : Reaches reach) {s : State}
    (h : s.seq.stage ≠ .none) : Work s (startRelease reach s) := by
  unfold startRelease
  dsimp only
  split
  · exact hr.after (.quiet rfl) (.plain h (by simp))
  · exact .quiet rfl

theorem enterRelease_work {reach : Boundary → State → State} (hr : Reaches reach) {s : State}
    (h : s.seq.stage ≠ .none) : Work s (enterRelease reach s) :=
  (setStepPhase_work .release s).trans (startRelease_work hr (by simpa using h))

theorem contactWork_work {reach : Boundary → State → State} (hr : Reaches reach) (s : State) :
    Work s (contactWork reach s) := by
  unfold contactWork
  split
  · rename_i h
    simp only [State.stressing, Bool.and_eq_true, beq_iff_eq] at h
    exact hr.after (.quiet rfl) (.plain (by simp [h]) (by simp))
  · split
    · rename_i h
      refine shutLower_work (fun u => ?_) s
      split
      · rename_i h
        simp only [State.stressing, Bool.and_eq_true, beq_iff_eq] at h
        exact hr _ u (.plain (by simp [h]) (by simp))
      · exact .refl u
    · exact .refl s

theorem settleEnd_work {reach : Boundary → State → State} (hr : Reaches reach) (s : State) :
    Work s (settleEnd reach s) := by
  unfold settleEnd
  split
  · rename_i h
    simp only [State.stressing, Bool.and_eq_true, beq_iff_eq] at h
    have hm : FaultKind.lockLoss.maskable = true := rfl
    split
    · exact .refl s
    · dsimp only
      split
      · exact hr.after (.after (detect_work _ (by simp)) rfl)
          (.atEnd (by simp [h]) (by simp [detect_runState _ _ hm, h]))
      · exact hr.after (.quiet rfl) (.atEnd (by simp [h]) (by simp [h]))
  · exact .refl s

theorem lockOffClock_work {reach : Boundary → State → State} (hr : Reaches reach) (s : State) :
    Work s (lockOffClock reach s) := by
  unfold lockOffClock
  dsimp only
  split
  · split
    · exact .after (detect_work _ (by simp)) rfl
    · exact .quiet rfl
  · split
    · exact .after (shutLower_work (fun _ => detect_work _ (by simp)) _) rfl
    · exact .quiet rfl
  · split
    · exact .after (settleEnd_work hr _) rfl
    · exact .quiet rfl
  · exact .quiet rfl

/-! ## Steps (R124, R125) -/

theorem lockApproach_work {reach : Boundary → State → State} (hr : Reaches reach) (b : Bool)
    (s : State) : Work s (lockApproach reach b s) := by
  unfold lockApproach
  split
  · rename_i h
    simp only [State.stressing, Bool.and_eq_true, beq_iff_eq] at h
    dsimp only
    split
    · exact .refl s
    · exact .after (raiseGate_work hr _) rfl
    · split
      · exact .after (enterRampDown_work hr _) rfl
      · exact hr.after (.quiet rfl) (.plain (by simp [h]) (by simp))
    · split
      · exact .after (enterSeating_work hr (by simp [h])) rfl
      · exact hr.after (.quiet rfl) (.plain (by simp [h]) (by simp))
  · exact .refl s

theorem raiseWaitWork_work {reach : Boundary → State → State} (hr : Reaches reach) (s : State) :
    Work s (raiseWaitWork reach s) := by
  unfold raiseWaitWork
  split
  · exact lockApproach_work hr _ _
  · exact raiseGate_work hr _

theorem beginStep_work {reach : Boundary → State → State} (hr : Reaches reach) (i : Nat) (s : State) :
    Work s (beginStep reach i s) := by
  unfold beginStep
  dsimp only
  have h0 : Work s (logEvent .stepStart i
      { s with jack := { s.jack with stepIndex := i, approach := .none } }) :=
    .after (logEvent_work _ _ _) rfl
  refine h0.trans ?_
  generalize logEvent .stepStart i { s with jack := { s.jack with stepIndex := i, approach := .none } } = t
  split
  · exact .refl t
  · rename_i x _
    refine Work.trans (t := { t with
      eval := { t.eval with results := t.eval.results ++ [StepEntry.opened i x] } }) (.quiet rfl) ?_
    generalize ({ t with
      eval := { t.eval with results := t.eval.results ++ [StepEntry.opened i x] } } : State) = u
    split
    · exact (setStepPhase_work .raiseWait u).trans (.after (raiseGate_work hr _) rfl)
    · exact enterRampDown_work hr u
    · exact (setStepPhase_work .raiseWait u).trans (.after (lockApproach_work hr _ _) rfl)

theorem afterRamp_work {reach : Boundary → State → State} (hr : Reaches reach) {s : State}
    (h : s.seq.stage ≠ .none) : Work s (afterRamp reach s) := by
  unfold afterRamp
  split
  · split
    · exact enterSeating_work hr h
    · split
      · exact beginStep_work hr _ _
      · exact enterHold_work s
  · exact .refl s

/-! ## Passing a boundary (R40) -/

theorem proceed_work (n : Nat) : ∀ (b : Boundary) (s : State), Ready b s → Work s (proceed n b s) := by
  induction n with
  | zero => intro b s _; exact .refl s
  | succ n ih =>
    intro b s h
    have hr : Reaches (reachWith (proceed n)) := fun b s h => reachWith_work h (ih b s h)
    unfold proceed
    dsimp only
    have h' : Ready b { s with seq := { s.seq with held := none } } := h
    refine Work.trans (t := { s with seq := { s.seq with held := none } }) (.quiet rfl) ?_
    generalize hu : ({ s with seq := { s.seq with held := none } } : State) = u at h'
    have hs := h'.1
    cases b <;> dsimp only
    case raiseWaitEnd => exact (setStepPhase_work .raiseIntent u).thenQuiet rfl
    case raiseIntentEnd => exact enterRampUp_work hr u
    case withdrawn => exact (setStepPhase_work .raiseWait u).trans (raiseGate_work hr _)
    case turnedBack => exact (setStepPhase_work .raiseWait u).trans (.after (raiseGate_work hr _) rfl)
    case gateTimeout => exact .after (raiseWaitWork_work hr _) rfl
    case approachAbove => exact enterRampDown_work hr u
    case approachWithin => exact enterSeating_work hr hs
    case rampUpEnd => exact afterRamp_work hr hs
    case rampDownEnd => exact afterRamp_work hr hs
    case holdEnd => exact .after (beginStep_work hr _ _) rfl
    case seatingEnd => exact enterRelease_work hr hs
    case releaseEnd => exact (setStepPhase_work .settle u).thenQuiet rfl
    case groutWaitEnd => exact .quiet (hu ▸ rfl)
    case groutWaitDraw => exact (startClaim_work u).trans (throttleDecision_work hr _)
    case groutIntentEnd => exact (startClaim_work u).trans (throttleDecision_work hr _)
    case gaveWay => exact .quiet rfl
    case throttled => exact .after (logEvent_work _ _ _) rfl
    case reopened => exact .after (throttleDecision_work hr _) rfl
    case claimLimit => exact .quiet (hu ▸ rfl)
    case refusal => exact .after (groutGate_work hr _) rfl
    case restEnd => exact .after (groutGate_work hr _) rfl
    case stageEnd r => exact endStage_work r hs (h'.2 r rfl)

/-- Reaching a boundary is work. -/
theorem reach_work : Reaches reach := fun b s h => reachWith_work h (proceed_work _ b s h)

theorem passHeld_work {b : Boundary} {s : State} (h : s.seq.stage ≠ .none)
    (hr : s.seq.runState = .running) : Work s (passHeld b s) :=
  reachWith_work ⟨h, fun _ _ => .inl hr⟩ (proceed_work _ _ s ⟨h, fun _ _ => .inl hr⟩)

end Sys2Proof.Machine
end

