-- ==== Sys2Proof/Laws/Events.lean ====
section
/-!
SUPPORT. What the close of an event can do, said once (Machine/Notices.lean), with the decisions that stand in every
run state, the abort, the entry into PAUSED and the clocks of a stage.
-/
namespace Sys2Proof.Machine

/-! ## Drives (R53) -/

theorem closeGrout_shut {s : State} (h : s.drives.grout = false) : closeGrout s = s := by
  simp [closeGrout, h]

/-- Where every drive stands in its row there is nothing to shut. -/
theorem enforceDrives_of_legal {s : State} (h : s.drivesLegal = true) : enforceDrives s = s := by
  simp only [State.drivesLegal, Bool.and_eq_true, Bool.or_eq_true, Bool.not_eq_true'] at h
  obtain ⟨⟨⟨⟨⟨hr, hl⟩, hs⟩, hg⟩, hw⟩, _⟩ := h
  have hgrout : (if s.groutAllowed = true then s else closeGrout s) = s := by
    rcases hg with hg | hg
    · simp [closeGrout_shut hg]
    · simp [hg]
  have e : ∀ {a b : Bool}, a = false ∨ b = true → (a && b) = a := by
    intro a b; cases a <;> cases b <;> simp
  unfold enforceDrives
  rw [hgrout]
  simp only [e hr, e hl, e hs, e hw]

theorem raise_lower_apart (s : State) : (s.raiseAllowed && s.lowerAllowed) = false := by
  simp only [State.raiseAllowed, State.lowerAllowed]
  rcases s.seq.stage <;> rcases s.seq.runState <;> rcases s.jack.phase <;> rfl

theorem legal_bool (a A c C d D g G w W : Bool) (h : (A && C) = false) (hg : g = true → G = true) :
    ((!(a && A) || A) && (!(c && C) || C) && (!(d && D) || D) && (!g || G) && (!(w && W) || W) &&
      !((a && A) && (c && C))) = true := by
  cases A <;> cases C <;> cases g <;> cases D <;> cases W <;> simp_all

/-- After every drive is put back into its row, every drive stands in its row. -/
theorem enforceDrives_legal (s : State) : (enforceDrives s).drivesLegal = true := by
  have key : ∀ u : State, (u.drives.grout = true → u.groutAllowed = true) →
      State.drivesLegal
        { u with
          drives :=
            { u.drives with
              raise := u.drives.raise && u.raiseAllowed
              lower := u.drives.lower && u.lowerAllowed
              seating := u.drives.seating && u.seatingAllowed
              winch := u.drives.winch && u.winchAllowed } } = true :=
    fun u hu => legal_bool _ _ _ _ _ _ _ _ _ _ (raise_lower_apart u) hu
  unfold enforceDrives
  dsimp only
  split
  · exact key _ fun _ => ‹_›
  · refine key _ fun h => ?_
    exfalso
    revert h
    unfold closeGrout
    split <;> simp_all

theorem enforceDrives_work (s : State) : Work s (enforceDrives s) := by
  unfold enforceDrives
  dsimp only
  split
  · exact .quiet rfl
  · exact .after (.quiet rfl) (closeGrout_core s)

/-- The last part of every event: drives in their rows (R53), the queue of commands as it was. -/
theorem secure_legal (s t : State) : (secure s t).drivesLegal = true := enforceDrives_legal t

theorem secure_queue (s t : State) : (secure s t).pending = s.pending := rfl

theorem secure_of_legal {s t : State} (h : t.drivesLegal = true) (hq : t.pending = s.pending) :
    secure s t = t := by
  unfold secure
  rw [enforceDrives_of_legal h, ← hq]

/-! ## The decisions of every run state (R137, R138) -/

theorem watchDecisions_work (s : State) : Work s (watchDecisions s) := watchAsked_work s s

theorem State.watchQuiet_overloaded {s : State} (h : s.watchQuiet = true) : s.overloaded = false := by
  unfold State.overloaded
  unfold State.watchQuiet at h
  cases hc : s.seq.config with
  | none => rfl
  | some g => simp [hc] at h; simp [h]

theorem State.watchQuiet_strokeEnded {s : State} (h : s.watchQuiet = true) : s.strokeEnded = false := by
  unfold State.strokeEnded
  unfold State.watchQuiet at h
  cases hc : s.seq.config with
  | none => rfl
  | some g => simp [hc] at h; simp [h]

/-- Where neither decision gave true when it was asked, nothing is detected. -/
theorem watchAsked_quiet {u : State} (h : u.watchQuiet = true) (s : State) : watchAsked u s = s := by
  unfold watchAsked detectIf
  rw [eitherOrder_eq] <;> simp [State.watchQuiet_overloaded h, State.watchQuiet_strokeEnded h]

theorem watchDecisions_quiet {s : State} (h : s.watchQuiet = true) : watchDecisions s = s :=
  watchAsked_quiet h s

/-- Work beside decisions that gave false acts alone (R137, R138). -/
theorem beginWork_quiet {work : State → State} {t : State} (h : t.watchQuiet = true) :
    beginWork work t = work t :=
  besideKinds_quiet (watchAsked_quiet h) t

/-- A closing of the lower valve with no overload and no stroke due brings its own work only (R137, R138). -/
theorem shutLower_quiet {work : State → State} {s : State} (h : s.watchQuiet = true) :
    shutLower work s = work { s with drives := { s.drives with lower := false } } := by
  unfold shutLower
  dsimp only
  split
  · exact besideKinds_quiet
      (watchAsked_quiet (u := { s with drives := { s.drives with lower := false } }) h) _
  · rfl

/-! ## Channels still lost (R46) -/

theorem lossAsked_work (u s : State) : Work s (lossAsked u s) := by
  unfold lossAsked
  generalize ChannelName.all.filter u.standsLost = l
  induction l generalizing s with
  | nil => exact .refl s
  | cons c l ih => exact eitherOrder_all (fun _ => detect_work _ (by simp)) ih s

/-- With no channel still lost none is detected. -/
theorem lossAsked_none {u : State} (h : ∀ c, u.standsLost c = false) (s : State) : lossAsked u s = s := by
  unfold lossAsked
  rw [List.filter_eq_nil_iff.mpr fun c _ => by simp [h c]]
  rfl

theorem acknowledgedKinds_work (u s : State) : Work s (acknowledgedKinds u s) :=
  eitherOrder_all (watchAsked_work u) (lossAsked_work u) s

/-! ## Notices (R62, R83) -/

/-- A notice request changes the slot, the follow-on mark, the loss count and the own sequence, and nothing else. -/
theorem requestNotice_shape (s : State) :
    requestNotice s =
      { s with
        line :=
          { s.line with
            slot := (requestNotice s).line.slot, followOn := (requestNotice s).line.followOn
            lossCount := (requestNotice s).line.lossCount }
        table := { s.table with ownSequence := (requestNotice s).table.ownSequence } } := by
  unfold requestNotice placeNotice
  split
  · rfl
  · split
    · rfl
    · split <;> rfl

/-- A follow-on notice changes those four and nothing else (R62). -/
theorem followOnNotice_shape (s : State) :
    followOnNotice s =
      { s with
        line :=
          { s.line with
            slot := (followOnNotice s).line.slot, followOn := (followOnNotice s).line.followOn
            lossCount := (followOnNotice s).line.lossCount }
        table := { s.table with ownSequence := (followOnNotice s).table.ownSequence } } := by
  unfold followOnNotice placeNotice
  split <;> rfl

/-- A prompt notice is a notice request or nothing (R83). -/
theorem prompt_cases (s t : State) : prompt s t = t ∨ prompt s t = requestNotice t := by
  unfold prompt; split
  · exact .inr rfl
  · exact .inl rfl

/-- No change of the notice phase or of a flag, no prompt notice (R83). -/
theorem prompt_same {s t : State} (h : t.announced = s.announced) : prompt s t = t := by
  simp [prompt, h]

/-! ## The close of an event -/

theorem settle_work (s t : State) : Work t (settle s t) := by
  unfold settle
  dsimp only
  split
  · exact ((enforceDrives_work t).trans (watchDecisions_work _)).trans (enforceDrives_work _)
  · exact enforceDrives_work t

/-- An event that moves neither the run state nor the lower valve, and leaves every drive in its row, closes with
its own effects. -/
theorem settle_same {s t : State} (h : t.drivesLegal = true) (hr : t.seq.runState = s.seq.runState)
    (hl : t.drives.lower = s.drives.lower) : settle s t = t := by
  simp [settle, enforceDrives_of_legal h, hr, hl]

/-- An event whose effects leave the decisions of every run state false, and every drive in its row, closes with its
own effects. -/
theorem settle_quiet {s t : State} (h : t.drivesLegal = true) (hq : t.watchQuiet = true) :
    settle s t = t := by
  simp [settle, enforceDrives_of_legal h, watchDecisions_quiet hq]

/-! ## Bit times and samples -/

/-- Bit times pass one after another. -/
theorem bitTimes_append (pre bits : List BitTime) (s : State) :
    bitTimes (pre ++ bits) s = bitTimes bits (bitTimes pre s) := by
  simp [bitTimes, List.foldl_append]

/-- A row of the wall line is the bit times before its last, and that last one (log 40). -/
@[simp] theorem lineEvent_last (pre : List BitTime) (b : BitTime) (s : State) :
    lineEvent (pre ++ [b]) s = bitTime (bitTimes pre s) b := by
  simp [lineEvent, bitTimes]

/-- With no overload, stroke or loss on the value, a channel other than LOAD detects nothing beside the stage's side of its
event (R12, R13). -/
theorem watchAt_quiet {c : ChannelName} (hc : c ≠ .load) (s : State) : watchAt c none false s = s := by
  simp [watchAt, lossWatch, hc]

/-- Where nothing is due on the value, a sample event is the stage's side of it, and the channel bears no mark of a loss
(R2, R12). -/
theorem sampleWork_quiet {i : SampleInput} {r : Option ContactRead} {s : State} (hc : inputChannel i ≠ .load)
    (hk : (takeSample i s).watchKind (inputChannel i) = none)
    (hl : (takeSample i s).standsLost (inputChannel i) = false) :
    sampleWork i r s = markLost (inputChannel i) false (eventWork (inputChannel i) r (takeSample i s)) := by
  simp only [sampleWork, hk, hl]
  rw [besideKinds_quiet (watchAt_quiet hc)]

/-! ## Abort, PAUSED and the clocks of a stage -/

theorem pausedDecisions_work (s : State) : Work s (pausedDecisions s) :=
  (loadMaintenance_work s).trans (volumeDecision_work reach_work _)

theorem gateClock_work {s : State} (h : s.seq.stage ≠ .none) : Work s (gateClock s) := by
  unfold gateClock
  dsimp only
  split
  · refine Work.trans (t := { s with table := { s.table with gateTimer := s.table.gateTimer + 1 } })
      (.quiet rfl) ?_
    generalize hu : ({ s with table := { s.table with gateTimer := s.table.gateTimer + 1 } } : State) = u
    have hs : u.seq.stage ≠ .none := by rw [← hu]; exact h
    split
    · have hd : Work u (detect .gateTimeout .none u) := detect_work _ (by simp)
      split
      · exact hd
      · refine (hd.trans (setStepPhase_work .raiseWait _)).trans
          (reach_work _ _ (.plain ?_ (by simp)))
        simpa using hs
    · exact .refl u
  · exact .refl s

theorem stageClocks_work {s : State} (h : s.seq.stage ≠ .none) : Work s (stageClocks s) := by
  unfold stageClocks
  split
  · exact .refl s
  · exact .refl s
  · exact stallClock_work s
  · split
    · exact .after (holdClockWork_work reach_work (by simpa using h)) rfl
    · split
      · split
        · exact gateClock_work h
        · exact gateClock_work h
        · exact rampClock_work s
        · exact lockOffClock_work reach_work s
        · exact lockOffClock_work reach_work s
        · exact lockOffClock_work reach_work s
        all_goals exact .refl s
      · exact .refl s

end Sys2Proof.Machine
end

