-- ==== Sys2Proof/Tests/Slice0.lean ====
section
/-!
SUPPORT. Tests: the well-formedness checks, the worked figures of spec/, and for every statement with hypotheses a
concrete state and operands that meet them, clause by clause.
-/
namespace Sys2Proof.Tests
open Sys2Proof Sys2Proof.Machine

/-! ## Small stations -/

/-- The figures of a station 5 at bay 100 on grout main 1. -/
def figures : Setup where
  station := 5
  bay := 100
  row := 1
  span := 2
  main := 1
  concurrency := 2
  claimLimit := 1
  cureTime := 24
  groutAge := 100
  progress := .grouted
  lockedLoad := 0
  area := 1120
  modulus := 195000
  freeLength := 14000
  bondLength := 8000
  loadLimit := 6000
  strokeLimit := 200000
  loadTolerance := 50
  rampRate := 60
  imbalanceLimit := 3000
  driftBand := 300
  lockTolerance := 200
  creepLimit := 200
  gateTimeout := 1
  filterLoad := 1
  filterExt := 1
  filterGp := 1
  filterGv := 1
  filterWl := 1
  filterWt := 1
  logInterval := 2
  initialMask := []

/-- The SETUP body of those figures, in the fields of R189. -/
def figuresBody : List Byte :=
  [5, 0, 100, 1, 2, 1, 2, 1, 24, 0, 100, 2, 0, 0] ++
  [4, 96, 2, 249, 184, 54, 176, 31, 64, 23, 112, 3, 13, 64, 50, 0, 60, 11, 184, 1, 44, 0, 200] ++
  [0, 200, 1, 1, 1, 1, 1, 1, 1, 2, 0, 0]

/-- A filter of length 1 that holds one value. -/
def channelAt (v : Nat) : Channel :=
  { filterLen := 1, window := [{ value := v, overMark := false }], voidRun := 0, refilled := false,
    lostBefore := false }

/-- A configured station in IDLE: filters full, line quiet. -/
def idle : State :=
  { State.reset with
    chans :=
      { State.reset.chans with
        load := channelAt 400, ext := channelAt 1000, gp := channelAt 100, gv := channelAt 0
        wl := channelAt 100, wt := channelAt 10 }
    seq :=
      { State.reset.seq with
        runState := .idle, progress := .grouted, config := some figures
        cure := { hours := 100, seconds := 3599, running := true, half := true } }
    line := { State.reset.line with state := .idle, recRun := 12 } }

def withLoad (v : Nat) (s : State) : State := { s with chans := { s.chans with load := channelAt v } }

def withRun (r : RunState) (s : State) : State := { s with seq := { s.seq with runState := r } }

/-- A taken fault of a kind. -/
def takenOf (k : FaultKind) : TakenFault :=
  { kind := k, detail := .none, stage := .stress, stepIndex := 1, phase := .none, load := none, time := 0 }

def withTaken (k : FaultKind) (r : RunState) (s : State) : State :=
  withRun r { s with faults := { s.faults with taken := some (takenOf k) } }

def withMask (ks : List FaultKind) (s : State) : State := { s with faults := { s.faults with mask := ks } }

def withEntries (es : List Entry) (s : State) : State := { s with table := { s.table with entries := es } }

def withHeld (b : Boundary) (s : State) : State := { s with seq := { s.seq with held := some b } }

/-- The configuration with another grout main. -/
def onMain (m : Nat) (s : State) : State :=
  { s with seq := { s.seq with config := some { figures with main := m } } }

/-- An entry of a quiet neighbour. -/
def quietEntry (n age : Nat) : Entry :=
  { station := n, bay := 101, row := 1, main := 1, phase := .quiet
    flags := ⟨false, false, false, false, false, false⟩, load := none, locked := some 0, drawAge := 0
    sequence := 7, age := age, lapsed := false, overstay := false }

/-- A station that holds its load at the span's edge. -/
def holdingEntry (n : Nat) : Entry := { quietEntry n 0 with bay := 102, phase := .holding }

/-- A drawer on the own main. -/
def drawerEntry (n : Nat) : Entry :=
  { quietEntry n 0 with phase := .grouting, flags := ⟨false, false, true, false, false, false⟩ }

def loadStep (target hold : Nat) (evaluate extend : Bool) : ScheduleStep :=
  { kind := .load, target := target, hold := hold, datum := false, evaluate := evaluate, extend := extend
    elastic := false }

def lockStep (target : Nat) : ScheduleStep := { loadStep target 0 false false with kind := .lock }

/-- A winch stage in RUNNING, at an even tick of the job clock. -/
def winching (timer : Nat) : State :=
  { idle with
    seq :=
      { idle.seq with stage := .winch, runState := .running, progress := .none, jobHalf := true, jobClock := 8 }
    drives := { Drives.off with winch := true }
    winch :=
      some { target := 24000, snag := 180, stallRef := some 100, stallTimer := timer, installed := none
             outcome := .inProgress } }

/-- A grout stage in RUNNING in a phase, with or without a claim. -/
def grouting (phase : GroutPhase) (claim : Option Claim) : State :=
  { idle with
    seq :=
      { idle.seq with stage := .grout, runState := .running, progress := .winched, jobHalf := true, jobClock := 8 }
    grout :=
      { record :=
          some { target := 85, limit := 1500, reopen := 1350, claimsMade := 1, throttles := 0
                 mark := .inProgress }
        phase := phase, claim := claim, restTicks := 119, intentTicks := 1 } }

/-- A stress stage in RUNNING at step 1 of a schedule of the given first step, a LOAD step and a LOCK step. -/
def stressing (phase : StepPhase) (first : ScheduleStep) : State :=
  { idle with
    seq :=
      { idle.seq with stage := .stress, runState := .running, jobHalf := true, jobClock := 8 }
    jack :=
      { idle.jack with
        schedule := [first, loadStep 5000 0 false false, lockStep 4000], stepIndex := 1, phase := phase }
    eval :=
      { idle.eval with
        results := [StepEntry.opened 1 first]
        summary := { JobSummary.cleared with jobStatus := .running } } }

/-- A HOLD whose clock stands one second before `seconds`. -/
def holdingAt (seconds len : Nat) (first : ScheduleStep) : State :=
  { stressing .hold first with
    jack := { (stressing .hold first).jack with holdClock := seconds - 1, holdLength := some len } }

/-- That HOLD with a first reading of extension `a` in the entry and `b` on EXT. -/
def creeping (a b : Nat) (outcome : StepOutcome) (first : ScheduleStep) : State :=
  { holdingAt 600 10 first with
    chans := { idle.chans with ext := channelAt b }
    eval :=
      { idle.eval with
        results :=
          [{ StepEntry.opened 1 first with
             readings := [{ index := 1, minutes := 1, ext := some a, load := none }], outcome := outcome }] } }

/-- A current whose sample on a channel of the given top is `v`, within the range. -/
def current (top v : Nat) : Nat := 4000000 + (v * 16000000 + top / 2) / top

/-- The state that a command leaves. -/
def after (c : Instr) (s : State) : State :=
  match exec c s with
  | .next t => t
  | .fault _ => s
  | .refused _ => s

def dominant : BitTime := { first := true, second := true, third := true, driverFails := false }
def recessive : BitTime := { first := false, second := false, third := false, driverFails := false }

/-- A station whose line is BUSY with the given runs. -/
def lineAt (domRun recRun : Nat) : State :=
  { idle with line := { idle.line with state := .busy, domRun := domRun, recRun := recRun } }

/-- The levels of a contact read with nothing closed and ESTOP closed. -/
def quietRead : ContactRead :=
  { seatClosed := false, jackHomeClosed := false, flowFaultClosed := false, estopOpen := false }

/-! ## Well-formedness: one ill-formed term for each check -/

theorem test_ill_formed_body : (Instr.pause (List.replicate 61 0)).wellFormed = false := by decide
theorem test_ill_formed_overlap : (Instr.overlappedRequest 1 (List.replicate 61 0)).wellFormed = false := by decide
theorem test_ill_formed_code : (Instr.undefinedRequest 16 []).wellFormed = false := by decide
theorem test_ill_formed_undefined_body :
    (Instr.undefinedRequest 17 (List.replicate 61 0)).wellFormed = false := by decide
theorem test_ill_formed_chars : (Instr.requestFrameDiscard []).wellFormed = false := by decide
theorem test_ill_formed_station : (Instr.entryLapsed 0).wellFormed = false := by decide
theorem test_ill_formed_station_high : (Instr.entryRemoved 64).wellFormed = false := by decide
theorem test_ill_formed_bits : (Instr.lineIdle []).wellFormed = false := by decide
theorem test_well_formed : (Instr.undefinedRequest 17 (List.replicate 60 0)).wellFormed = true := by decide

/-! ## The worked figures of spec/ -/

/-- R3's table for LOAD. -/
theorem test_loop_currents :
    loopSample 60000 3500000 = none ∧ loopSample 60000 3800000 = some ⟨0, true⟩ ∧
    loopSample 60000 12000000 = some ⟨30000, false⟩ ∧ loopSample 60000 20500000 = some ⟨60000, true⟩ ∧
    loopSample 60000 21200000 = none := by decide

/-- 1.4, the dropout on LOAD at N = 4: the filtered values after events 1 to 7. -/
theorem test_dropout :
    let c : Channel :=
      { filterLen := 4, window := [⟨30004, false⟩, ⟨30006, false⟩, ⟨30008, false⟩, ⟨30010, false⟩], voidRun := 0
        refilled := false, lostBefore := false }
    let c1 := c.take (some ⟨30014, false⟩)
    let c5 :=
      (((c1.take none).take (some ⟨30020, false⟩)).take (some ⟨30022, false⟩)).take (some ⟨30018, false⟩)
    let c6 := c5.take (some ⟨30024, false⟩)
    c1.value = some 30010 ∧ c5.value = none ∧ c5.voidRun = 4 ∧ c6.value = some 30021 ∧
    c6.refilled = true ∧ c6.voidRun = 0 ∧ (c6.take (some ⟨30026, false⟩)).value = some 30023 := by decide

/-- R18's table. -/
theorem test_comparator :
    compare (some 11948) 12000 50 = .below ∧ compare (some 11950) 12000 50 = .within ∧
    compare (some 12050) 12000 50 = .within ∧ compare (some 12051) 12000 50 = .above ∧
    compare (some 1350) 1350 0 = .within ∧ compare (some (-412)) 200 0 = .below ∧
    compare none 12000 50 = .void := by decide

/-- The check value of this CRC over the nine digits 1 to 9, as it is commonly published. -/
theorem test_crc : crc16 [49, 50, 51, 52, 53, 54, 55, 56, 57] = 0x29B1#16 := by decide +kernel

/-- R64: stations 12 and 20 both wait 67 bit times. -/
theorem test_backoff : backoffRun 12 = 67 ∧ backoffRun 20 = 67 := by decide

/-- R55: the first character of station 12, marked: start, 00001100 with 0 dominant, mark, stop. -/
theorem test_first_character :
    (List.range 11).map (frameBit [12]) =
      [true, true, true, true, true, false, false, true, true, true, false] := by decide

/-- 5.1.1, a full table takes a newcomer: of the candidates 12, 51 and 27, station 51 is given up. -/
theorem test_full_table :
    let e (n bay main : Nat) : Entry := { quietEntry n 0 with bay := bay, main := main }
    let s :=
      withEntries [e 8 102 4, e 12 80 0, e 27 94 5, e 44 130 2, e 51 120 5]
        { idle with
          seq := { idle.seq with config := some { figures with station := 30, span := 3, main := 2 } } }
    s.entryToGiveUp.map Entry.station = some 51 := by decide

/-- The schedule of 7.2's worked example, with the figures its operator changes. -/
def schedule (hold3 target6 : Nat) : List ScheduleStep :=
  [{ loadStep 1000 1 false false with datum := true }, loadStep 5000 1 false false,
   loadStep 10000 hold3 true false,
   { loadStep 1000 1 false false with kind := .unload, elastic := true }, loadStep 8000 0 false false,
   loadStep target6 15 true true, lockStep 10500]

/-- 7.2: three refusals and the acceptance. -/
theorem test_schedule_refusals :
    scheduleRefusal 15000 (schedule 3 16000) = some (.scheduleOrder, 3) ∧
    scheduleRefusal 15000 (schedule 5 16000) = some (.scheduleOrder, 6) ∧
    scheduleRefusal 15000 (schedule 5 9500) = some (.scheduleOrder, 6) ∧
    scheduleRefusal 15000 (schedule 5 12000) = none := by decide

/-- 7.6: the ramp allowance, and the rate limit at a rise of 6 and of 7 in a second. -/
theorem test_ramp :
    rampAllowance 5000 1012 40 = 1256 ∧ rateHolds 40 [some 1206, some 1212] = false ∧
    rateHolds 40 [some 1212, some 1219] = true := by decide

/-- 7.5, the lock check: 10230 is SHORT of 10500 with tolerance 200; 10300 is not. -/
theorem test_lock_check :
    lockOutcomeOf 10230 10500 200 = .loss ∧ lockOutcomeOf 10300 10500 200 = .pass := by decide

/-- 8.8: the two evaluations of the extended hold, and their verdicts. -/
theorem test_creep :
    creepOf 48120 48370 (logTable 10 - logTable (pairStart 10)) = 250 ∧
    creepVerdict (.value 250) 200 true true 10 = .extend ∧ extendedLength 10 = 30 ∧
    creepOf 48230 48410 (logTable 30 - logTable (pairStart 30)) = 180 ∧
    creepVerdict (.value 180) 200 false true 30 = .pass ∧
    creepVerdict (.value 230) 200 false true 30 = .excess := by decide

/-- R151: a tie goes away from zero, and the result saturates. -/
theorem test_creep_rounding :
    roundTiesAway 5 2 = 3 ∧ roundTiesAway (-5) 2 = -3 ∧ creepOf 0 30000 6990 = 32767 ∧
    creepOf 30000 0 6990 = -32767 := by decide

/-- 8.9: the apparent free length, its bounds and its outcome. -/
theorem test_apparent_length :
    apparentLength 1120 195000 (some 8943) (some 52260) = some 12763 ∧ lengthLower 14000 = 11200 ∧
    lengthUpper 14000 8000 = 18000 ∧ lengthOutcomeOf 12763 11200 18000 = .pass := by decide

/-- A record with MEAS and an event, 11 bytes, and a periodic one, 9 bytes. -/
def eventRecord : LogRecord :=
  { field := some (.meas none none), time := 0, event := some (.reading, 5), gap := false, refilled := false }
def plainRecord : LogRecord := { eventRecord with event := none }

/-- A store of 4090 bytes with the head records of 10.3's worked example. -/
def fullLog : List LogRecord :=
  eventRecord :: eventRecord :: plainRecord :: List.replicate 369 eventRecord

/-- 10.3: the reading record and the periodic record, in either order, end at 4088 bytes with GAP on both. -/
theorem test_full_store :
    logUsed fullLog = 4090 ∧ logUsed (appendRecord fullLog eventRecord) = 4090 ∧
    logUsed (appendRecord (appendRecord fullLog eventRecord) plainRecord) = 4088 ∧
    logUsed (appendRecord (appendRecord fullLog plainRecord) eventRecord) = 4088 ∧
    (appendRecord fullLog plainRecord).getLast?.map LogRecord.gap = some true := by decide +kernel

/-- 11.6: a GV filter length of 12 is refused with RANGE, field 28; the figures above are accepted. -/
theorem test_setup_fields :
    setupRefusal (figuresBody.set 43 12) = some (.range, 28) ∧ setupRefusal figuresBody = none ∧
    setupOf figuresBody = figures := by decide

/-- R195, R196, R198: the sizes of the layouts. -/
theorem test_layout_sizes :
    (statusRecord idle).length = 78 ∧ (entryBytes idle (quietEntry 9 0)).length = 15 ∧
    (summaryBytes idle.eval.summary).length = 14 ∧
    (stepEntryBytes (StepEntry.opened 1 (lockStep 4000))).length = 18 ∧
    (formNotice idle).length = 15 := by decide

/-! ## Commands -/

/-- R32, R33: SETUP from power-up gives IDLE with the progress of its field. -/
theorem test_setup :
    (after (.setup figuresBody) State.reset).seq.runState = .idle ∧
    (after (.setup figuresBody) State.reset).seq.progress = .grouted := by decide +kernel

/-- R186: READ_STATUS before SETUP is refused with NOT_CONFIGURED. -/
theorem test_not_configured :
    (after (.readStatus []) State.reset).port.reply.map Reply.outcome = some 1 := by decide +kernel

/-- R186: a code of none of the sixteen is refused with RANGE. -/
theorem test_undefined :
    (after (.undefinedRequest 17 []) idle).port.reply.map Reply.outcome = some 4 := by decide +kernel

/-- R185: a frame taken character by character is its request. -/
theorem test_characters :
    (after .replySent (after .replyStart
      (receiveChars (requestChars codeClearSeen []) idle))).port.lastSent =
      some (replyFrame ⟨11, 0, 0, [], true⟩ false) := by decide +kernel

/-- R34, check 5: START_STRESS below the cure time is refused with NOT_CURED. -/
theorem test_not_cured :
    (after (.startStress [])
        { idle with seq := { idle.seq with cure := { idle.seq.cure with hours := 23 } } }).port.reply.map
      Reply.outcome = some 6 := by decide +kernel

/-- R102, R103: a winch stage below its target turns the drive on. -/
theorem test_start_winch :
    (after (.startWinch [0, 93, 192, 0, 180])
      { idle with seq := { idle.seq with progress := .none } }).drives.winch = true := by decide +kernel

/-- R98: on main 0 a grout stage begins in DRAW with the valve open. -/
theorem test_start_grout :
    (after (.startGrout [0, 0, 85, 5, 220])
      (onMain 0 { idle with seq := { idle.seq with progress := .winched } })).drives.grout = true := by
  decide +kernel

/-- R42: PAUSE in DRAW closes the valve and keeps the claim. -/
theorem test_pause :
    let s := after (.pause [])
      { grouting .draw (some ⟨5, 0⟩) with drives := { Drives.off with grout := true } }
    s.drives.grout = false ∧ s.grout.claim = some ⟨5, 0⟩ ∧ s.chans.drainOpen = true := by decide +kernel

/-- R49: ABORT of a stress stage begins the lowering. -/
theorem test_abort :
    (after (.abort []) (stressing .hold (loadStep 1000 5 true false))).seq.runState = .aborting ∧
    (after (.abort []) (stressing .hold (loadStep 1000 5 true false))).drives.lower = true := by
  decide +kernel

/-- R126: the ramp stop at 950 for a target of 1000 with tolerance 50, and not at 949. -/
theorem test_ramp_stop :
    let s := { stressing .rampUp (loadStep 1000 5 true false) with drives := { Drives.off with raise := true } }
    (after (.sampleEvent (.load 4254000) none) s).jack.phase = .hold ∧
    (after (.sampleEvent (.load 4253000) none) s).jack.phase = .rampUp := by decide +kernel

/-- R137: over the tendon load limit the work stops. -/
theorem test_overload :
    (after (.sampleEvent (.load 5601000) none) (stressing .hold (loadStep 1000 5 true false))).faults.taken.map
      TakenFault.kind = some .loadLimit := by decide +kernel

/-- R68, R69: ESTOP starts the break drive at its first active read. -/
theorem test_estop :
    (after (.sampleEvent .gv (some { quietRead with estopOpen := true })) idle).line.breakDrive = true := by
  decide +kernel

/-- R56, R69: the 33rd dominant bit time enters BREAK, the 32nd does not. -/
theorem test_break :
    let s := { idle with line := { idle.line with state := .busy, recRun := 0, domRun := 32 } }
    (after (.lineBreakDetect [dominant]) s).seq.runState = .stopped ∧
    (after (.lineBreakDetect [dominant])
      { s with line := { s.line with domRun := 31 } }).line.state = .busy := by decide +kernel

/-- R64, 4.4: station 20 loses at the fifth bit time, where it sends a 1 against a 0. -/
theorem test_lost_attempt :
    let s := { idle with line := { idle.line with slot := some ⟨[20], .waiting, true⟩ } }
    let t := after (.attemptLost [dominant, dominant, dominant, dominant, dominant]) s
    t.line.lossCount = 1 ∧ t.line.slot.map Slot.status = some .backoff := by decide +kernel

/-- R79: an entry lapses at age 3, and leaves at age 10 with NEIGHBOUR_LOST. -/
theorem test_ageing :
    (after (.entryLapsed 9) (withEntries [quietEntry 9 2] idle)).table.entries.map Entry.lapsed = [true] ∧
    (after (.entryRemoved 9) (withEntries [quietEntry 9 9] idle)).faults.seen = [.neighbourLost] := by
  decide +kernel

/-- R38: the hour is full at 3600 s. -/
theorem test_cure :
    (after .cureClockAdvance idle).seq.cure.hours = 101 := by decide +kernel

/-- R135, R136: at 60 s of SETTLE the anchor is LOCKED. -/
theorem test_settle :
    let s := withLoad 4000 (stressing .settle (lockStep 4000))
    (after .settleWaitEnd { s with jack := { s.jack with lockOffTimer := 59 } }).seq.progress = .locked := by
  decide +kernel

/-- R154: k of 250 above 200 without EXTEND is EXCESS. -/
theorem test_hold_end :
    (after .holdEnd (withRun .paused (creeping 48120 48370 .inProgress (loadStep 1000 10 true false)))).eval.results.map
      StepEntry.outcome = [.excess] := by decide +kernel

/-- R97: the claim ends at one minute, into REST. -/
theorem test_claim_limit :
    (after .claimLimit (grouting .draw (some ⟨119, 0⟩))).grout.phase = .rest := by decide +kernel

/-- R3: one of the samples of 1.4's example, which no whole microampere gives. -/
theorem test_fine_sample :
    (after (.sampleEvent (.load 12001600) none) idle).filtered .load = some 30006 := by decide +kernel

/-- R12: after a RESUME in STOPPED, CHANNEL_LOST of a channel that stands lost is detected at its next sample event. -/
theorem test_lost_after_stop :
    let w := withTaken .wallStop .stopped { winching 0 with drives := .off }
    let s := { w with chans := { idle.chans with wl := { (channelAt 5) with voidRun := 100 } } }
    let t := after (.resume []) s
    t.seq.runState = .paused ∧ (after (.channelLost (.wl 0)) t).seq.runState = .faulted := by decide +kernel

/-- R46: CHANNEL_LOST of a channel that stands lost is taken again on the same acknowledgement. -/
theorem test_lost_at_acknowledge :
    let w := withTaken .winchSnag .faulted { winching 0 with drives := .off }
    let s := { w with chans := { idle.chans with wl := { (channelAt 5) with voidRun := 100 } } }
    let t := after (.acknowledge []) s
    (t.seq.runState, t.faults.taken.map fun f => (f.kind, f.detail)) =
      (.faulted, some (.channelLost, .channel .wl)) := by decide +kernel

/-- R168, R170: a loss due on the sample event whose contact read ends SEATING with a kind pending is taken in either
order: the boundary is held in the one, dropped in the other. -/
theorem test_loss_beside_seating_end :
    let b := stressing .seating (lockStep 4000)
    let s := { b with
      chans := { b.chans with load := { (channelAt 5) with window := [], voidRun := 100 } }
      contacts := { b.contacts with seat := ⟨false, 2⟩ }
      faults := { b.faults with pending := [(.lineFault, .check)] } }
    let loss := watchAt .load none (s.standsLost .load)
    let work := eventWork .load (some { quietRead with seatClosed := true })
    ((loss (work s)).faults.taken.map TakenFault.kind, (loss (work s)).seq.held) =
      (some .channelLost, some .seatingEnd) ∧
    ((work (loss s)).faults.taken.map TakenFault.kind, (work (loss s)).seq.held) = (some .channelLost, none) := by
  decide +kernel

/-- R137, R168: with the length reached and LOAD over its limit, START_WINCH ends in the fault, the stage not ended. -/
theorem test_overload_at_start :
    let s := { idle with seq := { idle.seq with progress := .none }, chans := { idle.chans with wl := channelAt 1000 } }
    let t := after (.startWinch [0, 3, 232, 0, 180]) (withLoad 6001 s)
    (t.seq.stage, t.seq.runState, t.seq.progress, t.faults.taken.map TakenFault.kind) =
      (.winch, .faulted, .none, some .loadLimit) := by decide +kernel

/-- R138, R168: a stroke due where the lower valve closes is taken in either order, though the next step opens the valve
again. -/
theorem test_stroke_at_unload_stop :
    let x := { loadStep 1000 0 false false with kind := .unload }
    let b := stressing .rampDown x
    let s :=
      { b with
        chans := { b.chans with load := channelAt 900, ext := channelAt 200000 }
        jack := { b.jack with schedule := [x, { x with target := 500 }, lockStep 400] } }
    let next (s : State) := if s.stressing .rampDown then finishPhase reach .rampDownEnd (stepReached s) else s
    ((watchAsked s (next s)).seq.runState, (watchAsked s (next s)).jack.stepIndex) = (.faulted, 2) ∧
    ((next (watchAsked s s)).seq.runState, (next (watchAsked s s)).jack.stepIndex) = (.faulted, 1) := by
  decide +kernel

/-- R168, log 42: an overload at the end of SETTLE acts before the end of the stage. -/
theorem test_overload_at_settle_end :
    let s := stressing .settle (lockStep 4000)
    let t := after (.sampleEvent (.load (current 60000 6001)) none)
      { s with jack := { s.jack with lockOffTimer := 60 } }
    (t.seq.runState, t.seq.stage, t.seq.progress) = (.faulted, .stress, .grouted) := by decide +kernel

/-- R49: JACK_HOME active on ABORT ends the stage at once. -/
theorem test_abort_home :
    let s := stressing .hold (loadStep 1000 5 true false)
    let t := after (.abort []) { s with contacts := { s.contacts with jackHome := ⟨true, 0⟩ } }
    (t.seq.runState, t.seq.stage, t.eval.summary.jobStatus) = (.idle, .none, .aborted) := by decide +kernel

/-- R123, R144: the end of a STRESS stage writes the PHASE record of phase none, after STAGE_END. -/
theorem test_phase_none :
    let s := withLoad 4000 (stressing .settle (lockStep 4000))
    ((after .settleWaitEnd { s with jack := { s.jack with lockOffTimer := 59 } }).log.map LogRecord.event).drop 1 =
      [some (.stageEnd, argComplete), some (.phase, 0)] := by decide +kernel

/-- R168: an overload stops the work though the value first passes the ramp stop and opens the next step's lower valve. -/
theorem test_overload_at_ramp_stop :
    let x := { loadStep 6100 0 false false with datum := true }
    let b := stressing .rampUp x
    let s :=
      { b with
        jack := { b.jack with schedule := [x, { loadStep 1000 0 false false with kind := .unload }, lockStep 4000] } }
    let u := takeSample (.load (current 60000 6100)) s
    (workAt .load u).drives.lower = true ∧
    (watchAt .load (u.watchKind .load) true (workAt .load u)).seq.runState = .faulted := by decide +kernel

/-- R186: the request buffer is empty in the turnaround, as 11.6's worked example has it. -/
theorem test_buffer :
    let s := after (.clearSeen []) idle
    s.port.buffer = some (codeClearSeen, []) ∧
    (after (.overlappedRequest codeReadStatus []) s).port.buffer = none := by decide +kernel

/-- R68: the driven bit times of the own break pass, whatever comes between them. -/
theorem test_driven_bits :
    let s := { lineAt 40 0 with line := { (lineAt 40 0).line with state := .broken, breakDrive := true, breakBits := 34 } }
    (after (.breakDriveEnd [recessive, recessive]) s).line.breakBits = 36 := by decide +kernel

/-- R76 to R78: a notice of station 9 makes its entry. -/
theorem test_notice :
    (after .noticeApplied
        { idle with
          line :=
            { idle.line with
              applying :=
                some { frame := [9, 0, 101, 17, 4, 0, 1, 144, 0, 0, 0, 0, 7, 0, 0], counted := false } } }
      ).table.entries.map (fun e => (e.station, e.phase, e.load)) =
      [(9, .raising, some 400)] := by decide +kernel

/-! ## Witnesses: concrete states and operands that meet the hypotheses of each statement, clause by clause -/

/-- A reply in progress, in the turnaround or being sent. -/
def withReply (sending : Bool) (s : State) : State :=
  { s with
    port :=
      { s.port with reply := some { code := 5, outcome := 0, argument := 0, body := [], sending := sending } } }

def receiving (bytes : List Byte) (s : State) : State :=
  { s with port := { s.port with receiver := .receiving bytes } }

/-- A command in front of the queue. -/
def queued (c : Instr) (s : State) : State := { s with pending := [c] }

theorem witness_StepRunsTheFrontCommand : (queued .noticeTick idle).pending = .noticeTick :: [] := rfl

theorem witness_DrivesStayInTheirRows :
    (queued .noticeTick (winching 0)).drivesLegal = true ∧
    ∃ t, step (queued .noticeTick (winching 0)) = .next t := ⟨by decide, _, rfl⟩

theorem witness_StoresStayWithinTheirSizes :
    let s := queued .noticeTick (withEntries [quietEntry 9 9] idle)
    (s.standing = true ∧ s.logBounded = true ∧ s.queueBounded = true ∧ s.tableSound = true) ∧
    ∃ t, step s = .next t := ⟨by decide, _, rfl⟩

theorem witness_StandingIsKept :
    let s := queued (.abort []) (withMask [.creepExcess] (winching 0))
    (s.standing = true ∧ s.loweringSound = true ∧ s.maskSound = true) ∧ ∃ t, step s = .next t :=
  ⟨by decide, _, rfl⟩

theorem witness_ProgressMovesOnlyForward :
    ((winching 0).standing = true ∧ (winching 0).seq.runState ≠ .unconfigured ∧ Instr.noticeTick ≠ .powerUp) ∧
    ∃ t, exec .noticeTick (winching 0) = .next t := ⟨by decide, _, rfl⟩

theorem witness_RestartReturnsTheStartingValues :
    (idle.portFree = true ∧ idle.drivesLegal = true ∧ idle.seq.runState = .idle ∧ idle.grout.claim = none ∧
      idle.grout.phase = .none ∧ idle.jack.phase = .none ∧ 1 ≤ (idle.chan .load).filterLen) ∧
    ((winching 0).portFree = true ∧ (winching 0).drivesLegal = true ∧ (winching 0).seq.runState ≠ .idle ∧
      (winching 0).seq.runState ≠ .unconfigured) := by decide

theorem witness_TestsFollowTheComparator : (0 : Int) ≤ 0 := by decide

theorem witness_LoopCurrentsConvertLinearly :
    loopSample 60000 3600000 = some ⟨0, true⟩ ∧ loopSample 60000 4000000 = some ⟨0, false⟩ ∧
    loopSample 60000 20000000 = some ⟨60000, false⟩ ∧ loopSample 60000 21000000 = some ⟨60000, true⟩ := by decide

theorem witness_FilterIsTheMeanOfAFullWindow :
    1 ≤ (channelAt 5).filterLen ∧ (channelAt 5).window.length ≤ (channelAt 5).filterLen ∧
    [(⟨60000, true⟩ : Sample)].length = (channelAt 5).filterLen ∧
    ∀ y ∈ [(⟨60000, true⟩ : Sample)], y.value ≤ 60000 := by decide

theorem witness_ContactsAreDebounced :
    (Contact.reset.count = 0 ∧ true ≠ Contact.reset.active) ∧
    ((⟨true, 0⟩ : Contact).active = true ∧ (⟨true, 0⟩ : Contact).count = 0) := by decide

theorem witness_SampleEventUpdatesItsChannel :
    idle.seq.stage = .none ∧ ChannelName.ext ≠ inputChannel (.load 4000000) := by decide

theorem witness_ContactReadsCompleteTheirChange :
    let s : State := { idle with line := { idle.line with slot := some ⟨[5], .sending 7, true⟩ } }
    ({ quietRead with estopOpen := true }.estopOpen = true ∧ s.line.breakDrive = false ∧
      s.line.slot.map Slot.status = some (.sending 7)) ∧
    contactChanges { quietRead with seatClosed := true }
      { idle with contacts := { idle.contacts with seat := ⟨false, 2⟩ } } = true ∧
    (⟨true, 24⟩ : Contact).active = true ∧ 24 ≤ (⟨true, 24⟩ : Contact).count ∧
    quietRead.estopOpen = false := by decide

/-- What the clauses on SEAT and JACK_HOME ask of a read and a station. -/
def contactEnds (x : ContactRead) (s : State) : Bool :=
  contactChanges x s && s.drivesLegal && s.faults.pending.isEmpty && (readContacts x s).contacts.jackHome.active

theorem witness_ContactReadsEndTheirPhase :
    let near (s : State) : State := { s with contacts := { s.contacts with seat := ⟨false, 2⟩, jackHome := ⟨false, 2⟩ } }
    let seat := near (stressing .seating (lockStep 4000))
    let home := { near (stressing .release (lockStep 4000)) with drives := { Drives.off with lower := true } }
    let heavy := withLoad 6001 home
    let b := stressing .rampDown (lockStep 4000)
    let a := near { b with seq := { b.seq with runState := .aborting, abortMark := true } }
    let seatOnly := { quietRead with seatClosed := true }
    let homeOnly := { quietRead with jackHomeClosed := true }
    (seat.stressing .seating = true ∧ contactChanges seatOnly seat = true ∧
      (readContacts seatOnly seat).contacts.seat.active = true ∧
      (readContacts seatOnly seat).contacts.jackHome.active = false ∧ seat.drivesLegal = true ∧
      contactEnds { seatOnly with jackHomeClosed := true } seat = true) ∧
    (home.stressing .release = true ∧ contactEnds homeOnly home = true ∧ home.watchQuiet = true) ∧
    (heavy.stressing .release = true ∧ contactEnds homeOnly heavy = true ∧ heavy.drives.lower = true ∧
      heavy.seq.config.isSome = true ∧ heavy.watchQuiet = false ∧ heavy.standing = true) ∧
    (a.seq.stage = .stress ∧ a.seq.runState = .aborting ∧ contactEnds homeOnly a = true) := by decide

theorem witness_FlowPulsesAreCountedInTheWindow :
    let s := { grouting .draw (some ⟨5, 0⟩) with drives := { Drives.off with grout := true } }
    let full (n : Nat) : State := { s with chans := { s.chans with gvCount := n } }
    let faulty : State := { s with contacts := { s.contacts with flowFault := ⟨true, 0⟩ } }
    ((full 999998).drivesLegal = true ∧ (full 999998).drives.grout = true ∧
      (full 999998).contacts.flowFault.active = false ∧ (full 999998).chans.gvCount < 999999) ∧
    ((full 999999).drivesLegal = true ∧ (full 999999).drives.grout = true ∧
      (full 999999).contacts.flowFault.active = false ∧ 999999 ≤ (full 999999).chans.gvCount) ∧
    (idle.drivesLegal = true ∧ idle.drives.grout = false ∧ idle.chans.drainOpen = false) ∧
    (faulty.drivesLegal = true ∧ faulty.contacts.flowFault.active = true) := by decide

theorem witness_LostChannelStopsTheWork :
    let s := { winching 0 with chans := { idle.chans with wl := { (channelAt 5) with voidRun := 99 } } }
    let b := stressing .rampDown (loadStep 1000 5 true false)
    let a :=
      { b with
        seq := { b.seq with runState := .aborting, abortMark := true }
        chans := { idle.chans with load := { (channelAt 5) with voidRun := 100 } } }
    (s.sampleOf (.wl 3599999) = none ∧ s.needed (inputChannel (.wl 3599999)) = true ∧
      99 ≤ (s.chan (inputChannel (.wl 3599999))).voidRun ∧ 1 ≤ (s.chan (inputChannel (.wl 3599999))).filterLen ∧
      (s.chan (inputChannel (.wl 3599999))).lostBefore = false ∧ s.seq.runState ≠ .aborting ∧
      s.watchQuiet = true) ∧
    (a.sampleOf (.load 21000001) = none ∧ a.needed .load = true ∧ 99 ≤ (a.chan .load).voidRun ∧
      1 ≤ (a.chan .load).filterLen ∧ (a.chan .load).lostBefore = false ∧
      a.contacts.jackHome.active = false ∧ a.watchQuiet = true) ∧
    (s.standing = true ∧ s.seq.runState ≠ .aborting) := by decide

theorem witness_LoadLostUnderALockedAnchor :
    let s :=
      { idle with
        chans := { idle.chans with load := { (channelAt 5) with voidRun := 99 } }
        seq := { idle.seq with progress := .locked } }
    loopSample 60000 21000001 = none ∧ s.seq.config.isSome = true ∧ s.seq.progress = .locked ∧
    s.seq.stage = .none ∧ 1 ≤ s.chans.load.filterLen ∧ 99 ≤ s.chans.load.voidRun ∧
    s.chans.driftLostBefore = false ∧ s.drivesLegal = true := by decide

theorem witness_TheHighestKindIsTaken :
    let s := withTaken .seatFail .faulted (stressing .seating (lockStep 4000))
    (s.standing = true ∧ s.seq.stage ≠ .none ∧ FaultKind.voidTest.priority ≤ 7 ∧
      s.masked .voidTest = false) ∧
    ((winching 0).standing = true ∧ (winching 0).seq.stage ≠ .none ∧ FaultKind.wallStop.priority ≤ 7 ∧
      (winching 0).masked .wallStop = false) := by decide

theorem witness_MaskableKindsWaitForABoundary :
    8 ≤ FaultKind.groutRefusal.priority ∧ 8 ≤ FaultKind.anchorDrift.priority ∧
    (withMask [.anchorDrift] idle).masked .anchorDrift = true ∧
    (winching 0).masked .groutRefusal = false ∧ (winching 0).seq.stage ≠ .none ∧
    idle.seq.stage = .none ∧
    (let s := { winching 0 with faults := { idle.faults with pending := [(.rateSlow, .none)] } }
     s.standing = true ∧ .rateSlow ∈ s.faults.pending.map Prod.fst) := by decide

theorem witness_ABoundaryTakesTheHighestPendingKind :
    let s :=
      { winching 0 with faults := { idle.faults with pending := [(.rateSlow, .none), (.lineFault, .check)] } }
    s.faults.pending = (.rateSlow, .none) :: [(.lineFault, .check)] ∧ FaultKind.rateSlow ≠ .wallStop ∧
    s.standing = true ∧ (.lineFault, .check) ∈ [(FaultKind.lineFault, Detail.check)] := by decide

theorem witness_RequestsArriveCharacterByCharacter :
    (List.replicate 60 (0 : Byte)).length ≤ 60 ∧ idle.portFree = true := by decide

theorem witness_RefusedRequestsChangeNothing :
    (idle.portFree = true ∧ idle.drivesLegal = true ∧ ([] : List Byte).length ≤ 60) ∧
    verdictOf codePause [] idle = .refused (.wrongState, 0) ∧ codeDefined 17 = false := ⟨by decide, rfl, by decide⟩

theorem witness_StageRequestsAreCheckedInOrder :
    Stage.grout ≠ .none ∧ ([] : List Byte).length ≤ 60 ∧ idle.portFree = true ∧ idle.drivesLegal = true ∧
    stageOutcome .grout [] idle = (3, 0) := by decide

/-- A two-step schedule's body: LOAD 1000 with DATUM, LOCK 4000 (R194). -/
def stressBody : List Byte := [2, 65, 3, 232, 0, 192, 15, 160, 0]

/-- The accepted schedule of 7.2's worked example as a body (R194). -/
def longBody : List Byte :=
  [7, 65, 3, 232, 1, 64, 19, 136, 1, 66, 39, 16, 5, 136, 3, 232, 1, 64, 31, 64, 0, 70, 46, 224, 15, 192, 41, 4, 0]

theorem witness_AcceptedSchedulesObeyTheirChecks :
    stressRefusal 6000 stressBody = none ∧ stressRefusal 15000 longBody = none ∧
    scheduleOf longBody = schedule 5 12000 ∧
    ((schedule 5 12000)[1]?.map ScheduleStep.kind = some .load ∧
      (schedule 5 12000)[2]?.map ScheduleStep.kind = some .load) ∧
    ((schedule 5 12000)[3]?.map (fun x => (x.kind, x.elastic)) = some (.unload, true) ∧
      (schedule 5 12000)[5]?.map (fun x => (x.kind, x.elastic)) = some (.load, false) ∧
      (schedule 5 12000)[6]?.map ScheduleStep.kind = some .lock ∧ 2 < 5 ∧ 3 < 5) := by decide

theorem witness_SetupStoresTheConfiguration :
    let with8 := figuresBody.set 40 8
    let locked := ((with8.set 11 3).set 12 19).set 13 136
    (State.reset.portFree = true ∧ State.reset.drivesLegal = true ∧ State.reset.seq.runState = .unconfigured ∧
      setupRefusal figuresBody = none ∧ (setupOf figuresBody).filterOf .load ≠ 8) ∧
    (setupRefusal with8 = none ∧ (setupOf with8).filterOf .load = 8) ∧
    (setupRefusal (figuresBody.set 11 1) = none ∧ (setupOf (figuresBody.set 11 1)).progress = .winched) ∧
    (setupRefusal locked = none ∧ (setupOf locked).progress = .locked ∧ (setupOf locked).lockedLoad = 5000 ∧
      (withLoad 4699 State.reset).seq.runState = .unconfigured ∧
      Test.out.holds (compareNat (some 4699) 5000 (setupOf locked).driftBand) = true ∧
      Test.out.holds (compareNat (some 4700) 5000 (setupOf locked).driftBand) = false) := by
  decide

theorem witness_StartWinchBeginsTheStage :
    let s :=
      { idle with
        chans := { idle.chans with wl := channelAt 1000, wt := channelAt 10 }
        seq := { idle.seq with progress := .none } }
    let below : List Byte := [0, 3, 233, 0, 10]
    let reached : List Byte := [0, 3, 232, 0, 10]
    (s.portFree = true ∧ s.drivesLegal = true ∧ s.watchQuiet = true ∧ s.seq.config.isSome = true ∧
      s.filtered .wl = some 1000 ∧ s.filtered .wt = some 10 ∧ s.faults.pending = []) ∧
    ((stageOutcome .winch reached (withLoad 6001 s)).1 = 0 ∧ (withLoad 6001 s).drivesLegal = true ∧
      (withLoad 6001 s).watchQuiet = false ∧ (withLoad 6001 s).standing = true ∧
      (stageOutcome .winch below (withLoad 6001 s)).1 = 0) ∧
    ((stageOutcome .winch below s).1 = 0 ∧ 10 ≤ fieldAt below 3 2 ∧ 1000 < fieldAt below 0 3) ∧
    ((stageOutcome .winch reached s).1 = 0 ∧ 10 ≤ fieldAt reached 3 2 ∧ fieldAt reached 0 3 ≤ 1000) := by decide

theorem witness_StartGroutBeginsTheStage :
    let s := { idle with seq := { idle.seq with progress := .winched } }
    let body : List Byte := [0, 0, 85, 5, 220]
    (s.portFree = true ∧ s.drivesLegal = true ∧ s.watchQuiet = true ∧ s.seq.config.isSome = true ∧
      s.faults.pending = [] ∧ (stageOutcome .grout body s).1 = 0 ∧ s.filtered .gv = some 0 ∧
      0 < fieldAt body 0 3 ∧ s.filtered .gp = some 100 ∧ 100 ≤ fieldAt body 3 2 ∧ s.cfg Setup.main 0 ≠ 0) ∧
    ((onMain 0 s).cfg Setup.main 0 = 0 ∧ (stageOutcome .grout body (onMain 0 s)).1 = 0 ∧
      (onMain 0 s).watchQuiet = true) ∧
    ((stageOutcome .grout body (withLoad 6001 s)).1 = 0 ∧ (withLoad 6001 s).drivesLegal = true ∧
      (withLoad 6001 s).watchQuiet = false ∧ (withLoad 6001 s).standing = true) := by decide

theorem witness_StartStressBeginsAtTheGate :
    idle.portFree = true ∧ idle.drivesLegal = true ∧ idle.watchQuiet = true ∧ idle.seq.config.isSome = true ∧
    idle.faults.pending = [] ∧ (stageOutcome .stress stressBody idle).1 = 0 ∧
    ((stageOutcome .stress stressBody (withLoad 6001 idle)).1 = 0 ∧ (withLoad 6001 idle).drivesLegal = true ∧
      (withLoad 6001 idle).watchQuiet = false ∧ (withLoad 6001 idle).standing = true) := by decide

theorem witness_PauseHoldsTheWork :
    let s := stressing .raiseIntent (loadStep 1000 5 true false)
    let l := stressing .seating (lockStep 4000)
    (s.portFree = true ∧ s.drivesLegal = true ∧ s.watchQuiet = true ∧ s.seq.runState = .running ∧
      s.seq.stage ≠ .none ∧ s.lockOff = false) ∧
    (l.portFree = true ∧ l.drivesLegal = true ∧ l.watchQuiet = true ∧ l.seq.runState ≠ .unconfigured ∧
      l.lockOff = true) := by decide

/-- The loss on WL stands (R12). -/
def withLoss (s : State) : State :=
  { s with chans := { s.chans with wl := { (channelAt 5) with voidRun := 100, lostBefore := true } } }

theorem witness_ResumeEndsAStop :
    let s := withTaken .wallStop .stopped (winching 0)
    let s := { s with drives := .off }
    let e := { s with contacts := { s.contacts with estop := ⟨true, 0⟩ } }
    let b := { s with line := { s.line with state := .broken } }
    (s.portFree = true ∧ s.drivesLegal = true ∧ s.watchQuiet = true ∧ s.pausedQuiet = true ∧
      s.seq.runState = .stopped ∧ s.contacts.estop.active = false ∧ s.line.state ≠ .broken) ∧
    ((withLoss s).portFree = true ∧ (withLoss s).drivesLegal = true ∧ (withLoss s).watchQuiet = true ∧
      (withLoss s).pausedQuiet = true ∧ (withLoss s).seq.runState = .stopped ∧ (withLoss s).lostInPaused .wl = true) ∧
    (idle.portFree = true ∧ idle.drivesLegal = true ∧ idle.watchQuiet = true ∧ idle.pausedQuiet = true ∧
      idle.seq.runState ≠ .unconfigured ∧ idle.seq.runState ≠ .paused ∧ idle.seq.runState ≠ .stopped) ∧
    (e.portFree = true ∧ e.pausedQuiet = true ∧ e.contacts.estop.active = true) ∧
    (b.portFree = true ∧ b.pausedQuiet = true ∧ b.contacts.estop.active = false ∧ b.line.state = .broken) := by
  decide

/-- What every clause of RESUME in PAUSED asks of the station. -/
def resumable (s : State) : Bool :=
  s.portFree && s.drivesLegal && s.watchQuiet && s.seq.config.isSome && s.faults.pending.isEmpty &&
  s.seq.runState == .paused && !s.contacts.estop.active && s.line.state != .broken && s.seq.held.isNone

theorem witness_ResumeTakesUpTheWork :
    let w := withRun .paused { winching 0 with drives := .off }
    let g (p : GroutPhase) (c : Option Claim) := withRun .paused (grouting p c)
    let t (p : StepPhase) := withRun .paused (stressing p (loadStep 1000 5 true false))
    let down := withLoad 1051 (withRun .paused (stressing .rampDown { loadStep 1000 5 false false with kind := .unload }))
    let near := { t .raiseWait with jack := { (t .raiseWait).jack with approach := .pending } }
    let gp (v : Nat) (s : State) : State := { s with chans := { s.chans with gp := channelAt v } }
    let mark := { t .rampDown with seq := { (t .rampDown).seq with abortMark := true } }
    (resumable w = true ∧ w.seq.stage = .winch ∧ w.winch.isSome = true ∧
      Test.short.holds (compareNat (w.filtered .wl) ((w.winch.map WinchRecord.target).getD 0) 0) = true ∧
      Test.overTest.holds (compareNat (w.filtered .wt) ((w.winch.map WinchRecord.snag).getD 0) 0) = false) ∧
    (resumable (g .draw (some ⟨5, 0⟩)) = true ∧ (g .draw (some ⟨5, 0⟩)).grout.claim.isSome = true ∧
      Test.clear.holds (compareNat ((g .draw none).filtered .gp)
        (((g .draw none).grout.record.map GroutRecord.limit).getD 0) 0) = true) ∧
    (resumable (g .wait none) = true ∧ (g .wait none).cfg Setup.main 0 ≠ 0) ∧
    (resumable (onMain 0 (g .wait none)) = true ∧ (onMain 0 (g .wait none)).cfg Setup.main 0 = 0 ∧
      (g .wait none).grout.record.isSome = true) ∧
    (resumable (g .throttled (some ⟨5, 1⟩)) = true ∧
      Test.short.holds (compareNat ((g .throttled none).filtered .gp)
        (((g .throttled none).grout.record.map GroutRecord.reopen).getD 0) 0) = true) ∧
    (resumable (gp 1350 (g .throttled (some ⟨5, 1⟩))) = true ∧
      Test.short.holds (compareNat ((gp 1350 (g .throttled none)).filtered .gp)
        (((g .throttled none).grout.record.map GroutRecord.reopen).getD 0) 0) = false) ∧
    (resumable (t .raiseWait) = true ∧ (t .raiseWait).jack.approach ≠ .pending) ∧
    (resumable near = true ∧ near.jack.approach = .pending ∧
      ({ near with chans := { near.chans with load := .reset } }).loadAgainst near.stepTarget = .void ∧
      (withLoad 949 near).loadAgainst near.stepTarget = .below ∧
      (withLoad 950 near).loadAgainst near.stepTarget = .within ∧
      (withLoad 1051 near).loadAgainst near.stepTarget = .above ∧ near.contacts.seat.active = false) ∧
    resumable (g .rest none) = true ∧
    (resumable (t .rampUp) = true ∧ (t .rampUp).jack.approach ≠ .pending) ∧
    resumable (t .hold) = true ∧
    (resumable down = true ∧ Test.overTest.holds (down.loadAgainst down.stepTarget) = true) ∧
    (resumable (t .seating) = true ∧ (t .seating).contacts.seat.active = false) ∧
    (resumable (t .release) = true ∧ (t .release).contacts.jackHome.active = false) ∧
    resumable (t .settle) = true ∧
    (resumable mark = true ∧ mark.seq.abortMark = true ∧ mark.contacts.jackHome.active = false) ∧
    (resumable { mark with contacts := { mark.contacts with jackHome := ⟨true, 0⟩ } } = true) := by decide

theorem witness_HeldBoundaryIsPassedOnResume :
    let s := withHeld .holdEnd (withRun .paused (stressing .hold (loadStep 1000 5 false false)))
    let p := { s with faults := { s.faults with pending := [(.creepExcess, .none)] } }
    let meets (b : Boundary) (z : State) : Bool :=
      z.portFree && z.drivesLegal && z.watchQuiet && z.standing && z.seq.runState == .paused &&
      !z.seq.abortMark && !z.contacts.estop.active && z.line.state != .broken && z.seq.held == some b
    let t (b : Boundary) (q : StepPhase) := withHeld b (withRun .paused (stressing q (loadStep 1000 5 true false)))
    let g (b : Boundary) (q : GroutPhase) := withHeld b (withRun .paused (grouting q none))
    let w := withHeld (.stageEnd false) (withRun .paused { winching 0 with drives := .off })
    (meets .holdEnd s = true ∧ s.faults.pending = [] ∧ s.seq.stage = .stress ∧
      (s.jack.schedule[s.jack.stepIndex]?).map ScheduleStep.kind = some .load) ∧
    (meets .holdEnd p = true ∧ p.faults.pending ≠ []) ∧
    (meets .raiseWaitEnd (t .raiseWaitEnd .raiseWait) = true ∧
      meets .raiseIntentEnd (t .raiseIntentEnd .raiseIntent) = true ∧
      meets .withdrawn (t .withdrawn .raiseIntent) = true ∧ meets .turnedBack (t .turnedBack .rampUp) = true ∧
      meets .gateTimeout (t .gateTimeout .raiseWait) = true ∧
      (t .gateTimeout .raiseWait).jack.phase = .raiseWait ∧ (t .turnedBack .rampUp).jack.approach ≠ .pending ∧
      (t .turnedBack .rampUp).faults.pending = []) ∧
    (meets .groutWaitEnd (g .groutWaitEnd .wait) = true ∧ meets .throttled (g .throttled .draw) = true ∧
      meets .refusal (g .refusal .draw) = true ∧ meets .restEnd (g .restEnd .rest) = true ∧
      (g .throttled .draw).cfg Setup.main 0 = 1 ∧ (g .throttled .draw).grout.claim = none ∧
      (g .throttled .draw).seq.stage = .grout) ∧
    (meets .claimLimit (g .claimLimit .draw) = true ∧ (g .claimLimit .draw).faults.pending = []) ∧
    (meets (.stageEnd false) w = true ∧ w.seq.stage = .winch ∧ w.faults.pending = []) ∧
    (meets (.stageEnd false) (g (.stageEnd false) .wait) = true ∧
      meets (.stageEnd true) (g (.stageEnd true) .draw) = true) ∧
    (meets (.stageEnd false) (t (.stageEnd false) .settle) = true ∧
      (t (.stageEnd false) .settle).seq.stage = .stress) := by decide

theorem witness_AbortGivesTheStageUp :
    let g := { grouting .draw (some ⟨5, 0⟩) with drives := { Drives.off with grout := true } }
    let t := stressing .hold (loadStep 1000 5 true false)
    let f := withTaken .seatFail .faulted (stressing .seating (lockStep 4000))
    let l := stressing .seating (lockStep 4000)
    ((winching 0).portFree = true ∧ (winching 0).drivesLegal = true ∧ (winching 0).watchQuiet = true ∧
      (winching 0).standing = true) ∧
    (g.portFree = true ∧ g.drivesLegal = true ∧ g.watchQuiet = true ∧ g.standing = true) ∧
    (t.standing = true ∧ t.lockOff = false ∧ t.contacts.jackHome.active = false ∧ t.seq.abortMark = false) ∧
    (f.standing = true ∧ f.seq.runState = .faulted ∧ f.contacts.jackHome.active = false) ∧
    (l.standing = true ∧ l.lockOff = true ∧ l.seq.abortMark = false) ∧
    (let home (z : State) : State := { z with contacts := { z.contacts with jackHome := ⟨true, 0⟩ } }
     let m := withRun .paused { stressing .settle (lockStep 4000) with seq := { l.seq with abortMark := true } }
     ((home t).portFree = true ∧ (home t).drivesLegal = true ∧ (home t).watchQuiet = true ∧
       (home t).standing = true ∧ (home t).lockOff = false ∧ (home t).contacts.jackHome.active = true) ∧
     ((home f).standing = true ∧ (home f).seq.runState = .faulted) ∧
     ((home m).standing = true ∧ (home m).seq.runState = .paused ∧ (home m).lockOff = true ∧
       (home m).seq.abortMark = true)) := by decide

theorem witness_AcknowledgeGivesPaused :
    let s := withTaken .seatFail .faulted (stressing .seating (lockStep 4000))
    (s.portFree = true ∧ s.drivesLegal = true ∧ s.watchQuiet = true ∧ s.pausedQuiet = true ∧
      s.seq.runState = .faulted ∧ s.seq.stage ≠ .none ∧ s.noneLost = true) ∧
    ((withLoad 6001 s).portFree = true ∧ (withLoad 6001 s).drivesLegal = true ∧
      (withLoad 6001 s).watchQuiet = false ∧ (withLoad 6001 s).standing = true ∧
      (withLoad 6001 s).seq.runState = .faulted) ∧
    (let l := withLoss (withTaken .channelLost .faulted { winching 0 with drives := .off })
     l.portFree = true ∧ l.drivesLegal = true ∧ l.seq.runState = .faulted ∧ l.watchQuiet = true ∧
       l.pausedQuiet = true ∧ l.standing = true ∧ l.lostInPaused .wl = true ∧
       (withLoad 6001 l).standing = true ∧ (withLoad 6001 l).lostInPaused .wl = true) ∧
    (idle.portFree = true ∧ idle.drivesLegal = true ∧
      idle.seq.runState ≠ .unconfigured ∧ idle.seq.runState ≠ .faulted) := by decide

theorem witness_AcceptDriftMovesTheLockedLoad :
    let s := { idle with seq := { idle.seq with progress := .locked } }
    let d := { s with table := { s.table with drift := true } }
    let v := { s with chans := { s.chans with load := .reset } }
    let k (x : State) : State := { x with jack := { x.jack with lockedLoad := some 400 } }
    (State.reset.portFree = true ∧ State.reset.drivesLegal = true ∧ State.reset.seq.runState = .unconfigured) ∧
    (idle.portFree = true ∧ idle.seq.runState ≠ .unconfigured ∧ idle.seq.progress ≠ .locked) ∧
    (v.portFree = true ∧ v.seq.progress = .locked ∧ v.seq.stage = .none ∧ v.filtered .load = none) ∧
    (s.portFree = true ∧ s.drivesLegal = true ∧ s.seq.config.isSome = true ∧ s.filtered .load = some 400 ∧
      s.table.drift = false) ∧
    (d.portFree = true ∧ d.drivesLegal = true ∧ d.filtered .load = some 400 ∧ d.table.drift = true) ∧
    (s.seq.config = some figures ∧ (takeSample (.load (current 60000 700)) s).filtered .load = some 700 ∧
      (takeSample (.load (current 60000 701)) s).filtered .load = some 701) ∧
    ((k s).jack.lockedLoad = some 400 ∧ (k s).drivesLegal = true ∧
      (takeSample (.load (current 60000 99)) (k s)).filtered .load = some 99 ∧
      (takeSample (.load (current 60000 550)) (k d)).filtered .load = some 550 ∧ (k d).table.drift = true ∧
      (k s).masked .anchorDrift = false) := by decide

theorem witness_MaskAndSeenSetAreWritten :
    idle.portFree = true ∧ idle.drivesLegal = true ∧ ([255, 255] : List Byte).length = 2 ∧
    idle.seq.runState ≠ .unconfigured ∧ State.reset.portFree = true ∧ State.reset.drivesLegal = true ∧
    State.reset.seq.runState = .unconfigured := by decide

theorem witness_ReadRequestsReturnSnapshots :
    (idle.portFree = true ∧ idle.drivesLegal = true ∧ idle.seq.runState ≠ .unconfigured) ∧
    (State.reset.portFree = true ∧ State.reset.drivesLegal = true ∧
      State.reset.seq.runState = .unconfigured) := by decide

theorem witness_PendantLinkEvents :
    idle.drivesLegal = true ∧
    (idle.port.receiver = .waiting ∧ idle.port.reply = none) ∧
    ((receiving [1, 13] idle).port.receiver = .receiving [1, 13] ∧ (receiving [1, 13] idle).port.reply = none) ∧
    ((receiving [] idle).port.receiver = .receiving [] ∧ (62 : Byte).toNat = 62 ∧ (0 : Byte).toNat = 0) ∧
    ((withReply false idle).port.receiver = .waiting ∧ (withReply false idle).drivesLegal = true ∧
      ((withReply false idle).port.reply.map Reply.sending) = some false) := by decide

theorem witness_RepliesAreSentOnce :
    (withReply false idle).drivesLegal = true ∧
    (withReply false idle).port.reply = some ⟨5, 0, 0, [], false⟩ ∧ (withReply true idle).drivesLegal = true ∧
    (withReply true idle).port.reply = some ⟨5, 0, 0, [], true⟩ := by decide

theorem witness_TicksAgeTheNeighbours :
    let s (age : Nat) := withEntries [quietEntry 9 age] idle
    ((s 8).drivesLegal = true ∧ (s 8).seq.stage = .none ∧ (s 8).jack.phase = .none ∧
      (s 8).grout.phase = .none ∧ (s 8).grout.claim = none ∧ (s 8).boundaryClear = true) ∧
    (quietEntry 9 2 ∈ (s 2).table.entries ∧ (quietEntry 9 2).age = 2 ∧ (s 2).line.state ≠ .broken) ∧
    (quietEntry 9 9 ∈ (s 9).table.entries ∧ (quietEntry 9 9).age = 9 ∧ (s 9).line.state ≠ .broken ∧
      (s 9).tableSound = true ∧ (s 9).inSpan (quietEntry 9 9) = true) := by decide

theorem witness_ClocksCountSeconds :
    let s := { winching 0 with seq := { (winching 0).seq with jobClock := 16777214 } }
    let p := withRun .paused { winching 0 with drives := .off }
    (s.drivesLegal = true ∧ s.seq.stage ≠ .none ∧ s.seq.jobHalf = true ∧ s.seq.jobClock < 16777215) ∧
    (p.drivesLegal = true ∧ p.seq.stage = .winch ∧ p.seq.runState = .paused ∧ p.jack.phase = .none ∧
      p.grout.phase = .none ∧ p.grout.claim = none ∧ p.boundaryClear = true ∧ p.seq.jobHalf = true ∧
      p.seq.jobClock < 16777215) ∧
    (idle.drivesLegal = true ∧ idle.seq.cure.running = true ∧ idle.seq.cure.half = true ∧
      idle.seq.stage ≠ .grout) := by decide

theorem witness_DriveLimitsStopTheWork :
    let at_ (p : StepPhase) (n : Nat) :=
      { stressing p (lockStep 4000) with jack := { (stressing p (lockStep 4000)).jack with lockOffTimer := n } }
    let h := stressing .hold (loadStep 1000 5 true false)
    let low := { stressing .release (lockStep 4000) with drives := { Drives.off with lower := true } }
    ((winching 9).drivesLegal = true ∧ (winching 9).jobAdvances = true ∧ (winching 9).seq.runState = .running ∧
      (winching 9).seq.stage = .winch ∧ (winching 9).drives.winch = true ∧
      (winching 9).winch.map WinchRecord.stallTimer = some 9 ∧ (winching 9).watchQuiet = true) ∧
    ((at_ .seating 30).drivesLegal = true ∧ (at_ .seating 30).jobAdvances = true ∧
      (at_ .seating 30).seq.runState = .running ∧ (at_ .seating 30).seq.stage = .stress ∧
      (at_ .seating 30).watchQuiet = true) ∧
    ((at_ .release 60).drivesLegal = true ∧ (at_ .release 60).jobAdvances = true ∧
      (at_ .release 60).seq.runState = .running ∧ (at_ .release 60).watchQuiet = true) ∧
    ((winching 0).winching = true ∧ (winching 0).faults.pending = [] ∧
      (winching 0).winch.map (fun w => (w.target, w.snag)) = some (24000, 180) ∧
      (takeSample (.wt (current 500 181)) (winching 0)).filtered .wt = some 181 ∧
      (takeSample (.wl (current 80000 23999)) (winching 0)).filtered .wl = some 23999 ∧
      (takeSample (.wl (current 80000 24000)) (winching 0)).filtered .wl = some 24000) ∧
    (h.seq.config = some figures ∧ h.drivesLegal = true ∧ h.standing = true ∧ h.seq.stage ≠ .none ∧
      h.seq.runState ≠ .aborting ∧ h.jack.phase ≠ .settle ∧ h.drives.lower = false ∧
      (takeSample (.load (current 60000 6001)) h).filtered .load = some 6001 ∧
      (takeSample (.ext (current 250000 200000)) h).filtered .ext = some 200000) ∧
    (idle.drivesLegal = true ∧ idle.seq.stage = .none ∧
      (takeSample (.load (current 60000 6001)) idle).filtered .load = some 6001) ∧
    (low.drivesLegal = true ∧ low.drives.lower = true ∧
      (takeSample (.ext (current 250000 200000)) low).filtered .ext = some 200000) ∧
    (let z := at_ .settle 60
     z.drivesLegal = true ∧ z.standing = true ∧ z.seq.runState ≠ .aborting ∧ z.drives.lower = false ∧
       (takeSample (.load (current 60000 6001)) z).filtered .load = some 6001) ∧
    (let d := { stressing .rampDown { loadStep 1000 0 false false with kind := .unload } with
                 drives := { Drives.off with lower := true } }
     let d := { d with chans := { d.chans with ext := channelAt 200000 } }
     d.seq.config = some figures ∧ d.drivesLegal = true ∧ d.standing = true ∧ d.stressing .rampDown = true ∧
       d.drives.lower = true ∧
       (takeSample (.load (current 60000 1050)) d).filtered .load = some 1050 ∧
       1050 ≤ d.stepTarget + figures.loadTolerance ∧
       ((takeSample (.load (current 60000 1050)) d).filtered .ext).any
         (fun e => decide (figures.strokeLimit ≤ e)) = true) := by decide

theorem witness_SettleWaitLocksTheAnchor :
    let s := { stressing .settle (lockStep 4000) with
                jack := { (stressing .settle (lockStep 4000)).jack with lockOffTimer := 59 } }
    ((withLoad 3800 s).drivesLegal = true ∧ (withLoad 3800 s).jobAdvances = true ∧
      (withLoad 3800 s).boundaryClear = true ∧ (withLoad 3800 s).stressing .settle = true ∧
      (withLoad 3800 s).filtered .load = some 3800 ∧
      (withLoad 3800 s).stepTarget ≤ 3800 + (withLoad 3800 s).cfg Setup.lockTolerance 0) ∧
    ((withLoad 3799 s).boundaryClear = true ∧ (withLoad 3799 s).filtered .load = some 3799 ∧
      3799 + (withLoad 3799 s).cfg Setup.lockTolerance 0 < (withLoad 3799 s).stepTarget ∧
      (withLoad 3799 s).masked .lockLoss = false ∧ (withLoad 3799 s).watchQuiet = true) ∧
    ((withMask [.lockLoss] (withLoad 3799 s)).masked .lockLoss = true) := by decide

theorem witness_GateTimeoutEndsTheWait :
    let b := stressing .raiseWait (loadStep 1000 5 true false)
    let s := { b with table := { b.table with gateTimer := 59, entries := [holdingEntry 9] } }
    (s.drivesLegal = true ∧ s.jobAdvances = true ∧ s.boundaryClear = true ∧ s.stressing .raiseWait = true ∧
      s.table.gateTimer + 1 = s.cfg Setup.gateTimeout 0 * 60 ∧ (clocksAt s).raiseConditions = false ∧
      s.masked .gateTimeout = false ∧ s.watchQuiet = true) ∧
    ((withMask [.gateTimeout] s).masked .gateTimeout = true) := by decide

theorem witness_RaiseIntentEndsInRampUpOrWait :
    let b := stressing .raiseIntent (loadStep 1000 5 true false)
    let s := withLoad 949 { b with table := { b.table with raiseTicks := 1 } }
    let f := withEntries [holdingEntry 9] s
    (s.drivesLegal = true ∧ s.boundaryClear = true ∧ s.stressing .raiseIntent = true ∧
      1 ≤ s.table.raiseTicks ∧ s.table.gateTimer + 1 ≠ s.cfg Setup.gateTimeout 0 * 60 ∧
      (clocksAt s).raiseConditionsAtEnd = true ∧ s.filtered .load = some 949 ∧
      949 + s.cfg Setup.loadTolerance 0 < s.stepTarget) ∧
    (f.drivesLegal = true ∧ f.boundaryClear = true ∧ (clocksAt f).raiseConditionsAtEnd = false) := by decide

/-- The thirteen data bytes of a notice of station 9: at bay 101, RAISING at 400, sequence 7. -/
def noticeStart : List Byte := [9, 0, 101, 17, 4, 0, 1, 144, 0, 0, 0, 0, 7]

/-- What the clauses of NOTICE_APPLIED ask of a frame and a station: the frame changes the table, or it does not. -/
def applies (frame : List Byte) (changes : Bool) (s : State) : Bool :=
  let e := entryOf figures.claimLimit frame
  s.line.applying.map Applying.frame == some frame && s.seq.config == some figures && s.drivesLegal &&
  s.faults.pending.isEmpty &&
  (frameWellFormed frame && e.station != figures.station &&
    (findEntry e.station s.table.entries).map Entry.sequence != some e.sequence &&
    ((findEntry e.station s.table.entries).isSome || decide (s.table.entries.length < 24))) == changes

theorem witness_NoticeAppliedChecksTheConflicts :
    let ap (f : List Byte) (z : State) : State :=
      { z with line := { z.line with applying := some { frame := f, counted := false } } }
    let st (f : List Byte) (p : StepPhase) := ap f (stressing p (loadStep 1000 5 true false))
    let e (f : List Byte) := entryOf figures.claimLimit f
    let holding := noticeStart.set 4 5
    let far := holding.set 2 110
    let quiet := noticeStart.set 4 0
    let i (f : List Byte) := st f .raiseIntent
    let r (f : List Byte) := { st f .rampUp with drives := { Drives.off with raise := true } }
    let g := ap quiet (grouting .wait none)
    let near := { st quiet .raiseWait with jack := { (st quiet .raiseWait).jack with approach := .pending } }
    (applies (noticeStart.set 0 5) false (i (noticeStart.set 0 5)) = true ∧
      applies (noticeStart.set 0 64) false (i (noticeStart.set 0 64)) = true ∧
      applies holding false (withEntries [quietEntry 9 0] (i holding)) = true) ∧
    (applies holding true (i holding) = true ∧ (i holding).stressing .raiseIntent = true ∧
      (i holding).inSpan (e holding) = true ∧ (i holding).withdrawsFor (e holding) = true ∧
      applies noticeStart true (i noticeStart) = true ∧ (i noticeStart).withdrawsFor (e noticeStart) = false ∧
      applies far true (i far) = true ∧ (i far).inSpan (e far) = false) ∧
    (applies holding true (r holding) = true ∧ (r holding).stressing .rampUp = true ∧
      (r holding).inSpan (e holding) = true ∧ (r holding).turnsBackFor (e holding) = true ∧
      applies quiet true (r quiet) = true ∧ (r quiet).turnsBackFor (e quiet) = false) ∧
    (applies holding true (st holding .hold) = true ∧ (st holding .hold).jack.phase = .hold ∧
      (st holding .hold).inSpan (e holding) = true ∧ (e holding).disturbs = true ∧
      applies quiet true (st quiet .hold) = true ∧ (e quiet).disturbs = false) ∧
    (applies quiet true (st quiet .raiseWait) = true ∧ (st quiet .raiseWait).stressing .raiseWait = true ∧
      applies quiet true near = true ∧ near.jack.approach = .pending) ∧
    (applies quiet true g = true ∧ g.grouting = true ∧ g.grout.phase = .wait ∧ figures.main ≠ 0 ∧
      applies quiet true (withEntries [drawerEntry 7, drawerEntry 8] g) = true ∧
      (withEntries [drawerEntry 7, drawerEntry 8] g).drawers = 2) := by decide +kernel

theorem witness_ConflictsHoldTheRaiseBack :
    let s (p : StepPhase) := withEntries [holdingEntry 9] (stressing p (loadStep 1000 5 true false))
    let raising (n : Nat) : Entry := { quietEntry n 0 with phase := .raising, load := some 400 }
    let pend (n : Nat) : Entry :=
      { quietEntry n 0 with load := some 400, flags := ⟨false, false, false, false, true, false⟩ }
    ((s .raiseIntent).faults.pending = [] ∧ (s .raiseIntent).seq.stage = .stress ∧
      (s .raiseIntent).inSpan (holdingEntry 9) = true ∧ (s .raiseIntent).withdrawsFor (holdingEntry 9) = true ∧
      (s .raiseIntent).raiseConditions = false) ∧
    ((s .raiseIntent).withdrawsFor (quietEntry 9 0) = false ∧ (s .raiseIntent).inSpan (quietEntry 9 0) = true) ∧
    ((s .rampUp).seq.runState = .running ∧ (s .rampUp).turnsBackFor (holdingEntry 9) = true ∧
      (s .rampUp).raiseConditions = false ∧ (s .rampUp).turnsBackFor (quietEntry 9 0) = false) ∧
    ((holdingEntry 9).disturbs = true ∧ (quietEntry 9 0).disturbs = false) ∧
    ((s .raiseWait).seq.config = some figures ∧ (s .raiseWait).inSpan { quietEntry 9 0 with bay := 98 } = true ∧
      (s .raiseWait).inSpan { quietEntry 9 0 with bay := 97 } = false) ∧
    ((quietEntry 9 3).lapsed = false ∧ { quietEntry 9 3 with lapsed := true }.lapsed = true ∧
      (quietEntry 9 0).station ≠ figures.station ∧
      (s .raiseWait).entryPrecedes { quietEntry 4 0 with load := some 400 } = true ∧
      (s .raiseWait).entryPrecedes { quietEntry 9 0 with load := some 400 } = false ∧
      (s .raiseWait).entryPrecedes { quietEntry 9 0 with load := some 399 } = true) ∧
    ((stressing .raiseWait (loadStep 1000 5 true false)).raiseConditions = true ∧
      (withEntries [pend 4] (stressing .raiseWait (loadStep 1000 5 true false))).raiseConditions = false ∧
      (withEntries [raising 9] (stressing .raiseIntent (loadStep 1000 5 true false))).raiseConditionsAtEnd =
        true) := by decide

theorem witness_SlowRampsAreDetectedOnce :
    let x := loadStep 1000 5 true false
    let b := stressing .rampUp x
    let s := { b with jack := { b.jack with ramp := { b.jack.ramp with startLoad := 1000, clock := 60 } } }
    let seen := { s with jack := { s.jack with ramp := { s.jack.ramp with slow := true } } }
    let step2 (y : ScheduleStep) : State :=
      { b with jack := { b.jack with schedule := [x, y, loadStep 5000 0 false false], stepIndex := 2 } }
    let down := { loadStep 1000 5 false false with kind := .unload }
    let d := { step2 down with jack := { (step2 down).jack with phase := .rampDown } }
    let h (top : Bool) : State := { stressing .hold x with jack := { (stressing .hold x).jack with topUp := top } }
    let u (v : Nat) (z : State) := takeSample (.load (current 60000 v)) z
    (s.drivesLegal = true ∧ s.seq.config = some figures ∧ s.jobAdvances = true ∧ s.stressing .rampUp = true ∧
      s.jack.ramp.clock < 16777215 ∧
      rampAllowance s.stepTarget s.jack.ramp.startLoad figures.rampRate < s.jack.ramp.clock + 1 ∧
      s.jack.ramp.slow = false ∧ s.masked .rateSlow = false ∧
      (withMask [.rateSlow] s).masked .rateSlow = true ∧ (withMask [.rateSlow] s).boundaryClear = true) ∧
    (seen.jack.ramp.slow = true ∧ seen.jobAdvances = true ∧ seen.boundaryClear = true) ∧
    ((u 949 b).filtered .load = some 949 ∧ 949 + figures.loadTolerance < b.stepTarget ∧
      (u 949 b).watchQuiet = true) ∧
    (b.currentStep = some x ∧ (u 950 b).filtered .load = some 950 ∧ x.target ≤ 950 + figures.loadTolerance ∧
      (u 950 b).watchQuiet = true ∧ b.faults.pending = [] ∧ x.kind = .load ∧ x.hold ≠ 0) ∧
    ((step2 (lockStep 1000)).stressing .rampUp = true ∧ (step2 (lockStep 1000)).jack.stepIndex ≠ 1 ∧
      (step2 (lockStep 1000)).contacts.seat.active = false ∧ (u 950 (step2 (lockStep 1000))).watchQuiet = true) ∧
    ((step2 (loadStep 1000 0 false false)).stressing .rampUp = true ∧
      (step2 (loadStep 1000 0 false false)).elasticAt 2 = false ∧
      ((step2 x).jack.schedule[2]?).map ScheduleStep.kind = some .load) ∧
    (d.stressing .rampDown = true ∧ (u 1051 d).filtered .load = some 1051 ∧
      d.stepTarget + figures.loadTolerance < 1051 ∧ (u 1050 d).filtered .load = some 1050 ∧
      1050 ≤ d.stepTarget + figures.loadTolerance ∧ (u 1050 d).watchQuiet = true ∧ d.currentStep = some down ∧
      down.kind = .unload ∧ down.hold ≠ 0 ∧ d.jack.stepIndex ≠ 1) ∧
    ((h false).seq.stage = .stress ∧ (h false).jack.phase = .hold ∧ (h false).seq.runState = .running ∧
      (u 949 (h false)).filtered .load = some 949 ∧ (u 950 (h true)).filtered .load = some 950 ∧
      (u 949 (h true)).watchQuiet = true ∧ (withRun .paused (h false)).seq.runState = .paused) ∧
    ((takeSample (.load 3599999) b).filtered .load = none ∧
      (takeSample (.load 3599999) b).chans.load.voidRun < 100 ∧ b.masked .voidTest = false ∧
      (withMask [.voidTest] b).masked .voidTest = true ∧
      (takeSample (.load 3599999) b).watchQuiet = true) := by decide

theorem witness_ReadingsAreTakenAtTheirTimes :
    let s := withRun .paused (holdingAt 2700 60 (loadStep 1000 60 true false))
    s.drivesLegal = true ∧ s.jobAdvances = true ∧ s.seq.stage = .stress ∧ s.jack.phase = .hold ∧
    readingTimes[10]? = some 45 ∧ s.jack.holdClock + 1 = 45 * 60 ∧ s.jack.holdLength = some 60 ∧ 45 < 60 := by
  decide

theorem witness_HoldsEndAtTheirLength :
    let s := holdingAt 3600 60 (loadStep 1000 60 false false)
    (s.drivesLegal = true ∧ s.jobAdvances = true ∧ s.seq.stage = .stress ∧ s.jack.phase = .hold ∧
      s.jack.holdLength = some 60 ∧ s.jack.holdClock + 1 = 60 * 60 ∧
      s.currentStep = some (loadStep 1000 60 false false) ∧
      s.currentEntry = some (StepEntry.opened 1 (loadStep 1000 60 false false)) ∧
      s.elasticAt s.jack.stepIndex = false ∧ s.seq.runState = .running ∧ s.boundaryClear = true ∧
      (s.jack.schedule[s.jack.stepIndex]?).map ScheduleStep.kind = some .load) ∧
    (withRun .stopped s).drivesLegal = true ∧ (withRun .stopped s).jobAdvances = true ∧
    (withRun .stopped s).seq.runState ≠ .running := by decide

/-- The hypotheses that the clauses of HOLD_END with EVALUATE share, with the coefficient that the readings give. -/
def evaluatingTo (k : Figure) (s : State) : Bool :=
  s.drivesLegal && s.jobAdvances && s.seq.stage == .stress && s.jack.phase == .hold &&
  s.jack.holdLength == some 10 && readingTimes[6]? == some 10 && s.jack.holdClock + 1 == 10 * 60 &&
  (s.currentStep.map ScheduleStep.evaluate) == some true && !s.elasticAt s.jack.stepIndex &&
  (s.currentEntry.map fun e =>
    creepCoefficient 10
      (e.readings ++ [{ index := 7, minutes := 10, ext := s.extension, load := s.filtered .load }])) ==
    some k

def evaluating (k : Int) (s : State) : Bool := evaluatingTo (.value k) s

theorem witness_HoldEndsEvaluateTheCreep :
    let x := loadStep 1000 10 true true
    let pass := creeping 48120 48320 .inProgress x
    let grown := creeping 48120 48321 .inProgress x
    let again := creeping 48120 48321 .extending x
    evaluating 200 (withRun .paused pass) = true ∧
    (evaluating 201 grown = true ∧ x.extend = true ∧ (10 : Nat) < 60) ∧
    evaluating 201 (withRun .paused again) = true ∧
    (evaluating 201 again = true ∧ again.boundaryClear = true ∧ again.masked .creepExcess = false ∧
      again.watchQuiet = true) ∧
    (evaluating 200 pass = true ∧ pass.boundaryClear = true ∧
      (pass.jack.schedule[pass.jack.stepIndex]?).map ScheduleStep.kind = some .load) ∧
    (evaluating 201 (withMask [.creepExcess] again) = true ∧
      (withMask [.creepExcess] again).masked .creepExcess = true ∧
      (withMask [.creepExcess] again).boundaryClear = true) ∧
    (let v : State := { pass with chans := { pass.chans with ext := .reset } }
     let m := withMask [.voidTest] v
     (evaluatingTo .void m = true ∧ m.masked .voidTest = true ∧ m.boundaryClear = true ∧
       evaluatingTo .void (withRun .paused m) = true) ∧
     (evaluatingTo .void v = true ∧ v.masked .voidTest = false ∧ v.standing = true ∧ v.watchQuiet = true ∧
       evaluatingTo .void (withTaken .wallStop .stopped v) = true ∧
       (withTaken .wallStop .stopped v).standing = true)) := by decide

theorem witness_GroutTicksMoveTheClaim :
    let i := grouting .intent none
    let n := withEntries [drawerEntry 7, drawerEntry 9] i
    let c := grouting .draw (some ⟨119, 0⟩)
    let r := grouting .rest none
    let d (k : Nat) := grouting .draw (some ⟨5, k⟩)
    let th := grouting .throttled (some ⟨5, 1⟩)
    let gp (x : Nat) (s : State) := takeSample (.gp (current 10000 x)) s
    let v (x : Nat) := { th with chans := { th.chans with gvCount := x } }
    (i.drivesLegal = true ∧ i.boundaryClear = true ∧ i.seq.stage = .grout ∧ i.filtered .gp = some 100 ∧
      i.grout.record.map GroutRecord.limit = some 1500 ∧ i.seq.runState = .running ∧ 1 ≤ i.grout.intentTicks ∧
      (clocksAt i).groutTotal < i.cfg Setup.concurrency 0) ∧
    (n.drivesLegal = true ∧ n.boundaryClear = true ∧
      n.cfg Setup.concurrency 0 ≤ (clocksAt n).groutTotal ∧ n.cfg Setup.main 0 ≠ 0) ∧
    (c.drivesLegal = true ∧ c.boundaryClear = true ∧ c.grout.claim.isSome = true ∧
      c.cfg Setup.claimLimit 0 * 120 ≤ (c.grout.claim.map Claim.ticks).getD 0 + 1) ∧
    (r.drivesLegal = true ∧ r.boundaryClear = true ∧ r.grout.claim = none ∧ r.grout.phase = .rest ∧
      119 ≤ r.grout.restTicks ∧ r.seq.held = none ∧ r.cfg Setup.main 0 ≠ 0) ∧
    ((onMain 0 r).drivesLegal = true ∧ (onMain 0 r).cfg Setup.main 0 = 0) ∧
    ((withRun .paused r).drivesLegal = true ∧ (withRun .paused r).boundaryClear = true) ∧
    ((withRun .stopped r).drivesLegal = true ∧ (withRun .stopped r).boundaryClear = true) ∧
    (i.seq.config = some figures ∧ n.drawers = 2 ∧ n.isDrawer (drawerEntry 7) = true ∧
      i.isDrawer { drawerEntry 7 with overstay := true } = false) ∧
    ((d 1).drivesLegal = true ∧ (d 1).grout.claim = some ⟨5, 1⟩ ∧ (d 1).faults.pending = [] ∧
      (gp 1500 (d 1)).filtered .gp = some 1500 ∧ (gp 1501 (d 1)).filtered .gp = some 1501 ∧
      (d 2).grout.claim = some ⟨5, 2⟩ ∧ (d 2).watchQuiet = true ∧ (d 2).masked .groutRefusal = false ∧
      (withMask [.groutRefusal] (d 2)).masked .groutRefusal = true) ∧
    (th.drivesLegal = true ∧ th.grout.phase = .throttled ∧ (gp 1349 th).filtered .gp = some 1349 ∧
      (gp 1350 th).filtered .gp = some 1350) ∧
    ((v 85).stageEndHeld = false ∧ (takeSample .gv (v 85)).filtered .gv = some 85 ∧
      (takeSample .gv (v 84)).filtered .gv = some 84 ∧ (v 85).watchQuiet = true ∧
      (withRun .paused (v 85)).drivesLegal = true) := by decide

theorem witness_LineStatesFollowTheRuns :
    (lineAt 0 11 = bitTimes [] (lineAt 0 11) ∧ (lineAt 0 11).line.state ≠ .idle ∧
      (lineAt 0 11).readsDominant recessive = false) ∧
    (idle = bitTimes [] idle ∧ idle.line.state = .idle ∧ idle.readsDominant dominant = true) ∧
    ((lineAt 32 0).line.state = .busy ∧ (lineAt 32 0).readsDominant dominant = true ∧
      (lineAt 32 0).standing = true ∧ (lineAt 32 0).seq.runState ≠ .unconfigured) ∧
    ({ State.reset with line := (lineAt 32 0).line }.standing = true ∧
      State.reset.seq.runState = .unconfigured) ∧
    ({ (lineAt 66 0).line with breakDrive := true, breakBits := 65 }.breakDrive = true ∧
      (lineAt 66 0).contacts.estop.active = false) := by decide

/-- The receiver at the stop bit of a character with these ten bits. -/
def atStop (bits : List Bool) (a : Option Assembly) : State :=
  { lineAt 0 1 with line := { (lineAt 0 1).line with receiver := .character bits true, assembling := a } }

def marked : List Bool := [true, true, true, true, true, true, true, true, true, true]
def unmarked : List Bool := [true, true, true, true, true, true, true, true, true, false]

theorem witness_CharactersAssembleFrames :
    marked.length = 10 ∧ marked.getD 9 false = true ∧ unmarked.length = 10 ∧ unmarked.getD 9 false = false ∧
    ((atStop marked none).readsDominant recessive = false ∧ (atStop marked none).line.recRun < 11 ∧
      (atStop marked none).line.state = .busy) ∧
    ((atStop unmarked (some ⟨[1], 1⟩)).readsDominant recessive = false ∧
      1 + (true || (atStop unmarked (some ⟨[1], 1⟩)).readsNoisy recessive).toNat < 3) ∧
    3 ≤ 2 + (true || (atStop unmarked (some ⟨[1], 2⟩)).readsNoisy recessive).toNat ∧
    ((atStop unmarked (some ⟨[1], 2⟩)).readsDominant dominant = true ∧
      (atStop unmarked (some ⟨[1], 2⟩)).line.domRun < 32) := by decide

/-- The ten bits of an unmarked character before its stop bit (R54, R55). -/
def charBits (b : Byte) : List Bool := true :: ((List.range 8).map fun i => !b.getLsbD (7 - i)) ++ [false]

theorem witness_CompletedFramesJoinTheQueue :
    let frame := noticeStart ++ crcBytes noticeStart
    let good := atStop (charBits (frame.getD 14 0)) (some ⟨frame.take 14, 1⟩)
    let bad := atStop unmarked (some ⟨frame.take 14, 1⟩)
    let full := { good with line := { good.line with queue := [frame, frame, frame, frame] } }
    (good.line.state = .busy ∧ good.line.recRun < 11 ∧ good.readsDominant recessive = false ∧
      (beginAttempt good).ownBit = none ∧ (frame.take 14).length = 14 ∧
      1 + (true || good.readsNoisy recessive).toNat < 3 ∧ good.seq.config.isSome = true ∧
      frame = frame.take 14 ++ [byteOf (((charBits (frame.getD 14 0)).drop 1).take 8)] ∧
      crcBytes (frame.take 13) = frame.drop 13 ∧ good.line.queue.length < 4) ∧
    (bad.readsDominant recessive = false ∧
      crcBytes (frame.take 13) ≠ (frame.take 14 ++ [byteOf ((unmarked.drop 1).take 8)]).drop 13) ∧
    (full.readsDominant recessive = false ∧ 4 ≤ full.line.queue.length) := by decide +kernel

/-- A notice in the slot of a station with its line IDLE. -/
def slotAt (status : SlotStatus) (recRun : Nat) : State :=
  { idle with line := { idle.line with recRun := recRun, slot := some ⟨formNotice idle, status, true⟩ } }

theorem witness_AttemptsAreWonOrLost :
    ((slotAt .waiting 12).line.breakDrive = false ∧ (slotAt .waiting 12).line.state = .idle ∧
      dominant.driverFails = false) ∧
    12 + ((slotAt .backoff 78).cfg Setup.station 0 % 8 + 1) * 11 ≤ (slotAt .backoff 78).line.recRun ∧
    (slotAt (.sending 164) 1).readsDominant recessive = false ∧
    ((slotAt (.sending 164) 1).readsDominant dominant ≠ frameBit (formNotice idle) 164 ∧
      (slotAt (.sending 164) 1).line.domRun < 32 ∧ (slotAt (.sending 164) 1).line.lossCount < 15) ∧
    15 ≤ { (slotAt (.sending 0) 1).line with lossCount := 15 }.lossCount := by decide +kernel

/-- A station that applies a frame to a table. -/
def applying (frame : List Byte) (es : List Entry) : State :=
  { withEntries es idle with
    line := { idle.line with applying := some { frame := frame, counted := false } } }

/-- A table of `n` neighbours at bay 101, which is in span, or at bay 110, which is not. -/
def tableOf (n bay : Nat) : List Entry := (List.range n).map fun i => { quietEntry (i + 10) 0 with bay := bay, main := 2 }

theorem witness_NoticesUpdateTheTable :
    let e := entryOf figures.claimLimit noticeStart
    (applying noticeStart []).line.applying = some { frame := noticeStart, counted := false } ∧
    (applying noticeStart []).seq.config = some figures ∧
    (entryOf figures.claimLimit (noticeStart.set 0 5)).station = figures.station ∧
    frameWellFormed (noticeStart.set 0 64) = false ∧
    (frameWellFormed noticeStart = true ∧ e.station ≠ figures.station) ∧
    (findEntry e.station (applying noticeStart [quietEntry 9 0]).table.entries = some (quietEntry 9 0) ∧
      (quietEntry 9 0).sequence = e.sequence) ∧
    ((quietEntry 9 0).sequence ≠ (entryOf figures.claimLimit (noticeStart.set 12 8)).sequence) ∧
    (findEntry e.station (tableOf 23 101) = none ∧ (tableOf 23 101).length < 24) ∧
    (findEntry e.station (tableOf 24 101) = none ∧ 24 ≤ (tableOf 24 101).length ∧
      ∀ y ∈ tableOf 24 101, (applying noticeStart (tableOf 24 101)).inSpan y = true) ∧
    (let old := { quietEntry 33 0 with bay := 110, main := 2 }
     let s := applying noticeStart (tableOf 24 110)
     findEntry e.station (tableOf 24 110) = none ∧ old ∈ s.table.entries ∧ s.inSpan old = false ∧
       old.main ≠ figures.main ∧
       ∀ y ∈ s.table.entries,
         ((y.bay : Int) - figures.bay).natAbs = ((old.bay : Int) - figures.bay).natAbs ∧
         y.station ≤ old.station) := by decide +kernel

theorem witness_NoticesReadBackAsAnnounced :
    idle.seq.config = some figures ∧ 1 ≤ figures.station ∧ figures.station ≤ 63 ∧ figures.bay ≤ 999 ∧
    1 ≤ figures.row ∧ figures.row ≤ 8 ∧ figures.main ≤ 15 ∧ idle.filtered .load = some 400 ∧
    idle.jack.lockedLoad = none ∧ idle.claimAge < 65535 ∧ idle.table.ownSequence < 256 := by decide

theorem witness_FiguresFollowTheirFormulas : 100 ≤ 100 := by decide

end Sys2Proof.Tests
end

section
/-!
PROOF. The values after power-up, the samples of a loop current, the filter of a channel and the debounced contacts.
-/
namespace Sys2Proof.Machine

/-! ## Values after power-up (R17, R32, R73, R100, R119, R145, R175, R176, R188) -/

/-- Every channel starts with the figures of R17. -/
theorem reset_chan (c : ChannelName) : State.reset.chan c = Channel.reset := by
  cases c <;> rfl

/-- Settles O8: POWER_UP answers the reset state, whose figures are read off it. -/
theorem powerUpGivesTheStatedValues : Obligations.PowerUpGivesTheStatedValues := by
  intro c s
  refine ⟨{ State.reset with freeCount := s.freeCount, pending := s.pending }, rfl, ?_⟩
  have hc : State.chan { State.reset with freeCount := s.freeCount, pending := s.pending } c =
      Channel.reset := reset_chan c
  rw [hc]
  and_intros <;> rfl

/-! ## Samples of a loop current (R3) -/

/-- Half a unit up from the exact quotient, and then down to a whole number (00_scope.md 4.5). -/
theorem roundHalfUp_bounds (num : Int) {den : Nat} (h : 0 < den) :
    2 * den * roundHalfUp num den ≤ 2 * num + den ∧
    2 * num + den < 2 * den * (roundHalfUp num den + 1) := by
  have hd : (0 : Int) < 2 * den := by omega
  refine ⟨Int.mul_ediv_self_le hd.ne', ?_⟩
  rw [mul_add, mul_one]
  exact Int.lt_mul_ediv_self_add hd

/-- A loop current has no sample exactly outside 3.6 to 21.0 mA (R3). -/
theorem loopSample_eq_none (top i : Nat) :
    loopSample top i = none ↔ i < 3600000 ∨ 21000000 < i := by
  unfold loopSample
  split
  · rename_i h
    exact iff_of_true rfl (by simpa using h)
  · rename_i h
    refine iff_of_false ?_ (by simpa using h)
    dsimp only
    split <;> [skip; split] <;> simp

/-- The three ways in which a current within 3.6 to 21.0 mA becomes a sample: clamped at either end of the range with the
OVER mark, or the conversion itself (R3). -/
theorem loopSample_cases {top i : Nat} {x : Sample} (h : loopSample top i = some x) :
    let v := roundHalfUp (((i : Int) - 4000000) * top) 16000000
    (v < 0 ∧ x = { value := 0, overMark := true }) ∨
    (0 ≤ v ∧ (top : Int) < v ∧ x = { value := top, overMark := true }) ∨
    (0 ≤ v ∧ v ≤ top ∧ x = { value := v.toNat, overMark := false }) := by
  intro v
  unfold loopSample at h
  split at h
  · cases h
  · dsimp only at h
    split at h
    · exact .inl ⟨‹_›, (Option.some.inj h).symm⟩
    · split at h
      · exact .inr (.inl ⟨Int.not_lt.mp ‹_›, ‹_›, (Option.some.inj h).symm⟩)
      · exact .inr (.inr ⟨Int.not_lt.mp ‹_›, Int.not_lt.mp ‹_›, (Option.some.inj h).symm⟩)

/-- Settles O11, by the three ways of `loopSample_cases` and the bounds of the rounding. -/
theorem loopCurrentsConvertLinearly : Obligations.LoopCurrentsConvertLinearly := by
  intro top i x
  refine ⟨loopSample_eq_none top i, fun h => ?_⟩
  have hv := roundHalfUp_bounds (((i : Int) - 4000000) * top) (den := 16000000) (by omega)
  have hlow : i < 4000000 → ((i : Int) - 4000000) * top ≤ 0 := fun hi =>
    mul_nonpos_of_nonpos_of_nonneg (by omega) (by omega)
  have hhigh : 4000000 ≤ i → 0 ≤ ((i : Int) - 4000000) * top := fun hi =>
    mul_nonneg (by omega) (by omega)
  obtain ⟨hn, rfl⟩ | ⟨hn, ht, rfl⟩ | ⟨hn, ht, rfl⟩ := loopSample_cases h <;>
    generalize roundHalfUp (((i : Int) - 4000000) * top) 16000000 = v at * <;>
    generalize ((i : Int) - 4000000) * top = num at *
  · exact ⟨Nat.zero_le _, nofun, fun _ _ => rfl, fun _ hi => by have := hhigh hi; omega⟩
  · exact ⟨le_rfl, nofun, fun _ hi => by have := hlow hi; omega, fun _ _ => ⟨rfl, by omega⟩⟩
  · exact ⟨by simp; omega, fun _ => by simp; omega, nofun, nofun⟩

/-! ## The filter (R7, R8) -/

@[simp] theorem Channel.take_filterLen (c : Channel) (x : Option Sample) :
    (c.take x).filterLen = c.filterLen := rfl

@[simp] theorem Channel.take_window (c : Channel) (x : Option Sample) :
    (c.take x).window = windowAfter c.filterLen c.window x := rfl

theorem Channel.take_voidRun (c : Channel) (x : Option Sample) :
    (c.take x).voidRun = if (c.take x).value = none then min (c.voidRun + 1) Config.lostCount else 0 := by
  unfold Channel.take Channel.value
  simp

theorem Channel.take_refilled (c : Channel) (x : Option Sample) :
    (c.take x).refilled = (c.refilled || (c.value.isNone && (c.take x).value.isSome)) := rfl

/-- The value is VOID exactly while the window is not full (R7). -/
theorem Channel.value_eq_none (c : Channel) : c.value = none ↔ c.window.length ≠ c.filterLen := by
  unfold Channel.value; split <;> simp_all

theorem Channel.value_of_full {c : Channel} (h : c.window.length = c.filterLen) :
    c.value = some (((c.window.map Sample.value).sum + c.filterLen / 2) / c.filterLen) := by
  simp [Channel.value, h]

/-- A filter of at least one sample is VOID while its window is empty (R7, R8). -/
theorem Channel.value_of_empty {c : Channel} (hl : 1 ≤ c.filterLen) (hw : c.window = []) :
    c.value = none := by
  rw [Channel.value_eq_none, hw]; simp; omega

/-- Valid samples one after another leave the last N of what the window held and they (R7). -/
theorem Channel.foldl_take (xs : List Sample) :
    ∀ c : Channel, c.window.length ≤ c.filterLen →
    (xs.foldl (fun d y => d.take (some y)) c).filterLen = c.filterLen ∧
    (xs.foldl (fun d y => d.take (some y)) c).window =
      (c.window ++ xs).drop (c.window.length + xs.length - c.filterLen) := by
  induction xs with
  | nil => intro c h; simp [Nat.sub_eq_zero_of_le h]
  | cons x xs ih =>
    intro c h
    have hd : (c.take (some x)).window.length = min (c.window.length + 1) c.filterLen := by
      simp [windowAfter]
      omega
    obtain ⟨hf, hw⟩ := ih (c.take (some x)) (by rw [hd]; simp)
    refine ⟨hf, ?_⟩
    rw [List.foldl_cons, hw, hd]
    simp only [Channel.take_window, windowAfter, Channel.take_filterLen, List.length_append,
      List.length_cons, List.length_nil]
    rw [← List.drop_append_of_le_length (by simp), List.drop_drop, List.append_assoc,
      List.singleton_append]
    congr 1
    omega

/-- N valid samples fill a window of N with themselves (R7). -/
theorem Channel.foldl_take_full {c : Channel} {xs : List Sample} (h : c.window.length ≤ c.filterLen)
    (hx : xs.length = c.filterLen) :
    (xs.foldl (fun d y => d.take (some y)) c).filterLen = c.filterLen ∧
    (xs.foldl (fun d y => d.take (some y)) c).window = xs := by
  obtain ⟨hf, hw⟩ := Channel.foldl_take xs c h
  refine ⟨hf, ?_⟩
  rw [hw, hx, Nat.add_sub_cancel]
  simp

/-- A mean rounded half up is at most the bound of what it is the mean of. -/
theorem roundedMean_le {vs : List Nat} {n top : Nat} (hn : 1 ≤ n) (hl : vs.length = n)
    (h : ∀ v ∈ vs, v ≤ top) : (vs.sum + n / 2) / n ≤ top := by
  have hs : vs.sum ≤ n * top := by simpa [hl] using List.sum_le_card_nsmul vs top h
  have : vs.sum + n / 2 < (top + 1) * n := by
    have := Nat.div_lt_self hn (by omega : 1 < 2)
    rw [Nat.add_mul, Nat.mul_comm top n]; omega
  exact Nat.lt_succ_iff.mp ((Nat.div_lt_iff_lt_mul (by omega)).mpr this)

/-- Settles O12, by what a run of valid samples leaves in the window (`Channel.foldl_take`). -/
theorem filterIsTheMeanOfAFullWindow : Obligations.FilterIsTheMeanOfAFullWindow := by
  intro c x xs top hN hw
  refine ⟨by simp [windowAfter], by simp [windowAfter]; omega, ?_, ⟨rfl, ?_⟩, ?_, ?_, ?_⟩
  · intro h; rw [Channel.value_eq_none]; omega
  · exact Channel.value_of_empty hN rfl
  · obtain ⟨hf, hx⟩ := Channel.foldl_take xs (c.take none) (Nat.zero_le _)
    have hlen : (c.take none).window.length = 0 := rfl
    rw [Channel.value_eq_none, hf, hx, List.length_drop, List.length_append, hlen, Channel.take_filterLen]
    omega
  · intro hx
    obtain ⟨hf, hfull⟩ := Channel.foldl_take_full hw hx
    refine ⟨hfull, ?_⟩
    rw [Channel.value_of_full (by rw [hfull, hf, hx]), hfull, hf]
  · intro hx ht
    exact roundedMean_le hN (by simpa using hx) (by simpa using ht)

/-! ## Contacts (R15, R16) -/

/-- A read at the debounced level starts the count again (R15). -/
theorem Contact.read_same (c : Contact) : c.read c.active = { c with count := 0 } := by
  simp [Contact.read]

/-- A contact that has changed stays while the reads stay (R15). -/
theorem Contact.foldl_read_same (level : Bool) (k : Nat) :
    (List.replicate k level).foldl (fun d l => d.read l) { active := level, count := 0 } =
      ({ active := level, count := 0 } : Contact) := by
  induction k with
  | zero => rfl
  | succ k ih => simpa [List.replicate_succ, Contact.read] using ih

/-- Reads at the new level change a contact at the third and not before (R15). -/
theorem Contact.foldl_read_new {c : Contact} {level : Bool} (hc : c.count = 0) (hl : level ≠ c.active)
    (k : Nat) :
    ((List.replicate k level).foldl (fun d l => d.read l) c).active = level ↔ 3 ≤ k := by
  match k with
  | 0 => simpa using hl.symm
  | 1 => simpa [Contact.read, hc, hl] using hl.symm
  | 2 => simpa [List.replicate_succ, Contact.read, hc, hl] using hl.symm
  | k + 3 =>
    have h3 : ((c.read level).read level).read level = { active := level, count := 0 } := by
      simp [Contact.read, hc, hl]
    simp only [List.replicate_succ, List.foldl_cons, h3, Contact.foldl_read_same]
    simp

/-- Inactive reads of ESTOP release it at the 25th, counting those read before (R16). -/
theorem Contact.foldl_readEstop (k : Nat) : ∀ c : Contact, c.active = true → c.count < 25 →
    (((List.replicate k false).foldl (fun d o => d.readEstop o) c).active = false ↔
      25 ≤ c.count + k) := by
  have hoff : ∀ (k : Nat) (c : Contact), c.active = false →
      ((List.replicate k false).foldl (fun d o => d.readEstop o) c).active = false := by
    intro k
    induction k with
    | zero => exact fun _ h => h
    | succ k ih => exact fun c h => ih _ (by simp [Contact.readEstop, h])
  induction k with
  | zero => intro c ha hc; simp [ha]; omega
  | succ k ih =>
    intro c ha hc
    rw [List.replicate_succ, List.foldl_cons]
    by_cases h : 25 ≤ c.count + 1
    · have he : c.readEstop false = { active := false, count := 0 } := by simp [Contact.readEstop, ha, h]
      rw [he, hoff k _ rfl]
      simp; omega
    · have he : c.readEstop false = { c with count := c.count + 1 } := by simp [Contact.readEstop, ha, h]
      rw [he, ih { c with count := c.count + 1 } ha (by simp; omega)]
      simp; omega

/-- Settles O13, by the runs of reads above. -/
theorem contactsAreDebounced : Obligations.ContactsAreDebounced := by
  intro c level k
  refine ⟨c.read_same, fun hc hl => Contact.foldl_read_new hc hl k, rfl, fun ha hc => ?_⟩
  rw [Contact.foldl_readEstop k c ha (by omega), hc, Nat.zero_add]

end Sys2Proof.Machine
end

section
/-!
PROOF. What no work and no close of an event touches (`SameField`), drives by their rows, the parts of the close of an event,
and flow pulses.
-/
namespace Sys2Proof.Machine

/-! ## What no work and no close of an event touches -/

/-- What a channel shows but for its marks: window, filter length and void-run count. -/
def Channel.reading (c : Channel) : List Sample × Nat × Nat := (c.window, c.filterLen, c.voidRun)

/-- From `s` to `t` the readings of the channels, the GV pulse count, the neighbour entries, the receive queue, the line
state, the port, the configuration and the mask stay. -/
structure SameField (s t : State) : Prop where
  reading : ∀ c, (t.chan c).reading = (s.chan c).reading
  gvCount : t.chans.gvCount = s.chans.gvCount
  gvOver : t.chans.gvOver = s.chans.gvOver
  entries : t.table.entries = s.table.entries
  lineQueue : t.line.queue = s.line.queue
  lineState : t.line.state = s.line.state
  port : t.port = s.port
  config : t.seq.config = s.seq.config
  mask : t.faults.mask = s.faults.mask

theorem SameField.refl (s : State) : SameField s s := by constructor <;> simp

theorem SameField.trans {s t u : State} (h : SameField s t) (k : SameField t u) : SameField s u :=
  ⟨fun c => (k.reading c).trans (h.reading c), k.gvCount.trans h.gvCount, k.gvOver.trans h.gvOver,
    k.entries.trans h.entries, k.lineQueue.trans h.lineQueue, k.lineState.trans h.lineState,
    k.port.trans h.port, k.config.trans h.config, k.mask.trans h.mask⟩

theorem SameField.window {s t : State} (h : SameField s t) (c : ChannelName) :
    (t.chan c).window = (s.chan c).window := (congrArg Prod.fst (h.reading c) :)

theorem SameField.filterLen {s t : State} (h : SameField s t) (c : ChannelName) :
    (t.chan c).filterLen = (s.chan c).filterLen := congrArg (fun r => r.2.1) (h.reading c)

theorem SameField.voidRun {s t : State} (h : SameField s t) (c : ChannelName) :
    (t.chan c).voidRun = (s.chan c).voidRun := congrArg (fun r => r.2.2) (h.reading c)

/-- The filtered value is computed from the window and the filter length (R7). -/
theorem SameField.filtered {s t : State} (h : SameField s t) (c : ChannelName) :
    t.filtered c = s.filtered c := by
  simp only [State.filtered, Channel.value, h.window c, h.filterLen c]

/-- The overload and stroke decisions are held against the readings of LOAD and EXT (R137, R138). -/
theorem SameField.watchQuiet {s t : State} (h : SameField s t) : t.watchQuiet = s.watchQuiet := by
  simp only [State.watchQuiet, h.config, h.filtered]

theorem SameField.overloaded {s t : State} (h : SameField s t)
    (hl : t.drives.lower = s.drives.lower) : t.overloaded = s.overloaded := by
  simp only [State.overloaded, h.config, h.filtered, hl]

theorem SameField.watchTaken {s t : State} (h : SameField s t)
    (hl : t.drives.lower = s.drives.lower) : t.watchTaken = s.watchTaken := by
  simp only [State.watchTaken, h.overloaded hl]

/-- Work keeps what every channel holds, but for its REFILLED mark. -/
theorem Work.chan_content {s t : State} (h : Work s t) (c : ChannelName) :
    (t.chan c).content = (s.chan c).content := by
  have hc := h.content
  cases c
  · exact congrArg Channels.load hc
  · exact congrArg Channels.ext hc
  · exact congrArg Channels.gp hc
  · exact congrArg Channels.gv hc
  · exact congrArg Channels.wl hc
  · exact congrArg Channels.wt hc

theorem Work.sameField {s t : State} (h : Work s t) : SameField s t where
  reading c := (congrArg Channel.reading (h.chan_content c) :)
  gvCount := (congrArg Channels.gvCount h.content :)
  gvOver := (congrArg Channels.gvOver h.content :)
  entries := h.entries
  lineQueue := congrArg Line.queue h.line
  lineState := congrArg Line.state h.line
  port := h.port
  config := h.config
  mask := h.mask

theorem Work.lostBefore {s t : State} (h : Work s t) (c : ChannelName) :
    (t.chan c).lostBefore = (s.chan c).lostBefore := (congrArg Channel.lostBefore (h.chan_content c) :)

/-! ## One channel changed -/

theorem State.chan_updateChan_same (s : State) (c : ChannelName) (f : Channel → Channel) :
    (s.updateChan c f).chan c = f (s.chan c) := by
  cases c <;> rfl

theorem State.chan_updateChan_other (s : State) {c d : ChannelName} (f : Channel → Channel) (h : d ≠ c) :
    (s.updateChan c f).chan d = s.chan d := by
  cases c <;> cases d <;> first | rfl | exact absurd rfl h

/-- An update of one channel leaves the GV pulse count and the marks of the other channels' watch (R4, R13). -/
theorem Channels.update_counts (f : Channel → Channel) (cs : Channels) (c : ChannelName) :
    (cs.update f c).gvCount = cs.gvCount ∧ (cs.update f c).gvOver = cs.gvOver ∧
    (cs.update f c).drainOpen = cs.drainOpen ∧ (cs.update f c).driftLostBefore = cs.driftLostBefore := by
  cases c <;> exact ⟨rfl, rfl, rfl, rfl⟩

/-- A change of a channel's marks is no change of its reading. -/
theorem sameField_updateChan {f : Channel → Channel} (h : ∀ ch, (f ch).reading = ch.reading)
    (c : ChannelName) (s : State) : SameField s (s.updateChan c f) where
  reading d := by
    by_cases e : d = c
    · rw [e, State.chan_updateChan_same, h]
    · rw [State.chan_updateChan_other s f e]
  gvCount := (Channels.update_counts f s.chans c).1
  gvOver := (Channels.update_counts f s.chans c).2.1
  entries := rfl
  lineQueue := rfl
  lineState := rfl
  port := rfl
  config := rfl
  mask := rfl

/-! ## Drives by the row that allows them (R53) -/

/-- A drive whose row does not hold is shut. -/
theorem State.drives_shut {s : State} (h : s.drivesLegal = true) :
    (s.raiseAllowed = false → s.drives.raise = false) ∧
    (s.lowerAllowed = false → s.drives.lower = false) ∧
    (s.seatingAllowed = false → s.drives.seating = false) ∧
    (s.groutAllowed = false → s.drives.grout = false) ∧
    (s.winchAllowed = false → s.drives.winch = false) := by
  simp only [State.drivesLegal, Bool.and_eq_true, Bool.or_eq_true, Bool.not_eq_true'] at h
  obtain ⟨⟨⟨⟨⟨hr, hl⟩, hs⟩, hg⟩, hw⟩, _⟩ := h
  refine ⟨?_, ?_, ?_, ?_, ?_⟩ <;> intro e <;> simp_all

theorem Drives.ext_lower {d : Drives} {l : Bool} (hr : d.raise = false) (hl : d.lower = l)
    (hs : d.seating = false) (hg : d.grout = false) (hw : d.winch = false) :
    d = { Drives.off with lower := l } := by
  cases d; simp_all [Drives.off]

/-- In RELEASE only the lower valve can be open. -/
theorem State.drives_of_release {s : State} (h : s.drivesLegal = true) (hp : s.stressing .release = true) :
    s.drives = { Drives.off with lower := s.drives.lower } := by
  simp only [State.stressing, Bool.and_eq_true, beq_iff_eq] at hp
  obtain ⟨hr, -, hs, hg, hw⟩ := State.drives_shut h
  exact Drives.ext_lower (hr (by simp [State.raiseAllowed, hp])) rfl
    (hs (by simp [State.seatingAllowed, hp])) (hg (by simp [State.groutAllowed, hp]))
    (hw (by simp [State.winchAllowed, hp]))

/-- In an abort's lowering only the lower valve can be open. -/
theorem State.drives_of_aborting {s : State} (h : s.drivesLegal = true)
    (hr : s.seq.runState = .aborting) : s.drives = { Drives.off with lower := s.drives.lower } := by
  obtain ⟨h1, -, h3, h4, h5⟩ := State.drives_shut h
  exact Drives.ext_lower (h1 (by simp [State.raiseAllowed, hr])) rfl
    (h3 (by simp [State.seatingAllowed, hr])) (h4 (by simp [State.groutAllowed, hr]))
    (h5 (by simp [State.winchAllowed, hr]))

/-- In SEATING only the seating drive can be on. -/
theorem State.drives_of_seating {s : State} (h : s.drivesLegal = true) (hp : s.stressing .seating = true) :
    s.drives = { Drives.off with seating := s.drives.seating } := by
  simp only [State.stressing, Bool.and_eq_true, beq_iff_eq] at hp
  obtain ⟨h1, h2, -, h4, h5⟩ := State.drives_shut h
  have e1 := h1 (by simp [State.raiseAllowed, hp])
  have e2 := h2 (by simp [State.lowerAllowed, hp])
  have e4 := h4 (by simp [State.groutAllowed, hp])
  have e5 := h5 (by simp [State.winchAllowed, hp])
  generalize s.drives = d at *
  cases d; simp_all [Drives.off]

/-- No drive works in a run state other than RUNNING, PAUSED and ABORTING. -/
theorem State.drives_off {s : State} (h : s.drivesLegal = true) (hr : s.seq.runState ≠ .running)
    (hp : s.seq.runState ≠ .paused) (ha : s.seq.runState ≠ .aborting) : s.drives = .off := by
  obtain ⟨h1, h2, h3, h4, h5⟩ := State.drives_shut h
  exact Drives.ext_lower (h1 (by simp [State.raiseAllowed, hr, hp]))
    (h2 (by simp [State.lowerAllowed, hr, ha])) (h3 (by simp [State.seatingAllowed, hr]))
    (h4 (by simp [State.groutAllowed, hr])) (h5 (by simp [State.winchAllowed, hr]))

/-- With every drive shut each stands in its row. -/
theorem State.drivesLegal_of_off {s : State} (h : s.drives = .off) : s.drivesLegal = true := by
  simp [State.drivesLegal, h, Drives.off]

/-! ## The close of an event, part by part -/

/-- The state but for what a notice request writes: slot, follow-on mark, loss count and own sequence (R62, R83). -/
def State.withoutNotice (s : State) : State :=
  { s with
    line := { s.line with slot := none, followOn := false, lossCount := 0 }
    table := { s.table with ownSequence := 0 } }

theorem requestNotice_withoutNotice (s : State) :
    (requestNotice s).withoutNotice = s.withoutNotice := by
  rw [requestNotice_shape]; rfl

theorem followOnNotice_withoutNotice (s : State) :
    (followOnNotice s).withoutNotice = s.withoutNotice := by
  rw [followOnNotice_shape]; rfl

/-- A prompt notice writes nothing but what a notice request writes (R83). -/
theorem prompt_withoutNotice (s t : State) : (prompt s t).withoutNotice = t.withoutNotice := by
  obtain h | h := prompt_cases s t
  · rw [h]
  · rw [h, requestNotice_withoutNotice]

@[simp] theorem prompt_chans (s t : State) : (prompt s t).chans = t.chans :=
  (congrArg State.chans (prompt_withoutNotice s t) :)
@[simp] theorem prompt_contacts (s t : State) : (prompt s t).contacts = t.contacts :=
  (congrArg State.contacts (prompt_withoutNotice s t) :)
@[simp] theorem prompt_seq (s t : State) : (prompt s t).seq = t.seq :=
  (congrArg State.seq (prompt_withoutNotice s t) :)
@[simp] theorem prompt_drives (s t : State) : (prompt s t).drives = t.drives :=
  (congrArg State.drives (prompt_withoutNotice s t) :)
@[simp] theorem prompt_winch (s t : State) : (prompt s t).winch = t.winch :=
  (congrArg State.winch (prompt_withoutNotice s t) :)
@[simp] theorem prompt_grout (s t : State) : (prompt s t).grout = t.grout :=
  (congrArg State.grout (prompt_withoutNotice s t) :)
@[simp] theorem prompt_jack (s t : State) : (prompt s t).jack = t.jack :=
  (congrArg State.jack (prompt_withoutNotice s t) :)
@[simp] theorem prompt_eval (s t : State) : (prompt s t).eval = t.eval :=
  (congrArg State.eval (prompt_withoutNotice s t) :)
@[simp] theorem prompt_faults (s t : State) : (prompt s t).faults = t.faults :=
  (congrArg State.faults (prompt_withoutNotice s t) :)
@[simp] theorem prompt_log (s t : State) : (prompt s t).log = t.log :=
  (congrArg State.log (prompt_withoutNotice s t) :)
@[simp] theorem prompt_port (s t : State) : (prompt s t).port = t.port :=
  (congrArg State.port (prompt_withoutNotice s t) :)
@[simp] theorem prompt_entries (s t : State) : (prompt s t).table.entries = t.table.entries :=
  congrArg (fun u => u.table.entries) (prompt_withoutNotice s t)

/-- A notice request leaves the break drive and its count (R68). -/
theorem prompt_break (s t : State) : (prompt s t).line.breakDrive = t.line.breakDrive ∧
    (prompt s t).line.breakBits = t.line.breakBits :=
  ⟨congrArg (fun u => u.line.breakDrive) (prompt_withoutNotice s t),
    congrArg (fun u => u.line.breakBits) (prompt_withoutNotice s t)⟩

/-- States that differ in a notice at most have the same field side. -/
theorem SameField.of_withoutNotice {s t : State} (h : t.withoutNotice = s.withoutNotice) :
    SameField s t where
  reading c := congrArg (fun u => (u.chan c).reading) h
  gvCount := congrArg (fun u => u.chans.gvCount) h
  gvOver := congrArg (fun u => u.chans.gvOver) h
  entries := congrArg (fun u => u.table.entries) h
  lineQueue := congrArg (fun u => u.line.queue) h
  lineState := congrArg (fun u => u.line.state) h
  port := (congrArg State.port h :)
  config := congrArg (fun u => u.seq.config) h
  mask := congrArg (fun u => u.faults.mask) h

theorem prompt_legal (s t : State) : (prompt s t).drivesLegal = t.drivesLegal :=
  (congrArg State.drivesLegal (prompt_withoutNotice s t) :)

theorem secure_sameField (s t : State) : SameField t (secure s t) :=
  let h := (enforceDrives_work t).sameField
  ⟨h.reading, h.gvCount, h.gvOver, h.entries, h.lineQueue, h.lineState, h.port, h.config, h.mask⟩

/-- The close of an event leaves the field side as the event's effects leave it. -/
theorem finish_sameField (s t : State) : SameField t (finish s t) :=
  ((settle_work s t).sameField.trans (.of_withoutNotice (prompt_withoutNotice s _))).trans
    (secure_sameField s _)

theorem finish_contacts (s t : State) : (finish s t).contacts = t.contacts :=
  (enforceDrives_work _).contacts.trans ((prompt_contacts _ _).trans (settle_work s t).contacts)

/-- The close of an event leaves the mark of a loss (R12). -/
theorem finish_lostBefore (s t : State) (c : ChannelName) :
    ((finish s t).chan c).lostBefore = (t.chan c).lostBefore :=
  ((enforceDrives_work _).lostBefore c).trans
    ((congrArg (fun u => (u.chan c).lostBefore) (prompt_withoutNotice s _)).trans
      ((settle_work s t).lostBefore c))

/-- The close of an event takes no kind out of the seen set (R163). -/
theorem finish_seen {s t : State} {k : FaultKind} (h : k ∈ t.faults.seen) :
    k ∈ (finish s t).faults.seen := by
  refine (enforceDrives_work _).seen k ?_
  rw [prompt_faults]
  exact (settle_work s t).seen k h

/-- After the close of an event every drive stands in its row (R53). -/
theorem finish_legal (s t : State) : (finish s t).drivesLegal = true := secure_legal _ _

/-- An event whose effects settle as they stand closes with them and, at most, a prompt notice. -/
theorem finish_of_settled {s t : State} (hs : settle s t = t) (hl : t.drivesLegal = true) :
    finish s t = { prompt s t with pending := s.pending } := by
  unfold finish secure
  rw [hs, enforceDrives_of_legal (by rw [prompt_legal, hl])]

/-- An event that moves neither the run state nor the lower valve, announces nothing, and leaves every drive in its row
closes with its own effects. -/
theorem finish_same {s t : State} (hl : t.drivesLegal = true) (hr : t.seq.runState = s.seq.runState)
    (hv : t.drives.lower = s.drives.lower) (ha : t.announced = s.announced)
    (hq : t.pending = s.pending) : finish s t = t := by
  rw [finish_of_settled (settle_same hl hr hv) hl, prompt_same ha, ← hq]

/-! ## Flow pulses (R4) -/

/-- FLOW_PULSE moves the pulse count or its overflow mark, which no drive and no notice shows. -/
theorem execFlowPulse_eq {s : State} (h : s.drivesLegal = true) :
    exec .flowPulse s = .next (countPulse s) := by
  refine congrArg Host.Outcome.next ?_
  unfold countPulse
  split
  · split
    · exact finish_same h rfl rfl rfl rfl
    · exact finish_same h rfl rfl rfl rfl
  · exact finish_same h rfl rfl rfl rfl

/-- Settles O16: the cases of one pulse (R4). -/
theorem flowPulsesAreCountedInTheWindow : Obligations.FlowPulsesAreCountedInTheWindow := by
  intro s h
  rw [execFlowPulse_eq h]
  refine ⟨?_, ?_, ?_, ?_, ?_⟩
  · intro hw hf hc
    simp [countPulse, hw, hf, Config.gvMax, hc]
  · intro hw hf hc
    simp [countPulse, hw, hf, Config.gvMax, Nat.not_lt.mpr hc]
  · intro hg hd
    simp [countPulse, hg, hd]
  · intro hf
    simp [countPulse, hf]
  · exact congrArg Host.Outcome.next (finish_same h rfl rfl rfl rfl)

end Sys2Proof.Machine
end

section
/-!
PROOF. VOID values, detections with no stage active, and LOAD lost under a locked anchor.
-/
namespace Sys2Proof.Machine

/-! ## Decisions on a VOID value (R21) -/

/-- A comparison of VOID gives VOID (R18). -/
@[simp] theorem compareNat_void (t d : Nat) : compareNat none t d = .void := rfl

/-- An aware test is false on VOID (R21). -/
@[simp] theorem Test.holds_void (x : Test) : x.holds .void = false := by cases x <;> rfl

theorem State.overloaded_void {s : State} (h : s.filtered .load = none) : s.overloaded = false := by
  unfold State.overloaded
  split <;> simp [h]

theorem State.strokeEnded_void {s : State} (h : s.filtered .ext = none) : s.strokeEnded = false := by
  unfold State.strokeEnded
  split <;> simp [h]

/-- A channel that shows VOID detects no overload and no stroke (R137, R138). -/
theorem State.watchKind_void {s : State} {c : ChannelName} (h : s.filtered c = none) :
    s.watchKind c = none := by
  cases c <;> simp [State.watchKind]
  · exact State.overloaded_void h
  · exact State.strokeEnded_void h

theorem driftDecision_void {s : State} (h : s.filtered .load = none) : driftDecision s = s := by
  unfold driftDecision
  simp [h]

/-! ## A VOID sample (R8, R12) -/

theorem takeSample_chan (i : SampleInput) (s : State) :
    (takeSample i s).chan (inputChannel i) = (s.chan (inputChannel i)).take (s.sampleOf i) :=
  State.chan_updateChan_same _ _ _

theorem takeSample_chan_other {i : SampleInput} {c : ChannelName} (h : c ≠ inputChannel i) (s : State) :
    (takeSample i s).chan c = s.chan c :=
  State.chan_updateChan_other _ _ h

/-- A VOID sample leaves the window empty and the value VOID. -/
theorem takeSample_void {i : SampleInput} {s : State} (h : s.sampleOf i = none)
    (hl : 1 ≤ (s.chan (inputChannel i)).filterLen) :
    ((takeSample i s).chan (inputChannel i)).window = [] ∧
    (takeSample i s).filtered (inputChannel i) = none := by
  have hw : ((takeSample i s).chan (inputChannel i)).window = [] := by
    rw [takeSample_chan, h]; rfl
  refine ⟨hw, Channel.value_of_empty ?_ hw⟩
  rw [takeSample_chan]
  exact hl

/-- The void-run count ends at 100 (R12). -/
theorem takeSample_voidRun {i : SampleInput} {s : State} (h : s.sampleOf i = none)
    (hl : 1 ≤ (s.chan (inputChannel i)).filterLen) (hv : 99 ≤ (s.chan (inputChannel i)).voidRun) :
    ((takeSample i s).chan (inputChannel i)).voidRun = Config.lostCount := by
  have hn := (takeSample_void h hl).2
  simp only [State.filtered, takeSample_chan] at hn
  rw [takeSample_chan, Channel.take_voidRun, if_pos hn, Config.lostCount]
  omega

/-! ## Kinds beside work that they do not meet -/

/-- Where kinds and work end alike in both orders, that end is the one taken. -/
theorem besideKinds_eq {kinds work : State → State} {s : State} (h : kinds (work s) = work (kinds s)) :
    besideKinds kinds work s = work (kinds s) := by
  unfold besideKinds
  split
  · rfl
  · rw [eitherOrder_eq h, h]

/-! ## Detections with no stage active (R164) -/

/-- With no stage, a kind other than WALL_STOP and VOID_TEST is seen, or where masked under a locked anchor leaves no
record. -/
theorem detect_stageless {k : FaultKind} (d : Detail) {s : State} (h : s.seq.stage = .none)
    (hw : k ≠ .wallStop) (hv : k ≠ .voidTest) :
    detect k d s = if k = .anchorDrift ∧ s.masked k = true then s else seeKind k s := by
  have ha : (seeKind k s).stageActive = false := by simp [State.stageActive, h]
  unfold detect
  simp only [Bool.and_eq_true, decide_eq_true_eq, hw, hv, ha, if_false, Bool.false_eq_true]
  split
  · rfl
  · simp

/-- ANCHOR_DRIFT under a locked anchor touches nothing but the seen set (R13, R164). -/
theorem detect_anchorDrift (d : Detail) {s : State} (h : s.seq.stage = .none) :
    detect .anchorDrift d s = if s.masked .anchorDrift = true then s else seeKind .anchorDrift s := by
  simp [detect_stageless d h]

/-! ## LOAD lost under a locked anchor (R13) -/

/-- The drift watch's mark of a loss set (R13). -/
def markDriftLost (s : State) : State := { s with chans := { s.chans with driftLostBefore := true } }

theorem driftLossWatch_lost {s : State} (hv : s.chans.load.voidRun = Config.lostCount)
    (hd : s.driftWatched = true) (hb : s.chans.driftLostBefore = false) :
    driftLossWatch s = detect .anchorDrift .loadVoid (markDriftLost s) := by
  simp [driftLossWatch, markDriftLost, hv, hd, hb]

/-- With LOAD VOID and no stage active the drift watch's detection stands alone (R13, R139). -/
theorem besideKinds_driftLoss {s : State} (hs : s.seq.stage = .none) (hn : s.filtered .load = none)
    (hv : s.chans.load.voidRun = Config.lostCount) (hd : s.driftWatched = true)
    (hb : s.chans.driftLostBefore = false) :
    besideKinds (watchAt .load none false) (eventWork .load none) s =
      detect .anchorDrift .loadVoid (markDriftLost s) := by
  have hw : ∀ u : State, u.seq.stage = .none → u.filtered .load = none → eventWork .load none u = u := by
    intro u hu hf
    simp [eventWork, workAt, loadWork, hu, driftDecision_void hf]
  have hkinds : watchAt .load none false s = detect .anchorDrift .loadVoid (markDriftLost s) := by
    simp only [watchAt, lossWatch, Bool.false_and, Bool.false_eq_true, if_false, if_true]
    exact driftLossWatch_lost hv hd hb
  have hafter : eventWork .load none (watchAt .load none false s) = watchAt .load none false s := by
    rw [hkinds, detect_anchorDrift _ (s := markDriftLost s) hs]
    split <;> exact hw _ hs hn
  rw [besideKinds_eq (by rw [hw s hs hn, hafter]), hafter, hkinds]

/-- The state that DRIFT_LOAD_VOID leaves: the marks of its two watches, and the kind seen unless it is masked (R13). -/
def driftLossSeen (s : State) : State :=
  markLost .load false (detect .anchorDrift .loadVoid (markDriftLost s))

theorem driftLossSeen_eq {s : State} (hs : s.seq.stage = .none) :
    driftLossSeen s =
      markLost .load false
        (if s.masked .anchorDrift = true then markDriftLost s
         else seeKind .anchorDrift (markDriftLost s)) :=
  congrArg (markLost .load false) (detect_anchorDrift _ (s := markDriftLost s) hs)

/-- Settles O18: the event is the detection of the drift watch alone, and nothing of it is announced. -/
theorem loadLostUnderALockedAnchor : Obligations.LoadLostUnderALockedAnchor := by
  intro m s hm hcfg hprog hstage hlen hvoid hbefore hlegal
  have hsample : s.sampleOf (.load m) = none := hm
  have hn : (takeSample (.load m) s).filtered .load = none :=
    (takeSample_void (i := .load m) hsample hlen).2
  have hrun : (takeSample (.load m) s).chans.load.voidRun = Config.lostCount :=
    takeSample_voidRun (i := .load m) hsample hlen hvoid
  have hs : (takeSample (.load m) s).seq.stage = .none := hstage
  have hb : (takeSample (.load m) s).chans.driftLostBefore = false := hbefore
  have hd : (takeSample (.load m) s).driftWatched = true := by
    simp [State.driftWatched, takeSample, hcfg, hprog, hstage]
  have hdue : driftLossDue m s = true := by simp [driftLossDue, hrun, hd, hb]
  have hwork : sampleWork (.load m) none s = driftLossSeen (takeSample (.load m) s) := by
    have hl : (takeSample (.load m) s).standsLost .load = false := by
      simp [State.standsLost, State.needed, hs]
    simp only [sampleWork, inputChannel, State.watchKind_void hn, hl,
      besideKinds_driftLoss hs hn hrun hd hb]
    rfl
  refine ⟨driftLossSeen (takeSample (.load m) s), ?_, ?_⟩
  · refine congrArg Host.Outcome.next ?_
    simp only [occasion, hdue, if_true, hwork, driftLossSeen_eq hs]
    split <;> exact finish_same hlegal rfl rfl rfl rfl
  · rw [driftLossSeen_eq hs]
    have hmask : (takeSample (.load m) s).masked .anchorDrift = s.masked .anchorDrift := rfl
    rw [hmask]
    split <;> exact ⟨hrun, rfl, rfl, rfl, rfl, rfl, rfl⟩

end Sys2Proof.Machine
end

section
/-!
PROOF. Requests through the port, the entry into PAUSED with nothing due, and RESUME.
-/
namespace Sys2Proof.Machine

/-! ## A request through the port (R186 to R188) -/

/-- A port that is free takes a whole request and answers it (R186). -/
theorem frameArrives_free {s : State} (hp : s.portFree = true) {code : Byte} {body : List Byte}
    (hb : body.length ≤ 60) (v : Verdict) :
    frameArrives code body v s = answer code body v s := by
  simp only [State.portFree, Bool.and_eq_true, beq_iff_eq, Option.isNone_iff_eq_none] at hp
  obtain ⟨hw, hr⟩ := hp
  simp [frameArrives, completeFrame, State.canReceive, State.replying, State.turnaround, hw, hr, hb]

/-- An accepted request closes as an event does, with its reply formed (R186, R187). -/
theorem request_accepted {s : State} (hp : s.portFree = true) {code : Byte} {body : List Byte}
    (hb : body.length ≤ 60) (t : State) (out : List Byte) :
    secure s (frameArrives code body (.done t out) s) = finish s (setReply code body 0 0 out t) := by
  rw [frameArrives_free hp hb]
  exact secure_of_legal (finish_legal _ _) rfl

/-- A refused request changes the port's reply and nothing else (R186). -/
theorem request_refused {s : State} (hp : s.portFree = true) (hl : s.drivesLegal = true) {code : Byte}
    {body : List Byte} (hb : body.length ≤ 60) (why : Refused) :
    secure s (frameArrives code body (.refused why) s) = s.replied code body why.1.code why.2 [] := by
  rw [frameArrives_free hp hb]
  exact secure_of_legal (t := setReply code body why.1.code why.2 [] s) hl rfl

/-- The reply is formed in the port as it stands (R187). -/
theorem setReply_port_of {s t : State} (h : t.port = s.port) (code : Byte) (body : List Byte)
    (o a : Nat) (out : List Byte) :
    (setReply code body o a out t).port = (s.replied code body o a out).port := by
  simp [setReply, State.replied, h]

/-! ## What a record in the log leaves alone (R179) -/

section
variable (e : EventCode) (a : Nat) (s : State)

@[simp] theorem logEvent_drives : (logEvent e a s).drives = s.drives := by
  unfold logEvent; split <;> rfl
@[simp] theorem logEvent_winch : (logEvent e a s).winch = s.winch := by
  unfold logEvent; split <;> rfl
@[simp] theorem logEvent_grout : (logEvent e a s).grout = s.grout := by
  unfold logEvent; split <;> rfl
@[simp] theorem logEvent_eval : (logEvent e a s).eval = s.eval := by
  unfold logEvent; split <;> rfl
@[simp] theorem logEvent_table : (logEvent e a s).table = s.table := by
  unfold logEvent; split <;> rfl
@[simp] theorem logEvent_contacts : (logEvent e a s).contacts = s.contacts := by
  unfold logEvent; split <;> rfl
@[simp] theorem logEvent_line : (logEvent e a s).line = s.line := by
  unfold logEvent; split <;> rfl
@[simp] theorem logEvent_port : (logEvent e a s).port = s.port := by
  unfold logEvent; split <;> rfl

end

/-! ## Unaware tests on a valid value (R22) -/

theorem unaware_false {d : Detail} {x : Test} {c : Condition} (f g : State → State) (s : State)
    (hc : c ≠ .void) (hx : x.holds c = false) : unaware d x c f g s = g s := by
  simp [unaware, hc, hx]

theorem unaware_true {d : Detail} {x : Test} {c : Condition} (f g : State → State) (s : State)
    (hx : x.holds c = true) : unaware d x c f g s = f s := by
  have hc : c ≠ .void := by rintro rfl; simp at hx
  simp [unaware, hc, hx]

/-- REACHED and SHORT are never true together, and neither is true on VOID (R20, R21). -/
theorem Test.short_of_reached {c : Condition} (h : Test.reached.holds c = true) :
    c ≠ .void ∧ Test.short.holds c = false := by
  cases c <;> simp_all [Test.holds]

theorem Test.reached_of_short {c : Condition} (h : Test.short.holds c = true) :
    c ≠ .void ∧ Test.reached.holds c = false := by
  cases c <;> simp_all [Test.holds]

/-! ## Entering PAUSED with nothing due (R45, R46) -/

/-- A volume short of the target decides nothing (R114). -/
theorem volumeDecision_short {reach : Boundary → State → State} {s : State}
    (h : ∀ r, s.grout.record = some r →
      Test.short.holds (compareNat (s.filtered .gv) r.target 0) = true) :
    volumeDecision reach s = s := by
  unfold volumeDecision
  split
  · rename_i r hr
    split
    · obtain ⟨hv, hx⟩ := Test.reached_of_short (h r hr)
      exact unaware_false _ _ s hv hx
    · rfl
  · rfl

/-- A hold with no top-up under way, its load reached, starts none (R131). -/
theorem loadMaintenance_reached {s : State} (ht : s.jack.topUp = false)
    (h : Test.reached.holds (s.loadAgainst s.stepTarget) = true) : loadMaintenance s = s := by
  unfold loadMaintenance
  obtain ⟨hv, hx⟩ := Test.short_of_reached h
  split
  · simp only [ht, Bool.false_eq_true, if_false]
    exact unaware_false _ _ s hv hx
  · rfl

theorem pausedDecisions_quiet {s : State} (h : s.pausedQuiet = true) : pausedDecisions s = s := by
  simp only [State.pausedQuiet, Bool.and_eq_true, Bool.or_eq_true, bne_iff_ne, ne_eq,
    Bool.not_eq_true'] at h
  obtain ⟨hload, hvolume⟩ := h
  have hl : loadMaintenance s = s := by
    rcases hload with (hs | hp) | ⟨ht, hr⟩
    · simp [loadMaintenance, hs]
    · simp [loadMaintenance, hp]
    · exact loadMaintenance_reached ht hr
  unfold pausedDecisions
  rw [hl]
  rcases hvolume with hs | hv
  · unfold volumeDecision
    split
    · simp [hs]
    · rfl
  · refine volumeDecision_short fun r hr => ?_
    simpa [hr] using hv

/-- The decisions of PAUSED read the stage, jack and grout control, the configuration and the readings. -/
theorem SameField.pausedQuiet {s t : State} (h : SameField s t) (hs : t.seq.stage = s.seq.stage)
    (hj : t.jack = s.jack) (hg : t.grout = s.grout) : t.pausedQuiet = s.pausedQuiet := by
  simp only [State.pausedQuiet, State.loadAgainst, State.stepTarget, State.currentStep, State.cfg, hs, hj,
    hg, h.config, h.filtered]

/-! ## RESUME (R43, R45) -/

/-- The state that RESUME in STOPPED leaves where nothing is due (R45). -/
def stopEnded (s : State) : State :=
  setRunState (if s.seq.stage = .none then .idle else .paused) (clearTaken (logEvent .resume 0 s))

theorem stopEnded_sameField (s : State) : SameField s (stopEnded s) :=
  let h := (logEvent_work .resume 0 s).sameField
  ⟨h.reading, h.gvCount, h.gvOver, h.entries, h.lineQueue, h.lineState, h.port, h.config, h.mask⟩

theorem resumed_stopped {s : State} (hr : s.seq.runState = .stopped) (hw : s.watchQuiet = true)
    (hp : s.pausedQuiet = true) : resumed s = stopEnded s := by
  have hf := stopEnded_sameField s
  have hs : (clearTaken (logEvent .resume 0 s)).seq.stage = s.seq.stage := by simp
  simp only [resumed, hr, if_true, resumeStopped, State.stageActive, logEvent_seq]
  by_cases h : s.seq.stage = .none
  · simp [h, stopEnded]
  · have he : setRunState .paused (clearTaken (logEvent .resume 0 s)) = stopEnded s := by
      simp [stopEnded, h]
    simp only [bne_iff_ne, ne_eq, h, not_false_eq_true, if_true, enterPaused, he]
    rw [besideKinds_quiet (watchAsked_quiet (hf.watchQuiet.trans hw)),
      pausedDecisions_quiet ((hf.pausedQuiet (by simp [stopEnded]) (by simp [stopEnded])
        (by simp [stopEnded])).trans hp)]

/-- RESUME is accepted in PAUSED and STOPPED, with ESTOP inactive and the line not in BREAK (R43). -/
theorem execResume_accepted {s : State} (hp : s.portFree = true)
    (hr : s.seq.runState = .paused ∨ s.seq.runState = .stopped) (he : s.contacts.estop.active = false)
    (hl : s.line.state ≠ .broken) :
    exec (.resume []) s = .next (finish s (setReply codeResume [] 0 0 [] (resumed s))) := by
  have hv : resumeVerdict [] s = .done (resumed s) [] := by
    rcases hr with hr | hr <;>
      simp [resumeVerdict, resumeRefused, verdict, firstFailing, needConfigured, State.configured,
        noBody, hr, he, hl]
  refine congrArg Host.Outcome.next ?_
  rw [hv, request_accepted hp (Nat.zero_le _)]

/-- A refused RESUME answers with the reason of its first failing check (R43). -/
theorem execResume_refused {s : State} (hp : s.portFree = true) (hl : s.drivesLegal = true)
    {why : Refused} (h : resumeRefused [] s = some why) :
    exec (.resume []) s = .next (s.replied codeResume [] why.1.code why.2 []) := by
  refine congrArg Host.Outcome.next ?_
  rw [resumeVerdict, h]
  exact request_refused hp hl (Nat.zero_le _) why

/-- Settles O31: the accepted RESUME in STOPPED by `resumed_stopped`, the refusals by the checks of R43 in their order. -/
theorem resumeEndsAStop : Obligations.ResumeEndsAStop := by
  intro s hport hlegal hw hq
  refine ⟨fun hr he hl => ?_, fun h1 h2 h3 => ?_, fun hr he => ?_, fun hr he hl => ?_⟩
  · have hoff : s.drives = .off := State.drives_off hlegal (by simp [hr]) (by simp [hr]) (by simp [hr])
    have hd : (setReply codeResume [] 0 0 [] (stopEnded s)).drivesLegal = true :=
      State.drivesLegal_of_off (by simp [stopEnded, hoff])
    have hset : settle s (setReply codeResume [] 0 0 [] (stopEnded s)) =
        setReply codeResume [] 0 0 [] (stopEnded s) :=
      settle_quiet hd ((stopEnded_sameField s).watchQuiet.trans hw)
    refine ⟨_, execResume_accepted hport (.inr hr) he hl, ?_⟩
    rw [resumed_stopped hr hw hq, finish_of_settled hset hd]
    refine ⟨?_, ?_, ?_, ?_, ?_, ?_, ?_, ?_, ?_⟩
    case refine_9 => exact (prompt_port _ _).trans (setReply_port_of (stopEnded_sameField s).port _ _ _ _ _)
    all_goals simp [stopEnded, hoff]
  · exact execResume_refused hport hlegal (why := (.wrongState, 0)) (by
      simp [resumeRefused, firstFailing, needConfigured, State.configured, h1, h2, h3])
  · exact execResume_refused hport hlegal (why := (.estopActive, 0)) (by
      rcases hr with hr | hr <;>
        simp [resumeRefused, firstFailing, needConfigured, State.configured, hr, he])
  · exact execResume_refused hport hlegal (why := (.lineBreak, 0)) (by
      rcases hr with hr | hr <;>
        simp [resumeRefused, firstFailing, needConfigured, State.configured, hr, he, hl])

end Sys2Proof.Machine
end

section
/-!
PROOF. Work that a fault has stopped: which kind stands taken after a detection, after the overload and stroke decisions, and
at the close of an event.
-/
namespace Sys2Proof.Machine

/-! ## What the putting back of drives leaves alone (R53) -/

section
variable (s : State)

@[simp] theorem closeGrout_grout : (closeGrout s).grout = s.grout := by
  unfold closeGrout; split <;> rfl
@[simp] theorem closeGrout_faults : (closeGrout s).faults = s.faults := by
  unfold closeGrout; split <;> rfl
@[simp] theorem enforceDrives_seq : (enforceDrives s).seq = s.seq := by
  unfold enforceDrives; dsimp only; split <;> simp
@[simp] theorem enforceDrives_faults : (enforceDrives s).faults = s.faults := by
  unfold enforceDrives; dsimp only; split <;> simp
@[simp] theorem enforceDrives_grout : (enforceDrives s).grout = s.grout := by
  unfold enforceDrives; dsimp only; split <;> simp

end

/-- What holds of the effects with the drives put back, and after the decisions of a change of run state, holds once the
event has settled (R53, R137, R138). -/
theorem settle_elim {s t : State} {p : State → Prop} (h : p (enforceDrives t))
    (hw : p (enforceDrives (watchDecisions (enforceDrives t)))) : p (settle s t) := by
  unfold settle
  dsimp only
  split
  · exact hw
  · exact h

/-! ## Work that a fault has stopped (R50, R166 to R172) -/

/-- The station stands FAULTED in stage `st` with `f` taken; a claim has ended with the taking (R96). -/
structure Halted (st : Stage) (f : TakenFault) (s : State) : Prop where
  stage : s.seq.stage = st
  run : s.seq.runState = .faulted
  taken : s.faults.taken = some f
  claim : st = .grout → s.grout.claim = none

/-- The station stands in stage `st`, in run state `r` or FAULTED with a kind of priority below `n`: a kind of priority `n` or
above stops it, or replaces the kind taken (R166, R170). -/
structure Interruptible (st : Stage) (r : RunState) (n : Nat) (s : State) : Prop where
  stage : s.seq.stage = st
  run : s.seq.runState = r ∨ ∃ f, Halted st f s ∧ n < f.kind.priority

/-- The run states in which the work of a stage goes on (R32). -/
def Working (r : RunState) : Prop := r = .running ∨ r = .paused ∨ r = .aborting

/-- Being stopped is read off the sequencer, the fault unit and the grout control. -/
theorem Halted.of_eq {st : Stage} {f : TakenFault} {s t : State} (h : Halted st f s)
    (hq : t.seq = s.seq) (hf : t.faults.taken = s.faults.taken) (hg : t.grout.claim = s.grout.claim) :
    Halted st f t :=
  ⟨hq ▸ h.stage, hq ▸ h.run, hf.trans h.taken, fun e => hg.trans (h.claim e)⟩

theorem Interruptible.of_eq {st : Stage} {r : RunState} {n : Nat} {s t : State}
    (h : Interruptible st r n s) (hq : t.seq = s.seq) (hf : t.faults.taken = s.faults.taken)
    (hg : t.grout.claim = s.grout.claim) : Interruptible st r n t :=
  ⟨hq ▸ h.stage, h.run.imp (hq ▸ ·) fun ⟨f, hf', hp⟩ => ⟨f, hf'.of_eq hq hf hg, hp⟩⟩

theorem Interruptible.mono {st : Stage} {r : RunState} {m n : Nat} {s : State}
    (h : Interruptible st r n s) (hm : m ≤ n) : Interruptible st r m s :=
  ⟨h.stage, h.run.imp id fun ⟨f, hf, hp⟩ => ⟨f, hf, Nat.lt_of_le_of_lt hm hp⟩⟩

theorem Halted.interruptible {st : Stage} {f : TakenFault} {s : State} (h : Halted st f s)
    (r : RunState) {n : Nat} (hn : n < f.kind.priority) : Interruptible st r n s :=
  ⟨h.stage, .inr ⟨f, h, hn⟩⟩

/-- Taking a fault ends a claim (R96, R115). -/
theorem stopWork_claim {s : State} (h : s.seq.stage = .grout) : (stopWork s).grout.claim = none := by
  unfold stopWork
  simp only [h, closeGrout_grout]
  by_cases hc : s.grout.claim.isSome = true
  · simp [hc, endClaim]
  · simp only [hc, Bool.false_eq_true, if_false]
    have hn : s.grout.claim = none := by simpa using hc
    split <;> simp [hn]

@[simp] theorem logTaken_faults (k : FaultKind) (s : State) : (logTaken k s).faults = s.faults := by
  unfold logTaken; split <;> simp

@[simp] theorem logTaken_grout (k : FaultKind) (s : State) : (logTaken k s).grout = s.grout := by
  unfold logTaken; split <;> simp

theorem takeFault_claim (k : FaultKind) (d : Detail) {s : State} (h : s.seq.stage = .grout) :
    (takeFault k d s).grout.claim = none :=
  stopWork_claim (s := logTaken k s) (by simpa using h)

/-- A kind other than WALL_STOP that is taken stops the work (R50, R166). -/
theorem takeFault_halted {k : FaultKind} (d : Detail) (s : State) (hk : k ≠ .wallStop) :
    ∃ f, Halted s.seq.stage f (takeFault k d s) ∧ f.kind = k ∧ f.detail = d := by
  obtain ⟨hrun, hkind, hdetail⟩ := takeFault_taken k d s
  obtain ⟨f, hf, rfl⟩ := Option.map_eq_some_iff.mp hkind
  refine ⟨f, ⟨takeFault_stage _ _ _, ?_, hf, takeFault_claim _ _⟩, rfl, ?_⟩
  · rw [hrun, runStateOf, if_neg hk]
  · simpa [hf] using hdetail

/-- A kind of higher priority replaces the one taken (R170). -/
theorem replaceTaken_halted {st : Stage} {f : TakenFault} {k : FaultKind} (d : Detail) {s : State}
    (h : Halted st f s) (hk : k ≠ .wallStop) :
    ∃ g, Halted st g (replaceTaken k d s) ∧ g.kind = k ∧ g.detail = d := by
  unfold replaceTaken
  simp only [hk, if_false]
  exact ⟨_, ⟨by simp [writeTaken, h.stage], by simp [writeTaken, h.run], rfl,
    fun e => by simp [writeTaken, h.claim e]⟩, rfl, rfl⟩

/-- A kind taken at once, where the work goes on or a kind of lower priority stands taken, is the kind that stands taken
(R166, R170). -/
theorem takeAtOnce_halts {st : Stage} {r : RunState} {k : FaultKind} (d : Detail) {s : State}
    (hr : Working r) (h : Interruptible st r k.priority s) (hk : k ≠ .wallStop) :
    ∃ f, Halted st f (takeAtOnce k d s) ∧ f.kind = k ∧ f.detail = d := by
  obtain ⟨hst, hrun | ⟨f, hf, hp⟩⟩ := h
  · have ht : takeAtOnce k d s = takeFault k d s := by
      rcases hr with e | e | e <;> simp [takeAtOnce, hrun, e]
    rw [ht, ← hst]
    exact takeFault_halted d s hk
  · have ht : takeAtOnce k d s = replaceTaken k d s := by
      simp [takeAtOnce, hf.run, hf.taken, hp]
    rw [ht]
    exact replaceTaken_halted d hf hk

/-- A kind of no higher priority than the one taken changes nothing when it is taken at once (R171). -/
theorem takeAtOnce_lower {st : Stage} {f : TakenFault} {k : FaultKind} (d : Detail) {s : State}
    (h : Halted st f s) (hp : f.kind.priority ≤ k.priority) : takeAtOnce k d s = s := by
  simp [takeAtOnce, h.run, h.taken, Nat.not_lt.mpr hp]

/-- A kind of class not maskable, other than WALL_STOP, is taken at once while a stage is active (R164). -/
theorem detect_atOnce {k : FaultKind} (d : Detail) {s : State} (hs : s.seq.stage ≠ .none)
    (hm : k.maskable = false) (hk : k ≠ .wallStop) : detect k d s = takeAtOnce k d (seeKind k s) := by
  have ha : k ≠ .anchorDrift := by rintro rfl; simp [FaultKind.maskable, FaultKind.priority] at hm
  simp [detect, State.stageActive, hs, hm, hk, ha]

/-- The detection of a kind of class not maskable stops the work, or replaces a kind of lower priority (R164, R166, R170). -/
theorem detect_halts {st : Stage} {r : RunState} {k : FaultKind} (d : Detail) {s : State}
    (hr : Working r) (hst : st ≠ .none) (h : Interruptible st r k.priority s)
    (hm : k.maskable = false) (hk : k ≠ .wallStop) :
    ∃ f, Halted st f (detect k d s) ∧ f.kind = k ∧ f.detail = d := by
  rw [detect_atOnce d (h.stage ▸ hst) hm hk]
  exact takeAtOnce_halts d hr (h.of_eq rfl rfl rfl) hk

/-- A detected kind is seen, but for ANCHOR_DRIFT while it is masked (R164). -/
theorem detect_seen {k : FaultKind} (d : Detail) {s : State} (hs : s.seq.stage ≠ .none)
    (hm : k.maskable = false) (hk : k ≠ .wallStop) : k ∈ (detect k d s).faults.seen := by
  rw [detect_atOnce d hs hm hk]
  exact (takeAtOnce_work d (s := seeKind k s) (.inl hs)).seen k (mem_insertKind.mpr (.inl rfl))

/-- What a detection can do to work that a fault has stopped: the taken record stays, or the kind is of higher priority and
replaces it (R164, R170, R171). -/
theorem Halted.detect {st : Stage} {f : TakenFault} {s : State} (h : Halted st f s) {k : FaultKind}
    (d : Detail) (hk : k ≠ .wallStop) :
    Halted st f (detect k d s) ∨
    (k.priority < f.kind.priority ∧ ∃ g, Halted st g (Machine.detect k d s) ∧ g.kind = k) := by
  have hsee : Halted st f (seeKind k s) := h.of_eq rfl rfl rfl
  have honce : Halted st f (takeAtOnce k d (seeKind k s)) ∨
      (k.priority < f.kind.priority ∧ ∃ g, Halted st g (takeAtOnce k d (seeKind k s)) ∧ g.kind = k) := by
    by_cases hp : k.priority < f.kind.priority
    · obtain ⟨g, hg, hkind, -⟩ :=
        takeAtOnce_halts d (r := .running) (.inl rfl) (hsee.interruptible _ hp) hk
      exact .inr ⟨hp, g, hg, hkind⟩
    · exact .inl (by rw [takeAtOnce_lower d hsee (Nat.not_lt.mp hp)]; exact hsee)
  unfold Machine.detect
  simp only [hk, if_false]
  split
  · exact .inl h
  · split
    · split
      · exact honce
      · exact .inl hsee
    · split
      · exact .inl hsee
      · split
        · exact honce
        · split
          · exact .inl (hsee.of_eq rfl rfl rfl)
          · exact .inl hsee

/-- A kind of no higher priority leaves the taken record (R170, R171). -/
theorem Halted.detect_lower {st : Stage} {f : TakenFault} {s : State} (h : Halted st f s)
    {k : FaultKind} (d : Detail) (hk : k ≠ .wallStop) (hp : f.kind.priority ≤ k.priority) :
    Halted st f (Machine.detect k d s) :=
  (h.detect d hk).resolve_right fun e => absurd e.1 (Nat.not_lt.mpr hp)

/-! ## Overload and stroke beside a taken fault (R137, R138, R172) -/

/-- A detection asked or not. -/
theorem detectIf_elim {p : State → Prop} {asked : Bool} {k : FaultKind} {d : Detail} {s : State}
    (hn : asked = false → p s) (hd : asked = true → p (detect k d s)) : p (detectIf asked k d s) := by
  cases asked
  · exact hn rfl
  · exact hd rfl

/-- With the lower valve shut, an overload or a stroke is due where the two are not quiet (R137, R138). -/
theorem State.due_of_not_quiet {s : State} (hc : s.seq.config.isSome = true)
    (hl : s.drives.lower = false) (hw : s.watchQuiet = false) :
    s.overloaded = true ∨ s.strokeEnded = true := by
  obtain ⟨g, hg⟩ := Option.isSome_iff_exists.mp hc
  simp only [State.watchQuiet, hg, Bool.and_eq_false_iff, Bool.not_eq_false'] at hw
  simpa [State.overloaded, State.strokeEnded, hg, hl] using hw

/-- The higher of the two kinds is the one that stands taken, whichever acts first (R172). -/
theorem watchAsked_halts {st : Stage} {r : RunState} {u s : State} (hr : Working r) (hst : st ≠ .none)
    (h : Interruptible st r 3 s) (hu : u.overloaded = true ∨ u.strokeEnded = true) :
    ∃ f, Halted st f (watchAsked u s) ∧ f.kind = u.watchTaken := by
  have hstroke : ∀ s, Interruptible st r 3 s →
      ∃ f, Halted st f (detect .strokeEnd .none s) ∧ f.kind = .strokeEnd := fun s h =>
    (detect_halts (k := .strokeEnd) .none hr hst h rfl (by decide)).imp fun _ e => ⟨e.1, e.2.1⟩
  have hload : ∀ s, Interruptible st r 2 s →
      ∃ f, Halted st f (detect .loadLimit .none s) ∧ f.kind = .loadLimit := fun s h =>
    (detect_halts (k := .loadLimit) .none hr hst h rfl (by decide)).imp fun _ e => ⟨e.1, e.2.1⟩
  have hn : ∀ (t : State) (n : Nat), (∃ f, Halted st f t ∧ f.kind = u.watchTaken) →
      ∃ f, Halted st f { t with freeCount := n } ∧ f.kind = u.watchTaken :=
    fun t n ⟨f, hf, e⟩ => ⟨f, hf.of_eq rfl rfl rfl, e⟩
  unfold watchAsked
  by_cases ho : u.overloaded = true
  · have ht : u.watchTaken = .loadLimit := by simp [State.watchTaken, ho]
    rw [ho]
    refine eitherOrder_elim ?_ ?_ hn
    · obtain ⟨f, hf, e⟩ := hload s (h.mono (by omega))
      refine ⟨f, detectIf_elim (fun _ => hf) fun _ => ?_, e.trans ht.symm⟩
      exact hf.detect_lower .none (by decide) (by rw [e]; decide)
    · rw [ht]
      refine hload _ (detectIf_elim (fun _ => h.mono (by omega)) fun _ => ?_)
      obtain ⟨f, hf, e⟩ := hstroke s h
      exact hf.interruptible r (by rw [e]; decide)
  · have hs : u.strokeEnded = true := hu.resolve_left ho
    have ht : u.watchTaken = .strokeEnd := by simp [State.watchTaken, ho]
    have ho' : u.overloaded = false := by simpa using ho
    obtain ⟨f, hf, e⟩ := hstroke s h
    have h' : ∃ f, Halted st f (detect .strokeEnd .none s) ∧ f.kind = u.watchTaken :=
      ⟨f, hf, e.trans ht.symm⟩
    rw [hs, ho']
    exact eitherOrder_elim (p := fun t => ∃ f, Halted st f t ∧ f.kind = u.watchTaken) h' h' hn

/-- Where a kind stands taken that is no lower than the decisions detect, they leave the taken record. -/
theorem Halted.watchAsked {st : Stage} {f : TakenFault} {u s : State} (h : Halted st f s)
    (ho : u.overloaded = true → f.kind.priority ≤ 2) (hs : u.strokeEnded = true → f.kind.priority ≤ 3) :
    Halted st f (watchAsked u s) := by
  have hload : ∀ s, Halted st f s → Halted st f (detectIf u.overloaded .loadLimit .none s) := fun s h =>
    detectIf_elim (fun _ => h) fun e => h.detect_lower .none (by decide) (ho e)
  have hstroke : ∀ s, Halted st f s → Halted st f (detectIf u.strokeEnded .strokeEnd .none s) := fun s h =>
    detectIf_elim (fun _ => h) fun e => h.detect_lower .none (by decide) (hs e)
  exact eitherOrder_elim (hstroke _ (hload s h)) (hload _ (hstroke s h)) fun _ _ h => h.of_eq rfl rfl rfl

/-- The station stands FAULTED in stage `st` with a kind of priority `n` or higher taken. -/
def HaltedAbove (st : Stage) (n : Nat) (s : State) : Prop := ∃ f, Halted st f s ∧ f.kind.priority ≤ n

theorem HaltedAbove.detect {st : Stage} {n : Nat} {s : State} (h : HaltedAbove st n s) {k : FaultKind}
    (d : Detail) (hk : k ≠ .wallStop) : HaltedAbove st n (detect k d s) := by
  obtain ⟨f, hf, hp⟩ := h
  obtain h' | ⟨hlt, g, hg, e⟩ := hf.detect d hk
  · exact ⟨f, h', hp⟩
  · exact ⟨g, hg, by rw [e]; omega⟩

theorem HaltedAbove.watchAsked {st : Stage} {n : Nat} {u s : State} (h : HaltedAbove st n s) :
    HaltedAbove st n (watchAsked u s) := by
  have hd : ∀ (b : Bool) (k : FaultKind) (s : State), k ≠ .wallStop → HaltedAbove st n s →
      HaltedAbove st n (detectIf b k .none s) := fun b k s hk h =>
    detectIf_elim (fun _ => h) fun _ => h.detect .none hk
  exact eitherOrder_elim (hd _ _ _ (by decide) (hd _ _ _ (by decide) h))
    (hd _ _ _ (by decide) (hd _ _ _ (by decide) h)) fun t _ ⟨f, hf, e⟩ => ⟨f, hf.of_eq rfl rfl rfl, e⟩

/-! ## The close of an event that has stopped the work -/

/-- After the close of an event that leaves the station FAULTED every drive is off (R53). -/
theorem finish_halted_drives {st : Stage} {f : TakenFault} {s t : State}
    (h : Halted st f (finish s t)) : (finish s t).drives = .off :=
  State.drives_off (finish_legal s t) (by simp [h.run]) (by simp [h.run]) (by simp [h.run])

/-- In FAULTED the overload and stroke decisions are asked with the lower valve shut. -/
theorem enforceDrives_lower {st : Stage} {f : TakenFault} {t : State} (h : Halted st f t) :
    (enforceDrives t).drives.lower = false := by
  rw [State.drives_off (enforceDrives_legal t) (by simp [h.run]) (by simp [h.run]) (by simp [h.run])]
  rfl

theorem secure_prompt_halted {st : Stage} {f : TakenFault} {s t : State} (h : Halted st f t) :
    Halted st f (secure s (prompt s t)) :=
  (h.of_eq (t := prompt s t) (by simp) (by simp) (by simp)).of_eq (by simp [secure]) (by simp [secure])
    (by simp [secure])

/-- The close of an event leaves a taken record that the overload and stroke decisions do not replace. -/
theorem Halted.finish {st : Stage} {f : TakenFault} {s t : State} (h : Halted st f t)
    (hw : t.watchQuiet = true ∨ f.kind = State.watchTaken { t with drives := .off }) :
    Halted st f (finish s t) := by
  have he : Halted st f (enforceDrives t) := h.of_eq (by simp) (by simp) (by simp)
  have hq : SameField { t with drives := .off } (enforceDrives t) :=
    SameField.trans (t := t) ⟨fun _ => rfl, rfl, rfl, rfl, rfl, rfl, rfl, rfl, rfl⟩
      (enforceDrives_work t).sameField
  have hwatch : Halted st f (watchDecisions (enforceDrives t)) := by
    rcases hw with hw | hw
    · rwa [watchDecisions_quiet (hq.watchQuiet.trans hw)]
    · rw [← hq.watchTaken (enforceDrives_lower h)] at hw
      refine he.watchAsked (fun ho => ?_) fun _ => ?_ <;> rw [hw, State.watchTaken]
      · rw [if_pos ho]; decide
      · split <;> decide
  exact secure_prompt_halted (settle_elim he (hwatch.of_eq (by simp) (by simp) (by simp)))

theorem HaltedAbove.finish {st : Stage} {n : Nat} {s t : State} (h : HaltedAbove st n t) :
    HaltedAbove st n (finish s t) := by
  have hd : ∀ {u : State}, HaltedAbove st n u → HaltedAbove st n (enforceDrives u) := fun ⟨f, hf, e⟩ =>
    ⟨f, hf.of_eq (by simp) (by simp) (by simp), e⟩
  obtain ⟨f, hf, e⟩ : HaltedAbove st n (settle s t) := settle_elim (hd h) (hd (hd h).watchAsked)
  exact ⟨f, secure_prompt_halted hf, e⟩

end Sys2Proof.Machine
end

section
/-!
PROOF. What a sample event can do: the read it carries (`ReadBy`), the break drive, and REFILLED marks with no stage active.
-/
namespace Sys2Proof.Machine

/-! ## The abort's lowering as work (R49, R143) -/

theorem endAbort_work {s : State} (h : s.seq.stage ≠ .none) (hr : s.seq.runState = .aborting) :
    Work s (endAbort s) := by
  unfold endAbort
  have hlog : Work s (logEvent .stageEnd argAborted { s with drives := { s.drives with lower := false } }) :=
    .after (logEvent_work _ _ _) rfl
  refine Work.trans (t := updateSummary (fun j => { j with jobStatus := .aborted })
    (setStepPhase .none
      (logEvent .stageEnd argAborted { s with drives := { s.drives with lower := false } })))
    ((hlog.trans (setStepPhase_work .none _)).thenQuiet rfl) ?_
  exact Work.ends (by simpa using h) (by simp [hr]) rfl
    (fun _ => by simp [State.pendingSound, fallingPriority]) rfl fun _ => .inl rfl

theorem lowering_work (s : State) : Work s (lowering s) := by
  unfold lowering
  split
  · rename_i h
    simp only [Bool.and_eq_true, beq_iff_eq] at h
    split
    · exact endAbort_work (by simp [h.1]) h.2
    · split
      · exact .quiet rfl
      · exact .refl s
  · exact .refl s

/-- The lowering is of an abort only (R49). -/
theorem lowering_other {s : State} (h : s.seq.runState ≠ .aborting) : lowering s = s := by
  simp [lowering, h]

/-! ## The stage's side of a sample event (R24, R25, R27) -/

theorem loadWork_work (s : State) : Work s (loadWork s) := by
  unfold loadWork
  split
  · exact driftDecision_work s
  · exact .refl s
  · exact .refl s
  · split
    · exact lockApproach_work reach_work _ s
    · split
      · exact rampSample_work reach_work s
      · exact .refl s
    · exact loadMaintenance_work s
    · exact (unloadStop_work reach_work s).trans (lowering_work _)
    · exact settleEnd_work reach_work s
    all_goals exact .refl s

theorem workAt_work (c : ChannelName) (s : State) : Work s (workAt c s) := by
  cases c
  · exact loadWork_work s
  · exact .refl s
  · unfold workAt
    dsimp only
    split
    · exact reopenDecision_work reach_work s
    · exact throttleDecision_work reach_work s
  · exact volumeDecision_work reach_work s
  · exact (lengthDecision_work reach_work s).trans (stallReference_work _)
  · exact snagDecision_work s

/-! ## The break drive at a read of ESTOP (R68) -/

/-- The break drive after a read of the contacts (R68). -/
def breakStep (s : State) : State :=
  if s.contacts.estop.active then startBreakDrive s else endBreakDrive s

/-- The contact read and the break drive that ESTOP brings, where an event carries the read. -/
def eventRead (r : Option ContactRead) (s : State) : State :=
  match r with
  | none => s
  | some x => breakStep (readContacts x s)

theorem contactEvent_eq (x : ContactRead) (s : State) :
    contactEvent x s = lowering (contactWork reach (eventRead (some x) s)) := rfl

/-- The state but for the break drive and a notice. -/
def State.withoutBreak (s : State) : State :=
  { s.withoutNotice with line := { s.withoutNotice.line with breakDrive := false, breakBits := 0 } }

theorem withoutBreak_of_notice {s t : State} (h : t.withoutNotice = s.withoutNotice) :
    t.withoutBreak = s.withoutBreak :=
  (congrArg (fun u : State => { u with line := { u.line with breakDrive := false, breakBits := 0 } }) h :)

/-- The break drive touches its own figures and the notice in the slot (R68). -/
theorem breakStep_withoutBreak (s : State) : (breakStep s).withoutBreak = s.withoutBreak := by
  unfold breakStep
  split
  · unfold startBreakDrive
    split
    · rfl
    · dsimp only
      split
      · split
        · exact (withoutBreak_of_notice (followOnNotice_withoutNotice _)).trans rfl
        · rfl
        · rfl
      · rfl
  · unfold endBreakDrive
    split <;> rfl

section
variable (s : State)

@[simp] theorem breakStep_chans : (breakStep s).chans = s.chans :=
  (congrArg State.chans (breakStep_withoutBreak s) :)
@[simp] theorem breakStep_contacts : (breakStep s).contacts = s.contacts :=
  (congrArg State.contacts (breakStep_withoutBreak s) :)
@[simp] theorem breakStep_seq : (breakStep s).seq = s.seq :=
  (congrArg State.seq (breakStep_withoutBreak s) :)
@[simp] theorem breakStep_drives : (breakStep s).drives = s.drives :=
  (congrArg State.drives (breakStep_withoutBreak s) :)
@[simp] theorem breakStep_grout : (breakStep s).grout = s.grout :=
  (congrArg State.grout (breakStep_withoutBreak s) :)
@[simp] theorem breakStep_jack : (breakStep s).jack = s.jack :=
  (congrArg State.jack (breakStep_withoutBreak s) :)
@[simp] theorem breakStep_eval : (breakStep s).eval = s.eval :=
  (congrArg State.eval (breakStep_withoutBreak s) :)
@[simp] theorem breakStep_faults : (breakStep s).faults = s.faults :=
  (congrArg State.faults (breakStep_withoutBreak s) :)

end

/-- The break drive leaves the field side. -/
theorem breakStep_sameField (s : State) : SameField s (breakStep s) where
  reading c := (congrArg (fun u => (u.chan c).reading) (breakStep_withoutBreak s) :)
  gvCount := (congrArg (fun u => u.chans.gvCount) (breakStep_withoutBreak s) :)
  gvOver := (congrArg (fun u => u.chans.gvOver) (breakStep_withoutBreak s) :)
  entries := (congrArg (fun u => u.table.entries) (breakStep_withoutBreak s) :)
  lineQueue := (congrArg (fun u => u.line.queue) (breakStep_withoutBreak s) :)
  lineState := (congrArg (fun u => u.line.state) (breakStep_withoutBreak s) :)
  port := (congrArg State.port (breakStep_withoutBreak s) :)
  config := (congrArg (fun u => u.seq.config) (breakStep_withoutBreak s) :)
  mask := (congrArg (fun u => u.faults.mask) (breakStep_withoutBreak s) :)

/-- What the line shows of a break: the drive, its bit times, and the status of the notice in the slot. -/
def Line.breakView (l : Line) : Bool × Nat × Option SlotStatus :=
  (l.breakDrive, l.breakBits, l.slot.map Slot.status)

/-- An abandoned attempt waits (R68). -/
def SlotStatus.abandoned : SlotStatus → SlotStatus
  | .sending _ => .waiting
  | .waiting => .waiting
  | .backoff => .backoff

/-- What a read of ESTOP makes of it (R68). -/
def viewAfter (active : Bool) (v : Bool × Nat × Option SlotStatus) : Bool × Nat × Option SlotStatus :=
  if active then if v.1 then v else (true, 0, v.2.2.map SlotStatus.abandoned)
  else (v.1 && decide (v.2.1 < Config.breakDriveMin), v.2.1, v.2.2)

theorem viewAfter_inactive (b : Bool) (n : Nat) (o : Option SlotStatus) :
    viewAfter false (b, n, o) = (b && decide (n < Config.breakDriveMin), n, o) := rfl

/-- The follow-on notice takes the place and the status of the notice that waits (R62). -/
theorem followOnNotice_view {s : State} {n : Slot} (h : s.line.slot = some n) (hs : n.status = .waiting) :
    (followOnNotice s).line.breakView = s.line.breakView := by
  unfold followOnNotice
  split
  · have hview : ∀ (st : SlotStatus), st = .waiting →
        (placeNotice st { s with line := { s.line with followOn := false } }).line.breakView =
          s.line.breakView := by
      rintro st rfl
      simp [placeNotice, Line.breakView, h, hs]
    refine hview _ ?_
    obtain ⟨frame, status, retry⟩ := n
    simp only [h]
    subst hs
    rfl
  · rfl

theorem breakStep_view (s : State) :
    (breakStep s).line.breakView = viewAfter s.contacts.estop.active s.line.breakView := by
  unfold breakStep
  split
  · rename_i ha
    unfold startBreakDrive
    split
    · rename_i hb
      simp [viewAfter, ha, Line.breakView, hb]
    · rename_i hb
      dsimp only
      split
      · rename_i n hn
        split
        · rename_i k hk
          rw [followOnNotice_view rfl rfl]
          simp [viewAfter, ha, Line.breakView, hb, hn, hk, SlotStatus.abandoned]
        · rename_i hk
          simp [viewAfter, ha, Line.breakView, hb, hn, hk, SlotStatus.abandoned]
        · rename_i hk
          simp [viewAfter, ha, Line.breakView, hb, hn, hk, SlotStatus.abandoned]
      · rename_i hn
        simp [viewAfter, ha, Line.breakView, hb, hn]
  · rename_i ha
    rw [Bool.not_eq_true] at ha
    rw [ha, Line.breakView, Line.breakView, viewAfter_inactive]
    unfold endBreakDrive
    split
    · rename_i h
      simp only [Bool.and_eq_true, decide_eq_true_eq] at h
      rw [decide_eq_false (Nat.not_lt.mpr h.2), Bool.and_false]
    · rename_i h
      cases hb : s.line.breakDrive
      · rfl
      · have hlt : s.line.breakBits < Config.breakDriveMin := by simpa [ha, hb] using h
        rw [decide_eq_true hlt, Bool.and_true]

/-! ## What an event can do to the field side -/

/-- The contacts after the read that an event carries (R15, R16). -/
def contactsAfter (r : Option ContactRead) (cs : Contacts) : Contacts :=
  match r with
  | none => cs
  | some x =>
    { seat := cs.seat.read x.seatClosed
      jackHome := cs.jackHome.read x.jackHomeClosed
      flowFault := cs.flowFault.read x.flowFaultClosed
      estop := cs.estop.readEstop x.estopOpen }

/-- The break view after the read that an event carries, of contacts that stood as `cs` (R68). -/
def viewRead (r : Option ContactRead) (cs : Contacts) (v : Bool × Nat × Option SlotStatus) :
    Bool × Nat × Option SlotStatus :=
  match r with
  | none => v
  | some x => viewAfter (contactsAfter (some x) cs).estop.active v

/-- From `s` to `t` an event that carries the contact read `r` has taken that read, with the break drive it brings, and has
left the rest of the field side. -/
structure ReadBy (r : Option ContactRead) (s t : State) : Prop where
  field : SameField s t
  contacts : t.contacts = contactsAfter r s.contacts
  view : t.line.breakView = viewRead r s.contacts s.line.breakView

theorem Work.readNone {s t : State} (h : Work s t) : ReadBy none s t :=
  ⟨h.sameField, h.contacts, congrArg Line.breakView h.line⟩

theorem ReadBy.then {r : Option ContactRead} {s t u : State} (h : ReadBy r s t) (k : ReadBy none t u) :
    ReadBy r s u :=
  ⟨h.field.trans k.field, k.contacts.trans h.contacts, k.view.trans h.view⟩

theorem ReadBy.since {r : Option ContactRead} {s t u : State} (h : ReadBy none s t) (k : ReadBy r t u) :
    ReadBy r s u := by
  have hc : t.contacts = s.contacts := h.contacts
  have hv : t.line.breakView = s.line.breakView := h.view
  refine ⟨h.field.trans k.field, ?_, ?_⟩
  · rw [k.contacts, hc]
  · rw [k.view, hc, hv]

/-- The read that an event carries. -/
theorem eventRead_readBy (r : Option ContactRead) (s : State) : ReadBy r s (eventRead r s) := by
  cases r with
  | none => exact ⟨.refl s, rfl, rfl⟩
  | some x =>
    have hread : SameField s (readContacts x s) :=
      ⟨fun _ => rfl, rfl, rfl, rfl, rfl, rfl, rfl, rfl, rfl⟩
    exact ⟨hread.trans (breakStep_sameField _), breakStep_contacts _, breakStep_view _⟩

theorem contactEvent_readBy (x : ContactRead) (s : State) : ReadBy (some x) s (contactEvent x s) :=
  (eventRead_readBy (some x) s).then ((contactWork_work reach_work _).trans (lowering_work _)).readNone

theorem eventWork_readBy (c : ChannelName) (r : Option ContactRead) (s : State) :
    ReadBy r s (eventWork c r s) := by
  cases r with
  | none => exact (workAt_work c s).readNone
  | some x => exact (contactEvent_readBy x s).then (workAt_work c _).readNone

theorem lossWatch_work (c : ChannelName) (lost : Bool) (s : State) : Work s (lossWatch c lost s) := by
  unfold lossWatch
  split
  · exact detect_work _ (by simp)
  · exact .refl s

theorem driftLossWatch_readNone (s : State) : ReadBy none s (driftLossWatch s) := by
  have hmark : ∀ b : Bool, ReadBy none s { s with chans := { s.chans with driftLostBefore := b } } :=
    fun _ => ⟨⟨fun c => by cases c <;> rfl, rfl, rfl, rfl, rfl, rfl, rfl, rfl, rfl⟩, rfl, rfl⟩
  unfold driftLossWatch
  dsimp only
  split
  · exact (hmark _).then (detect_work _ (by simp)).readNone
  · exact hmark _

/-- The kinds that the overload and stroke decisions detect (R137, R138). -/
theorem State.watchKind_cases {s : State} {c : ChannelName} {k : FaultKind} (h : s.watchKind c = some k) :
    k = .loadLimit ∨ k = .strokeEnd := by
  cases c <;> simp only [State.watchKind, reduceCtorEq, Option.ite_none_right_eq_some] at h
  · exact .inl (Option.some.inj h.2).symm
  · exact .inr (Option.some.inj h.2).symm

/-- The detection of a kind that has been asked for. -/
def detectKind (kind : Option FaultKind) (s : State) : State :=
  match kind with
  | some k => detect k .none s
  | none => s

theorem watchAt_eq (c : ChannelName) (kind : Option FaultKind) (lost : Bool) (s : State) :
    watchAt c kind lost s =
      if c = .load then driftLossWatch (lossWatch c lost (detectKind kind s))
      else lossWatch c lost (detectKind kind s) := rfl

theorem watchAt_readNone (c : ChannelName) {kind : Option FaultKind}
    (hk : ∀ k, kind = some k → k ≠ .voidTest) (lost : Bool) (s : State) :
    ReadBy none s (watchAt c kind lost s) := by
  have hkind : Work s (detectKind kind s) := by
    cases kind with
    | none => exact .refl s
    | some k => exact detect_work _ fun e => absurd e (hk k rfl)
  have hloss := hkind.trans (lossWatch_work c lost _)
  rw [watchAt_eq]
  split
  · exact hloss.readNone.then (driftLossWatch_readNone _)
  · exact hloss.readNone

theorem watchKind_watchAt_readNone (c : ChannelName) (lost : Bool) (u s : State) :
    ReadBy none s (watchAt c (u.watchKind c) lost s) :=
  watchAt_readNone c (fun k hk => by rcases State.watchKind_cases hk with rfl | rfl <;> simp) lost s

theorem markLost_readNone (c : ChannelName) (lost : Bool) (s : State) :
    ReadBy none s (markLost c lost s) :=
  ⟨sameField_updateChan (f := fun ch => { ch with lostBefore := lost && s.needed c }) (fun _ => rfl) c s,
    rfl, rfl⟩

/-- A sample event leaves the field side as its sample and its contact read leave it (R2, R15, R16). -/
theorem sampleWork_readBy (i : SampleInput) (r : Option ContactRead) (s : State) :
    ReadBy r (takeSample i s) (sampleWork i r s) := by
  refine ReadBy.then (t := besideKinds
      (watchAt (inputChannel i) ((takeSample i s).watchKind (inputChannel i))
        ((takeSample i s).standsLost (inputChannel i)))
      (eventWork (inputChannel i) r) (takeSample i s)) ?_ (markLost_readNone _ _ _)
  refine besideKinds_elim (fun _ => ?_) ?_ fun t n h =>
    ⟨h.field.trans ⟨fun _ => rfl, rfl, rfl, rfl, rfl, rfl, rfl, rfl, rfl⟩, h.contacts, h.view⟩
  · exact (eventWork_readBy _ r _).then (watchKind_watchAt_readNone _ _ _ _)
  · exact (watchKind_watchAt_readNone _ _ _ _).since (eventWork_readBy _ r _)

/-! ## REFILLED marks with no stage active (R11, R183) -/

/-- From `s` to `t` no record has consumed a REFILLED mark, and the sequencer stays. -/
structure SameMarks (s t : State) : Prop where
  refilled : ∀ c, (t.chan c).refilled = (s.chan c).refilled
  seq : t.seq = s.seq

theorem SameMarks.refl (s : State) : SameMarks s s := ⟨fun _ => rfl, rfl⟩

theorem SameMarks.trans {s t u : State} (h : SameMarks s t) (k : SameMarks t u) : SameMarks s u :=
  ⟨fun c => (k.refilled c).trans (h.refilled c), k.seq.trans h.seq⟩

theorem SameMarks.of_chans {s t : State} (hc : t.chans = s.chans) (hq : t.seq = s.seq) : SameMarks s t :=
  ⟨fun c => by cases c <;> simp [State.chan, hc], hq⟩

theorem detect_sameMarks {k : FaultKind} (d : Detail) {s : State} (h : s.seq.stage = .none)
    (hw : k ≠ .wallStop) (hv : k ≠ .voidTest) : SameMarks s (detect k d s) := by
  rw [detect_stageless d h hw hv]
  split
  · exact .refl s
  · exact .of_chans rfl rfl

theorem driftDecision_sameMarks {s : State} (h : s.seq.stage = .none) : SameMarks s (driftDecision s) := by
  unfold driftDecision
  dsimp only
  split
  · split
    · split
      · exact .of_chans rfl rfl
      · exact .refl s
    · split
      · exact SameMarks.trans (t := { s with table := { s.table with drift := true } })
          (.of_chans rfl rfl) (detect_sameMarks _ h (by decide) (by decide))
      · exact .refl s
  · exact .refl s

/-- With no stage active the decisions on a channel are out of force, but for those of the drift watch (R24, R25, R27). -/
theorem workAt_sameMarks (c : ChannelName) {s : State} (h : s.seq.stage = .none) :
    SameMarks s (workAt c s) := by
  have hthrottle : throttleDecision reach s = s := by
    unfold throttleDecision; split <;> simp [State.grouting, h]
  have hreopen : reopenDecision reach s = s := by
    unfold reopenDecision; split <;> simp [State.grouting, h]
  cases c
  · simp only [workAt, loadWork, h]
    exact driftDecision_sameMarks h
  · exact .refl s
  · simp only [workAt, hthrottle, hreopen, ite_self]
    exact .refl s
  · have hvolume : volumeDecision reach s = s := by
      unfold volumeDecision; split <;> simp [h]
    simp only [workAt, hvolume]
    exact .refl s
  · have hlength : lengthDecision reach s = s := by
      unfold lengthDecision; split <;> simp [State.winching, h]
    simp only [workAt, hlength]
    unfold stallReference
    split
    · split
      · exact .refl s
      · exact .of_chans rfl rfl
    · exact .refl s
  · have hsnag : snagDecision s = s := by
      unfold snagDecision snagAsked State.snagged; split <;> simp_all [State.winching]
    simp only [workAt, hsnag]
    exact .refl s

theorem eventWork_sameMarks (c : ChannelName) (r : Option ContactRead) {s : State}
    (h : s.seq.stage = .none) : SameMarks s (eventWork c r s) := by
  cases r with
  | none => exact workAt_sameMarks c h
  | some x =>
    have hread : SameMarks s (eventRead (some x) s) :=
      .of_chans (breakStep_chans _) (breakStep_seq _)
    have hs : (eventRead (some x) s).seq.stage = .none := by rw [hread.seq]; exact h
    have hcontact : contactEvent x s = eventRead (some x) s := by
      rw [contactEvent_eq]
      simp [contactWork, State.stressing, lowering, hs]
    simp only [eventWork, hcontact]
    exact hread.trans (workAt_sameMarks c hs)

theorem watchAt_sameMarks (c : ChannelName) (lost : Bool) (u : State) {s : State}
    (h : s.seq.stage = .none) : SameMarks s (watchAt c (u.watchKind c) lost s) := by
  have hkind : SameMarks s (detectKind (u.watchKind c) s) := by
    cases hk : u.watchKind c with
    | none => exact .refl s
    | some k =>
      rcases State.watchKind_cases hk with rfl | rfl <;>
        exact detect_sameMarks _ h (by decide) (by decide)
  have hstage : ∀ {t : State}, SameMarks s t → t.seq.stage = .none := fun ht => by rw [ht.seq]; exact h
  have hloss : ∀ {t : State}, SameMarks s t → SameMarks s (lossWatch c lost t) := fun {t} ht => by
    unfold lossWatch
    split
    · exact ht.trans (detect_sameMarks _ (hstage ht) (by decide) (by decide))
    · exact ht
  have hdrift : ∀ {t : State}, SameMarks s t → SameMarks s (driftLossWatch t) := fun {t} ht => by
    have hmark : ∀ b : Bool, SameMarks s { t with chans := { t.chans with driftLostBefore := b } } :=
      fun _ => ht.trans ⟨fun c => by cases c <;> rfl, rfl⟩
    unfold driftLossWatch
    dsimp only
    split
    · exact (hmark _).trans (detect_sameMarks _ (hstage (hmark _)) (by decide) (by decide))
    · exact hmark _
  rw [watchAt_eq]
  split
  · exact hdrift (hloss hkind)
  · exact hloss hkind

theorem markLost_sameMarks (c : ChannelName) (lost : Bool) (s : State) : SameMarks s (markLost c lost s) where
  refilled d := by
    by_cases e : d = c
    · rw [e]
      exact (congrArg Channel.refilled (State.chan_updateChan_same s c fun ch =>
        { ch with lostBefore := lost && s.needed c }) :)
    · exact congrArg Channel.refilled (State.chan_updateChan_other _ _ e)
  seq := rfl

theorem sampleWork_sameMarks (i : SampleInput) (r : Option ContactRead) {s : State}
    (h : s.seq.stage = .none) : SameMarks (takeSample i s) (sampleWork i r s) := by
  have hs : (takeSample i s).seq.stage = .none := h
  refine SameMarks.trans (t := besideKinds
      (watchAt (inputChannel i) ((takeSample i s).watchKind (inputChannel i))
        ((takeSample i s).standsLost (inputChannel i)))
      (eventWork (inputChannel i) r) (takeSample i s)) ?_ (markLost_sameMarks _ _ _)
  refine besideKinds_elim (fun _ => ?_) ?_ fun t n k => k.trans ⟨fun _ => rfl, rfl⟩
  · have hw := eventWork_sameMarks (inputChannel i) r hs
    exact hw.trans (watchAt_sameMarks _ _ _ (by rw [hw.seq]; exact hs))
  · have hk := watchAt_sameMarks (inputChannel i)
      ((takeSample i s).standsLost (inputChannel i)) (takeSample i s) hs
    exact hk.trans (eventWork_sameMarks _ r (by rw [hk.seq]; exact hs))

theorem enforceDrives_sameMarks (s : State) : SameMarks s (enforceDrives s) := by
  refine ⟨fun c => ?_, enforceDrives_seq s⟩
  have hclose : ((closeGrout s).chan c).refilled = (s.chan c).refilled := by
    unfold closeGrout; split <;> cases c <;> rfl
  unfold enforceDrives
  dsimp only
  split
  · rfl
  · exact hclose

theorem watchAsked_sameMarks (u : State) {s : State} (h : s.seq.stage = .none) :
    SameMarks s (watchAsked u s) := by
  have hd : ∀ (b : Bool) (k : FaultKind) (t : State), k ≠ .wallStop → k ≠ .voidTest → SameMarks s t →
      SameMarks s (detectIf b k .none t) := fun b k t hw hv ht =>
    detectIf_elim (fun _ => ht) fun _ => ht.trans (detect_sameMarks _ (by rw [ht.seq]; exact h) hw hv)
  exact eitherOrder_elim
    (hd _ _ _ (by decide) (by decide) (hd _ _ _ (by decide) (by decide) (.refl s)))
    (hd _ _ _ (by decide) (by decide) (hd _ _ _ (by decide) (by decide) (.refl s)))
    fun t n k => k.trans ⟨fun _ => rfl, rfl⟩

/-- The close of an event with no stage active writes no record (R178, R179). -/
theorem finish_sameMarks (s : State) {t : State} (h : t.seq.stage = .none) : SameMarks t (finish s t) := by
  have he := enforceDrives_sameMarks t
  have hset : SameMarks t (settle s t) := settle_elim he
    ((he.trans (watchAsked_sameMarks _ (by rw [he.seq]; exact h))).trans (enforceDrives_sameMarks _))
  have hprompt : SameMarks t (prompt s (settle s t)) :=
    hset.trans (.of_chans (prompt_chans _ _) (prompt_seq _ _))
  exact (hprompt.trans (enforceDrives_sameMarks _)).trans ⟨fun _ => rfl, rfl⟩

/-- Settles O14: the sample, then what the rest of the event leaves alone. -/
theorem sampleEventUpdatesItsChannel : Obligations.SampleEventUpdatesItsChannel := by
  intro i r c s
  have hread := sampleWork_readBy i r s
  have hf : SameField (takeSample i s) (finish s (sampleWork i r s)) :=
    hread.field.trans (finish_sameField _ _)
  have hchan := takeSample_chan i s
  refine ⟨_, rfl, ?_, ?_, ?_, ?_, ?_, ⟨?_, ?_⟩, ?_, ?_, ?_, ?_, ?_, ?_, ?_⟩
  · rw [hf.window, hchan]; rfl
  · rw [hf.filterLen, hchan]; rfl
  · have hv : (State.chan (finish s (sampleWork i r s)) (inputChannel i)).value =
        ((s.chan (inputChannel i)).take (s.sampleOf i)).value :=
      (hf.filtered (inputChannel i)).trans (congrArg Channel.value hchan)
    rw [hf.voidRun, hchan, Channel.take_voidRun, hv]
    rfl
  · intro hs
    have hmarks := (sampleWork_sameMarks i r hs).trans
      (finish_sameMarks s (by rw [(sampleWork_sameMarks i r hs).seq]; exact hs))
    have hv : (takeSample i s).filtered (inputChannel i) =
        ((s.chan (inputChannel i)).take (s.sampleOf i)).value := congrArg Channel.value hchan
    rw [hmarks.refilled, hf.filtered, hv, hchan, Channel.take_refilled]
    rfl
  · intro hc
    rw [hf.window, hf.filterLen, hf.voidRun, takeSample_chan_other hc]
    exact ⟨rfl, rfl, rfl⟩
  · exact hf.gvCount.trans (Channels.update_counts _ _ _).1
  · exact hf.gvOver.trans (Channels.update_counts _ _ _).2.1
  · rw [finish_contacts, hread.contacts]
    cases r <;> rfl
  · exact hf.entries
  · exact hf.lineQueue
  · exact hf.lineState
  · exact hf.port
  · exact hf.config
  · exact hf.mask

end Sys2Proof.Machine
end

section
/-!
PROOF. The boundaries of lock-off, and what a contact read or a VOID value can do to the work of a stage.
-/
namespace Sys2Proof.Machine

/-! ## What a change of phase leaves alone (R123) -/

section
variable (p : StepPhase) (s : State)

@[simp] theorem setStepPhase_jack : (setStepPhase p s).jack = { s.jack with phase := p } := by
  unfold setStepPhase
  split
  · rename_i h; subst h; rfl
  · simp
@[simp] theorem setStepPhase_drives : (setStepPhase p s).drives = s.drives := by
  unfold setStepPhase; split <;> simp
@[simp] theorem setStepPhase_eval : (setStepPhase p s).eval = s.eval := by
  unfold setStepPhase; split <;> simp
@[simp] theorem setStepPhase_grout : (setStepPhase p s).grout = s.grout := by
  unfold setStepPhase; split <;> simp
@[simp] theorem setStepPhase_contacts : (setStepPhase p s).contacts = s.contacts := by
  unfold setStepPhase; split <;> simp

end

/-! ## Boundaries of lock-off (R133, R134) -/

theorem reachWith_pass {s : State} (h : s.faults.pending = []) (pass : Boundary → State → State)
    (b : Boundary) : reachWith pass b s = pass b s := by
  unfold reachWith; rw [h]

/-- From `s` to `t` lock-off has come to phase `p` with nothing held and its timer at 0; the rest of the work stays. -/
structure LockedOff (p : StepPhase) (s t : State) : Prop where
  seq : t.seq = { s.seq with held := none }
  jack : t.jack = { s.jack with phase := p, lockOffTimer := 0 }
  faults : t.faults = s.faults
  eval : t.eval = s.eval
  grout : t.grout = s.grout

/-- The end of RELEASE passes into SETTLE (R134). -/
theorem proceed_releaseEnd (n : Nat) (s : State) :
    LockedOff .settle s (proceed (n + 1) .releaseEnd s) ∧
    (proceed (n + 1) .releaseEnd s).drives = s.drives := by
  have h : proceed (n + 1) .releaseEnd s =
      startSettle (setStepPhase .settle { s with seq := { s.seq with held := none } }) := rfl
  rw [h]
  exact ⟨⟨by simp, by simp, by simp, by simp, by simp⟩, by simp⟩

/-- RELEASE begins with the lower valve open, or with JACK_HOME active ends at once (R134). -/
theorem startRelease_lockedOff (n : Nat) {s : State} (hr : s.jack.phase = .release)
    (hh : s.seq.held = none) (hp : s.faults.pending = []) :
    LockedOff (if s.contacts.jackHome.active = true then .settle else .release) s
      (startRelease (reachWith (proceed (n + 1))) s) ∧
    (startRelease (reachWith (proceed (n + 1))) s).drives =
      { s.drives with lower := !s.contacts.jackHome.active } := by
  unfold startRelease
  dsimp only
  by_cases hj : s.contacts.jackHome.active = true
  · simp only [hj, if_true]
    rw [reachWith_pass (by exact hp)]
    obtain ⟨⟨hq, hk, hf, he, hg⟩, hd⟩ := proceed_releaseEnd n
      { s with
        drives := { s.drives with lower := false }
        jack := { s.jack with lockOffTimer := 0 } }
    exact ⟨⟨hq, hk, hf, he, hg⟩, hd⟩
  · simp only [hj, if_false, Bool.false_eq_true]
    exact ⟨⟨by rw [← hh], by rw [← hr], rfl, rfl, rfl⟩, rfl⟩

/-- The end of SEATING passes into RELEASE, and with JACK_HOME active on into SETTLE (R133, R134). -/
theorem proceed_seatingEnd (n : Nat) {s : State} (hp : s.faults.pending = []) :
    LockedOff (if s.contacts.jackHome.active = true then .settle else .release) s
      (proceed (n + 2) .seatingEnd s) ∧
    (proceed (n + 2) .seatingEnd s).drives =
      { s.drives with lower := !s.contacts.jackHome.active } := by
  obtain ⟨⟨hq, hk, hf, he, hg⟩, hd⟩ := startRelease_lockedOff n
    (s := setStepPhase .release { s with seq := { s.seq with held := none } })
    (by simp) (by simp) (by simpa using hp)
  simp only [setStepPhase_contacts, setStepPhase_seq, setStepPhase_jack, setStepPhase_faults,
    setStepPhase_eval, setStepPhase_grout, setStepPhase_drives] at hq hk hf he hg hd
  exact ⟨⟨hq, hk, hf, he, hg⟩, hd⟩

/-! ## The contacts that end lock-off's phases (R133, R134) -/

theorem State.stressing_iff {s : State} {p : StepPhase} :
    s.stressing p = true ↔ s.seq.stage = .stress ∧ s.seq.runState = .running ∧ s.jack.phase = p := by
  simp [State.stressing, and_assoc]

theorem contactWork_seating {s : State} (h : s.stressing .seating = true)
    (hc : s.contacts.seat.active = true) :
    contactWork reach s = reach .seatingEnd { s with drives := { s.drives with seating := false } } := by
  simp [contactWork, h, hc]

/-- The end of RELEASE, unless a kind taken at the closing of the lower valve has stopped the work. -/
def releaseWork (s : State) : State := if s.stressing .release then reach .releaseEnd s else s

theorem contactWork_release {s : State} (h : s.stressing .release = true)
    (hc : s.contacts.jackHome.active = true) : contactWork reach s = shutLower releaseWork s := by
  have hs : s.stressing .seating = false := by
    obtain ⟨-, -, hp⟩ := State.stressing_iff.mp h
    simp [State.stressing, hp]
  unfold contactWork
  rw [if_neg (by simp [hs]), if_pos (by simp [h, hc])]
  rfl

/-- The contacts end phases in RUNNING only. -/
theorem contactWork_other {s : State} (h : s.seq.runState ≠ .running) : contactWork reach s = s := by
  simp [contactWork, State.stressing, h]

/-! ## Work that a contact read or a VOID value leaves interruptible -/

theorem Interruptible.ne_aborting {st : Stage} {r : RunState} {n : Nat} {s : State}
    (h : Interruptible st r n s) (hr : r ≠ .aborting) : s.seq.runState ≠ .aborting := by
  rcases h.run with e | ⟨f, hf, -⟩
  · rwa [e]
  · simp [hf.run]

/-- A kind that waits for a step boundary is of class maskable (R164, R167). -/
theorem pending_priority {s : State} (h : s.pendingSound = true) {k : FaultKind} {d : Detail}
    (hm : (k, d) ∈ s.faults.pending) : 6 < k.priority := by
  simp only [State.pendingSound, Bool.and_eq_true, List.all_eq_true] at h
  have hk : k.maskable = true := (h.1 _ hm).1
  exact Nat.lt_of_succ_le (by simpa [FaultKind.maskable] using hk)

/-- A boundary that is reached with kinds pending takes one of class maskable (R40, R167). -/
theorem reachWith_pending {st : Stage} (pass : Boundary → State → State) (b : Boundary) {s : State}
    (hp : s.pendingSound = true) (hs : s.seq.stage = st) (hn : s.faults.pending ≠ []) :
    ∃ f, Halted st f (reachWith pass b s) ∧ 6 < f.kind.priority := by
  unfold reachWith
  split
  · exact absurd ‹_› hn
  · rename_i k d rest hk
    have hprio : 6 < k.priority := pending_priority hp (by rw [hk]; exact List.mem_cons_self)
    have hw : k ≠ .wallStop := by rintro rfl; simp [FaultKind.priority] at hprio
    obtain ⟨f, hf, rfl, -⟩ :=
      takeFault_halted d { s with faults := { s.faults with pending := [] } } hw
    refine ⟨f, ⟨hf.stage.trans hs, hf.run, hf.taken, ?_⟩, hprio⟩
    rintro rfl
    exact hf.claim hs

/-- A boundary is passed, or a kind of class maskable is taken there (R40, R167). -/
theorem reachWith_interruptible {st : Stage} {r : RunState} {pass : Boundary → State → State}
    {b : Boundary} {s : State} (hp : s.pendingSound = true) (hs : s.seq.stage = st)
    (h : s.faults.pending = [] → Interruptible st r 6 (pass b s)) :
    Interruptible st r 6 (reachWith pass b s) := by
  by_cases hn : s.faults.pending = []
  · rw [reachWith_pass hn]; exact h hn
  · obtain ⟨f, hf, hprio⟩ := reachWith_pending pass b hp hs hn
    exact hf.interruptible r hprio

theorem LockedOff.interruptible {p : StepPhase} {st : Stage} {r : RunState} {n : Nat} {s t : State}
    (h : LockedOff p s t) (hs : s.seq.stage = st) (hr : s.seq.runState = r) : Interruptible st r n t :=
  ⟨by rw [h.seq]; exact hs, .inl (by rw [h.seq]; exact hr)⟩

theorem State.pendingSound_of_standing {s : State} (h : s.standing = true) : s.pendingSound = true := by
  simp only [State.standing, Bool.and_eq_true] at h
  exact h.2

theorem releaseWork_interruptible {r : RunState} {s : State} (hp : s.pendingSound = true)
    (hs : s.seq.stage = .stress) (hr : s.seq.runState = r) :
    Interruptible .stress r 6 (releaseWork s) := by
  unfold releaseWork
  split
  · exact reachWith_interruptible hp hs fun _ => (proceed_releaseEnd 31 s).1.interruptible hs hr
  · exact ⟨hs, .inl hr⟩

/-- A contact read leaves the work of a sound state going on, or stopped by a kind of class maskable. -/
theorem contactEvent_interruptible {st : Stage} {r : RunState} (x : ContactRead) {s : State}
    (hst : s.standing = true) (hq : s.watchQuiet = true) (hs : s.seq.stage = st)
    (hr : s.seq.runState = r) (ha : r ≠ .aborting) : Interruptible st r 6 (contactEvent x s) := by
  have hfield := (eventRead_readBy (some x) s).field
  have hseq : (eventRead (some x) s).seq = s.seq := breakStep_seq _
  have hflt : (eventRead (some x) s).faults = s.faults := breakStep_faults _
  have hp : (eventRead (some x) s).pendingSound = true := by
    rw [State.pendingSound, hflt]; exact State.pendingSound_of_standing hst
  rw [contactEvent_eq]
  generalize eventRead (some x) s = u at hfield hseq hflt hp ⊢
  have hus : u.seq.stage = st := by rw [hseq, hs]
  have hur : u.seq.runState = r := by rw [hseq, hr]
  have hwork : Interruptible st r 6 (contactWork reach u) := by
    unfold contactWork
    split
    · exact reachWith_interruptible hp hus fun hn => (proceed_seatingEnd 30 hn).1.interruptible hus hur
    · split
      · rename_i h
        simp only [Bool.and_eq_true] at h
        obtain ⟨hstage, -, -⟩ := State.stressing_iff.mp h.1
        rw [shutLower_quiet (hfield.watchQuiet.trans hq)]
        subst hus
        rw [hstage]
        exact releaseWork_interruptible (s := { u with drives := { u.drives with lower := false } })
          hp hstage hur
      · exact ⟨hus, .inl hur⟩
  rw [lowering_other (hwork.ne_aborting ha)]
  exact hwork

/-- VOID_TEST is seen while it is masked, and else taken at once (R164, R165). -/
theorem detect_voidTest (d : Detail) (s : State) :
    detect .voidTest d s =
      if s.masked .voidTest = true then seeKind .voidTest s
      else takeAtOnce .voidTest d (seeKind .voidTest s) := by
  simp [detect, FaultKind.maskable, FaultKind.priority, State.masked]

/-- VOID_TEST in work that goes on is seen, or stops it (R165, R166). -/
theorem detect_voidTest_cases {st : Stage} {r : RunState} (hr : Working r) (d : Detail) {s : State}
    (h : Interruptible st r 7 s) :
    detect .voidTest d s = seeKind .voidTest s ∨
    ∃ f, Halted st f (detect .voidTest d s) ∧ f.kind = .voidTest := by
  have hi : Interruptible st r FaultKind.voidTest.priority (seeKind .voidTest s) := h.of_eq rfl rfl rfl
  rw [detect_voidTest]
  split
  · exact .inl rfl
  · exact .inr ((takeAtOnce_halts d hr hi (by decide)).imp fun _ e => ⟨e.1, e.2.1⟩)

/-- VOID_TEST, where it is not masked, stops the work with a kind that CHANNEL_LOST replaces (R22, R165). -/
theorem detect_voidTest_interruptible {st : Stage} {r : RunState} (hr : Working r) (d : Detail) {s : State}
    (h : Interruptible st r 6 s) : Interruptible st r 6 (detect .voidTest d s) := by
  have hcases : Interruptible st r 7 s → Interruptible st r 6 (detect .voidTest d s) := fun hi => by
    obtain e | ⟨f, hf, hk⟩ := detect_voidTest_cases hr d hi
    · rw [e]; exact h.of_eq rfl rfl rfl
    · exact hf.interruptible r (by rw [hk]; decide)
  rcases h.run with e | ⟨f, hf, hp⟩
  · exact hcases ⟨h.stage, .inl e⟩
  · by_cases hlt : FaultKind.voidTest.priority < f.kind.priority
    · exact hcases (hf.interruptible r hlt)
    · exact (hf.detect_lower d (by decide) (Nat.not_lt.mp hlt)).interruptible r hp

/-- An unaware test on VOID detects VOID_TEST, and where that is masked the decision acts on false (R22, R23). -/
theorem unaware_void_interruptible {st : Stage} {r : RunState} (hr : Working r) {d : Detail} {x : Test}
    {f g : State → State} {s : State} (h : Interruptible st r 6 s)
    (hg : ∀ u, Interruptible st r 6 u → Interruptible st r 6 (g u)) :
    Interruptible st r 6 (unaware d x .void f g s) := by
  unfold unaware
  have hd := detect_voidTest_interruptible hr d h
  rw [if_pos rfl]
  split
  · exact hg _ hd
  · exact hd

theorem unloadStop_other {reach : Boundary → State → State} {s : State} (h : s.seq.runState ≠ .running) :
    unloadStop reach s = s := by
  simp [unloadStop, State.stressing, h]

/-- With LOAD VOID and JACK_HOME inactive an abort's lowering stays as it is (R49). -/
theorem lowering_void {s : State} (hf : s.filtered .load = none)
    (hj : s.seq.runState = .aborting → s.contacts.jackHome.active = false) : lowering s = s := by
  unfold lowering
  split
  · rename_i h
    simp only [Bool.and_eq_true, beq_iff_eq] at h
    simp [hj h.2, State.loadAgainst, hf]
  · rfl

/-- The ramp stop while LOAD is VOID (R22, R126). -/
theorem rampStop_void {st : Stage} {r : RunState} (hr : Working r) {s : State}
    (hf : s.filtered .load = none) (h : Interruptible st r 6 s) (b : Bool) :
    Interruptible st r 6 (rampStop reach b s) := by
  unfold rampStop
  split
  · rw [State.loadAgainst, hf]
    exact unaware_void_interruptible hr h fun u hu => hu.of_eq rfl rfl rfl
  · exact h

/-- The decisions on LOAD while it is VOID (R21, R22). -/
theorem loadWork_void {st : Stage} {r : RunState} (hr : Working r) (hst : st ≠ .none) {s : State}
    (hf : s.filtered .load = none) (h : Interruptible st r 6 s)
    (hj : s.seq.runState = .aborting → s.contacts.jackHome.active = false) :
    Interruptible st r 6 (loadWork s) := by
  have hl : ∀ target, s.loadAgainst target = .void := fun target => by simp [State.loadAgainst, hf]
  unfold loadWork
  split
  · exact absurd (h.stage ▸ ‹_›) hst
  · exact h
  · exact h
  · split
    · unfold lockApproach
      split
      · simp only [hl]; exact h
      · exact h
    · split
      · unfold rampSample
        dsimp only
        refine rampStop_void hr ?_ ?_ _
        · exact hf
        · exact h.of_eq rfl rfl rfl
      · exact h
    · unfold loadMaintenance
      simp only [hl]
      split
      · split
        · exact unaware_void_interruptible hr h fun _ hu => hu
        · exact unaware_void_interruptible hr h fun _ hu => hu
      · exact h
    · by_cases ha : r = .aborting
      · have hrun : s.seq.runState ≠ .running := by
          rcases h.run with e | ⟨f, hf, -⟩
          · rw [e, ha]; decide
          · simp [hf.run]
        rw [unloadStop_other hrun, lowering_void hf hj]
        exact h
      · have hstop : Interruptible st r 6 (unloadStop reach s) := by
          unfold unloadStop
          simp only [hl]
          split
          · exact unaware_void_interruptible hr h fun _ hu => hu.of_eq rfl rfl rfl
          · exact h
        rw [lowering_other (hstop.ne_aborting ha)]
        exact hstop
    · unfold settleEnd
      split
      · rw [hf]; exact h
      · exact h
    all_goals exact h

/-- The decisions on a channel while it is VOID take at most VOID_TEST (R21, R22). -/
theorem workAt_void {st : Stage} {r : RunState} (hr : Working r) (hst : st ≠ .none) {c : ChannelName}
    {s : State} (hf : s.filtered c = none) (h : Interruptible st r 6 s)
    (hj : s.seq.runState = .aborting → s.contacts.jackHome.active = false) :
    Interruptible st r 6 (workAt c s) := by
  cases c
  · exact loadWork_void hr hst hf h hj
  · exact h
  · unfold workAt
    dsimp only
    split
    · unfold reopenDecision
      split
      · simp only [hf, compareNat_void, Test.holds_void, Bool.and_false, Bool.false_eq_true, if_false]
        exact h
      · exact h
    · unfold throttleDecision
      split
      · split
        · rw [hf]
          refine unaware_void_interruptible hr h fun u hu => ?_
          split
          · exact hu
          · exact hu.of_eq rfl rfl rfl
        · exact h
      · exact h
  · unfold workAt volumeDecision
    dsimp only
    split
    · split
      · rw [hf]
        exact unaware_void_interruptible hr h fun _ hu => hu
      · exact h
    · exact h
  · have hlength : Interruptible st r 6 (lengthDecision reach s) := by
      unfold lengthDecision
      split
      · split
        · rw [hf]
          refine unaware_void_interruptible hr h fun u hu => ?_
          unfold winchOn
          split
          · exact hu
          · exact hu.of_eq rfl rfl rfl
        · exact h
      · exact h
    unfold workAt stallReference
    dsimp only
    split
    · split
      · exact hlength
      · exact hlength.of_eq rfl rfl rfl
    · exact hlength
  · have hsnag : s.snagged = false := by
      unfold State.snagged
      split
      · simp [hf]
      · rfl
    simpa [workAt, snagDecision, snagAsked, hsnag] using h

/-! ## Work that a fault has stopped decides nothing (R50) -/

theorem workAt_halted {st : Stage} {f : TakenFault} (hst : st ≠ .none) (c : ChannelName) {s : State}
    (h : Halted st f s) : Halted st f (workAt c s) := by
  have hr := h.run
  cases c
  · unfold workAt loadWork
    dsimp only
    split
    · exact absurd (h.stage ▸ ‹_›) hst
    · exact h
    · exact h
    · split
      · simpa [lockApproach, State.stressing, hr] using h
      · simpa [State.stressing, hr] using h
      · simpa [loadMaintenance, hr] using h
      · rw [unloadStop_other (by simp [hr]), lowering_other (by simp [hr])]
        exact h
      · simpa [settleEnd, State.stressing, hr] using h
      all_goals exact h
  · exact h
  · have hreopen : reopenDecision reach s = s := by
      unfold reopenDecision; split <;> simp [State.grouting, hr]
    have hthrottle : throttleDecision reach s = s := by
      unfold throttleDecision; split <;> simp [State.grouting, hr]
    simpa [workAt, hreopen, hthrottle] using h
  · have hvolume : volumeDecision reach s = s := by
      unfold volumeDecision; split <;> simp [hr]
    simpa [workAt, hvolume] using h
  · have hlength : lengthDecision reach s = s := by
      unfold lengthDecision; split <;> simp [State.winching, hr]
    unfold workAt stallReference
    simp only [hlength]
    split
    · split
      · exact h
      · exact h.of_eq rfl rfl rfl
    · exact h
  · have hsnag : s.snagged = false := by
      unfold State.snagged
      split <;> simp [State.winching, hr]
    simpa [workAt, snagDecision, snagAsked, hsnag] using h

theorem contactEvent_halted {st : Stage} {f : TakenFault} (x : ContactRead) {s : State}
    (h : Halted st f s) : Halted st f (contactEvent x s) := by
  have hread : Halted st f (eventRead (some x) s) :=
    h.of_eq (breakStep_seq _) (congrArg FaultUnit.taken (breakStep_faults _))
      (congrArg GroutControl.claim (breakStep_grout _))
  rw [contactEvent_eq, contactWork_other (by simp [hread.run]), lowering_other (by simp [hread.run])]
  exact hread

theorem eventWork_halted {st : Stage} {f : TakenFault} (hst : st ≠ .none) (c : ChannelName)
    (r : Option ContactRead) {s : State} (h : Halted st f s) : Halted st f (eventWork c r s) := by
  cases r with
  | none => exact workAt_halted hst c h
  | some x => exact workAt_halted hst c (contactEvent_halted x h)

end Sys2Proof.Machine
end

section
/-!
PROOF. A lost channel stops the work.
-/
namespace Sys2Proof.Machine

/-! ## A lost channel (R12) -/

/-- A channel is needed in the run states in which work goes on, and with a stage active (R12). -/
theorem State.needed_working {s : State} {c : ChannelName} (h : s.needed c = true) :
    Working s.seq.runState ∧ s.seq.stage ≠ .none := by
  simp only [State.needed, Bool.and_eq_true, Bool.or_eq_true, beq_iff_eq] at h
  refine ⟨by simpa [Working, or_assoc] using h.1, fun e => ?_⟩
  simp [e] at h

/-- With a stage active the drift watch is out of force (R13). -/
theorem driftLossWatch_staged {s : State} (h : s.seq.stage ≠ .none) :
    driftLossWatch s = { s with chans := { s.chans with driftLostBefore := false } } := by
  have hd : s.driftWatched = false := by simp [State.driftWatched, h]
  simp [driftLossWatch, hd]

/-- The station stands FAULTED in stage `st` with CHANNEL_LOST of channel `c` taken and seen. -/
def LossTaken (st : Stage) (c : ChannelName) (s : State) : Prop :=
  FaultKind.channelLost ∈ s.faults.seen ∧
  ∃ f, Halted st f s ∧ f.kind = .channelLost ∧ f.detail = .channel c

theorem LossTaken.of_eq {st : Stage} {c : ChannelName} {s t : State} (h : LossTaken st c s)
    (hq : t.seq = s.seq) (hf : t.faults = s.faults) (hg : t.grout.claim = s.grout.claim) :
    LossTaken st c t := by
  obtain ⟨hs, f, hh, hk⟩ := h
  exact ⟨hf ▸ hs, f, hh.of_eq hq (congrArg FaultUnit.taken hf) hg, hk⟩

/-- A channel that has stood lost for the first time has its loss taken (R12, R166). -/
theorem watchAt_lost {st : Stage} {r : RunState} (hr : Working r) (hst : st ≠ .none) {c : ChannelName}
    {s : State} (h : Interruptible st r 6 s) (hb : (s.chan c).lostBefore = false) :
    LossTaken st c (watchAt c none true s) := by
  have hd : LossTaken st c (detect .channelLost (.channel c) s) := by
    obtain ⟨f, hf⟩ := detect_halts (k := .channelLost) (.channel c) hr hst (h.mono (by decide)) rfl (by decide)
    exact ⟨detect_seen _ (h.stage ▸ hst) rfl (by decide), f, hf⟩
  have hstage : (detect .channelLost (.channel c) s).seq.stage ≠ .none := by
    rw [detect_stage]; exact h.stage ▸ hst
  have hloss : lossWatch c true (detectKind none s) = detect .channelLost (.channel c) s := by
    simp [lossWatch, detectKind, hb]
  rw [watchAt_eq, hloss]
  split
  · rw [driftLossWatch_staged hstage]
    exact hd.of_eq rfl rfl rfl
  · exact hd

theorem eventWork_lossTaken {st : Stage} (hst : st ≠ .none) {c d : ChannelName} (r : Option ContactRead)
    {s : State} (h : LossTaken st c s) : LossTaken st c (eventWork d r s) := by
  obtain ⟨hs, f, hf, hk⟩ := h
  refine ⟨?_, f, eventWork_halted hst d r hf, hk⟩
  cases r with
  | none => exact (workAt_work d s).seen _ hs
  | some x =>
    have hread : FaultKind.channelLost ∈ (eventRead (some x) s).faults.seen := by
      rw [show (eventRead (some x) s).faults = s.faults from breakStep_faults _]; exact hs
    exact (((contactWork_work reach_work _).trans (lowering_work _)).trans (workAt_work d _)).seen _ hread

/-- The stage's side of a sample event leaves the mark of a loss (R12). -/
theorem eventWork_lostBefore (d : ChannelName) (r : Option ContactRead) (s : State) (c : ChannelName) :
    ((eventWork d r s).chan c).lostBefore = (s.chan c).lostBefore := by
  cases r with
  | none => exact (workAt_work d s).lostBefore c
  | some x =>
    have hread : ((eventRead (some x) s).chan c).lostBefore = (s.chan c).lostBefore :=
      (congrArg (fun u => (u.chan c).lostBefore) (breakStep_withoutBreak (readContacts x s)) :)
    exact ((((contactWork_work reach_work _).trans (lowering_work _)).trans
      (workAt_work d _)).lostBefore c).trans hread

/-- Where the stage's side leaves the work interruptible, the loss is what stands taken after the sample event, whichever
acts first, and the channel bears no mark of it (R12, R168, R170). -/
theorem sampleWork_lost {st : Stage} {q : RunState} (hq : Working q) (hst : st ≠ .none) {i : SampleInput}
    {r : Option ContactRead} {s : State} (h : Interruptible st q 6 (takeSample i s))
    (hn : (takeSample i s).filtered (inputChannel i) = none)
    (hl : (takeSample i s).standsLost (inputChannel i) = true)
    (hb : ((takeSample i s).chan (inputChannel i)).lostBefore = false)
    (hw : Interruptible st q 6 (eventWork (inputChannel i) r (takeSample i s))) :
    LossTaken st (inputChannel i) (sampleWork i r s) ∧
    ((sampleWork i r s).chan (inputChannel i)).lostBefore = false := by
  have hkinds : LossTaken st (inputChannel i)
      (besideKinds (watchAt (inputChannel i) none true) (eventWork (inputChannel i) r) (takeSample i s)) :=
    besideKinds_elim (fun _ => watchAt_lost hq hst hw (by rw [eventWork_lostBefore, hb]))
      (eventWork_lossTaken hst r (watchAt_lost hq hst h hb)) fun _ _ k => k.of_eq rfl rfl rfl
  have hwork : sampleWork i r s = markLost (inputChannel i) true
      (besideKinds (watchAt (inputChannel i) none true) (eventWork (inputChannel i) r)
        (takeSample i s)) := by
    simp only [sampleWork, State.watchKind_void hn, hl]
  rw [hwork]
  refine ⟨hkinds.of_eq rfl rfl rfl, ?_⟩
  obtain ⟨-, f, hf, -⟩ := hkinds
  rw [markLost, State.chan_updateChan_same]
  simp [State.needed, hf.run]

theorem LossTaken.finish_above {st : Stage} {c : ChannelName} {s t : State} (h : LossTaken st c t) :
    FaultKind.channelLost ∈ (finish s t).faults.seen ∧ HaltedAbove st 5 (finish s t) := by
  obtain ⟨hs, f, hf, hk, -⟩ := h
  exact ⟨finish_seen hs, HaltedAbove.finish ⟨f, hf, by rw [hk]; decide⟩⟩

/-- With no overload and no stroke the loss stands taken when the event closes (R170). -/
theorem LossTaken.finish {st : Stage} {c : ChannelName} {s t : State} (h : LossTaken st c t)
    (hq : t.watchQuiet = true) : LossTaken st c (finish s t) := by
  obtain ⟨hs, f, hf, hk⟩ := h
  exact ⟨finish_seen hs, f, hf.finish (.inl hq), hk⟩

/-- A VOID sample brings neither an overload nor a stroke (R21, R137, R138). -/
theorem takeSample_watchQuiet {i : SampleInput} {s : State}
    (hn : (takeSample i s).filtered (inputChannel i) = none) (hq : s.watchQuiet = true) :
    (takeSample i s).watchQuiet = true := by
  have hf : ∀ c, (takeSample i s).filtered c = none ∨ (takeSample i s).filtered c = s.filtered c := fun c => by
    by_cases e : c = inputChannel i
    · exact .inl (e ▸ hn)
    · exact .inr (congrArg Channel.value (takeSample_chan_other e s))
  have hcfg : (takeSample i s).seq.config = s.seq.config := rfl
  unfold State.watchQuiet at hq ⊢
  rw [hcfg]
  cases hc : s.seq.config with
  | none => rfl
  | some g =>
    simp only [hc, Bool.and_eq_true, Bool.not_eq_true'] at hq ⊢
    refine ⟨?_, ?_⟩
    · rcases hf .load with e | e <;> rw [e]
      · simp
      · exact hq.1
    · rcases hf .ext with e | e <;> rw [e]
      · simp
      · exact hq.2

/-- Settles O17: the VOID value leaves the work interruptible, and the loss is of higher priority than what it can take. -/
theorem lostChannelStopsTheWork : Obligations.LostChannelStopsTheWork := by
  intro i r s hsample hneed hvoid hlen hbefore hlow
  obtain ⟨hw, hst⟩ := State.needed_working hneed
  have hn := (takeSample_void hsample hlen).2
  have hrun := takeSample_voidRun hsample hlen hvoid
  have hl : (takeSample i s).standsLost (inputChannel i) = true := by
    have hneed' : (takeSample i s).needed (inputChannel i) = true := hneed
    simp [State.standsLost, hrun, hneed']
  have hb : ((takeSample i s).chan (inputChannel i)).lostBefore = false := by
    rw [takeSample_chan]; exact hbefore
  have hi : Interruptible s.seq.stage s.seq.runState 6 (takeSample i s) := ⟨rfl, .inl rfl⟩
  have hdue : lossDue i s = true := by simp [lossDue, hl, hb]
  obtain ⟨hloss, hmark⟩ := sampleWork_lost (r := none) hw hst hi hn hl hb (workAt_void hw hst hn hi hlow)
  have hfield : SameField (takeSample i s) (finish s (sampleWork i none s)) :=
    (sampleWork_readBy i none s).field.trans (finish_sameField _ _)
  have hexec : exec (.channelLost i) s = .next (finish s (sampleWork i none s)) := by
    refine congrArg Host.Outcome.next ?_
    simp [occasion, hdue]
  obtain ⟨hseen, f, hf, hp⟩ := hloss.finish_above (s := s)
  refine ⟨_, hexec, hfield.voidRun _ |>.trans hrun, ?_, ?_, hseen, hf.run, finish_halted_drives hf, hf.stage,
    ?_, fun hq => ?_, fun hstand ha hq => ?_⟩
  · exact (hfield.window _).trans (takeSample_void hsample hlen).1
  · rw [finish_lostBefore, hmark]
  · simp [hf.taken, hp]
  · obtain ⟨-, g, hg, hk, hd⟩ := hloss.finish (s := s)
      ((sampleWork_readBy i none s).field.watchQuiet.trans (takeSample_watchQuiet hn hq))
    simp [hg.taken, hk, hd]
  · have hq' := takeSample_watchQuiet hn hq
    have hside : Interruptible s.seq.stage s.seq.runState 6
        (eventWork (inputChannel i) r (takeSample i s)) := by
      cases r with
      | none => exact workAt_void hw hst hn hi hlow
      | some x =>
        have hc := contactEvent_interruptible (s := takeSample i s) x hstand hq' rfl rfl ha
        exact workAt_void hw hst (((contactEvent_readBy x _).field.filtered _).trans hn) hc
          fun e => absurd e (hc.ne_aborting ha)
    obtain ⟨hu, g, hg, hk, hd⟩ := (sampleWork_lost hw hst hi hn hl hb hside).1.finish (s := s)
      ((sampleWork_readBy i r s).field.watchQuiet.trans hq')
    exact ⟨_, rfl, hu, hg.run, hg.stage, finish_halted_drives hg, by simp [hg.taken, hk, hd]⟩

end Sys2Proof.Machine
end

section
/-!
PROOF. The contact reads at which a debounced state changes.
-/
namespace Sys2Proof.Machine

/-! ## The break drive and the slot at the close of an event (R62, R68) -/

theorem finish_break (s t : State) : (finish s t).line.breakDrive = t.line.breakDrive ∧
    (finish s t).line.breakBits = t.line.breakBits := by
  have hl : (finish s t).line = (prompt s (settle s t)).line := (enforceDrives_work _).line
  have hs : (settle s t).line = t.line := (settle_work s t).line
  obtain ⟨hd, hb⟩ := prompt_break s (settle s t)
  rw [hl, hd, hb, hs]
  exact ⟨rfl, rfl⟩

/-- A notice request leaves a notice that waits waiting (R62). -/
theorem requestNotice_waiting {s : State} (h : s.line.slot.map Slot.status = some .waiting) :
    (requestNotice s).line.slot.map Slot.status = some .waiting := by
  obtain ⟨n, hn, hs⟩ := Option.map_eq_some_iff.mp h
  unfold requestNotice
  split
  · exact h
  · simp [hn, hs, placeNotice]

theorem finish_waiting (s : State) {t : State} (h : t.line.slot.map Slot.status = some .waiting) :
    (finish s t).line.slot.map Slot.status = some .waiting := by
  have hl : (finish s t).line = (prompt s (settle s t)).line := (enforceDrives_work _).line
  have hs : (settle s t).line = t.line := (settle_work s t).line
  rw [hl]
  obtain e | e := prompt_cases s (settle s t)
  · rw [e, hs, h]
  · rw [e]
    exact requestNotice_waiting (by rw [hs, h])

/-! ## The end of an abort's lowering (R49, R143) -/

/-- From `s` to `t` only the seen set has gained kinds, and an order left open may have been asked for. -/
def OnlySeen (s t : State) : Prop :=
  t = { s with faults := { s.faults with seen := t.faults.seen }, freeCount := t.freeCount }

theorem OnlySeen.trans {s t u : State} (h : OnlySeen s t) (k : OnlySeen t u) : OnlySeen s u := by
  unfold OnlySeen at *
  rw [k, h]

theorem detectIf_onlySeen (asked : Bool) {k : FaultKind} {s : State} (h : s.seq.stage = .none)
    (hw : k ≠ .wallStop) (hv : k ≠ .voidTest) : OnlySeen s (detectIf asked k .none s) := by
  refine detectIf_elim (fun _ => rfl) fun _ => ?_
  rw [detect_stageless _ h hw hv]
  split <;> rfl

/-- With no stage active an overload or a stroke is seen and no more (R164). -/
theorem watchAsked_onlySeen (u : State) {s : State} (h : s.seq.stage = .none) :
    OnlySeen s (watchAsked u s) := by
  have hload : ∀ {t}, t.seq.stage = .none → OnlySeen t (detectIf u.overloaded .loadLimit .none t) :=
    fun ht => detectIf_onlySeen _ ht (by decide) (by decide)
  have hstroke : ∀ {t}, t.seq.stage = .none → OnlySeen t (detectIf u.strokeEnded .strokeEnd .none t) :=
    fun ht => detectIf_onlySeen _ ht (by decide) (by decide)
  have hstage : ∀ {t}, OnlySeen s t → t.seq.stage = .none := fun ht => by rw [ht]; exact h
  exact eitherOrder_elim ((hload h).trans (hstroke (hstage (hload h))))
    ((hstroke h).trans (hload (hstage (hstroke h)))) fun t n ht => ht.trans (by rfl)

/-- The close of an event that leaves no stage and every drive off: its own effects, kinds seen, and a prompt notice. -/
theorem settle_stageless (s : State) {t : State} (h : t.seq.stage = .none) (hd : t.drives = .off) :
    OnlySeen t (settle s t) ∧ (settle s t).drivesLegal = true := by
  have hlegal := State.drivesLegal_of_off hd
  have hwatch : OnlySeen t (watchDecisions t) := watchAsked_onlySeen t h
  have hlegal' : (watchDecisions t).drivesLegal = true :=
    State.drivesLegal_of_off (by rw [hwatch]; exact hd)
  unfold settle
  simp only [enforceDrives_of_legal hlegal, enforceDrives_of_legal hlegal']
  split
  · exact ⟨hwatch, hlegal'⟩
  · exact ⟨rfl, hlegal⟩

/-- What the end of an abort's lowering leaves (R49, R143). -/
theorem endAbort_fields (s : State) :
    (endAbort s).seq = s.seq.stageLess ∧
    (endAbort s).jack = { s.jack.stageLess with lockedLoad := none } ∧
    (endAbort s).drives = { s.drives with lower := false } ∧
    (endAbort s).eval.summary = { s.eval.summary with jobStatus := .aborted } ∧
    (endAbort s).eval.results = s.eval.results ∧
    (endAbort s).faults = { s.faults with pending := [] } := by
  refine ⟨?_, ?_, ?_, ?_, ?_, ?_⟩ <;> simp [endAbort, updateSummary, Jack.stageLess]

/-! ## Contact events (R15, R16) -/

theorem execContactDebounced_due {x : ContactRead} {s : State} (h : contactChanges x s = true) :
    exec (.contactDebounced x) s = .next (finish s (contactEvent x s)) :=
  congrArg (fun t => Host.Outcome.next (finish s t)) (if_pos h)

/-- What the stage sees of a contact read: the contacts read, and nothing else changed (R15, R16). -/
theorem eventRead_fields (x : ContactRead) (s : State) :
    (eventRead (some x) s).seq = s.seq ∧ (eventRead (some x) s).jack = s.jack ∧
    (eventRead (some x) s).drives = s.drives ∧ (eventRead (some x) s).faults = s.faults ∧
    (eventRead (some x) s).eval = s.eval ∧ (eventRead (some x) s).grout = s.grout ∧
    (eventRead (some x) s).contacts = (readContacts x s).contacts :=
  ⟨breakStep_seq _, breakStep_jack _, breakStep_drives _, breakStep_faults _, breakStep_eval _,
    breakStep_grout _, breakStep_contacts _⟩

/-- SEAT active ends SEATING (R133). -/
theorem contactEvent_seating {x : ContactRead} {s : State} (h : s.stressing .seating = true)
    (hc : (readContacts x s).contacts.seat.active = true) (hp : s.faults.pending = []) :
    LockedOff (if (readContacts x s).contacts.jackHome.active = true then .settle else .release) s
      (contactEvent x s) ∧
    (contactEvent x s).drives =
      { s.drives with seating := false, lower := !(readContacts x s).contacts.jackHome.active } := by
  obtain ⟨hq, hj, hd, hf, he, hg, hcs⟩ := eventRead_fields x s
  rw [contactEvent_eq]
  generalize eventRead (some x) s = u at hq hj hd hf he hg hcs ⊢
  have hu : u.stressing .seating = true := by simpa [State.stressing, hq, hj] using h
  have hpu : ({ u with drives := { u.drives with seating := false } } : State).faults.pending = [] := by
    simpa [hf] using hp
  rw [contactWork_seating hu (by rw [hcs]; exact hc), reach, reachWith_pass hpu]
  obtain ⟨⟨k1, k2, k3, k4, k5⟩, k6⟩ := proceed_seatingEnd 30 hpu
  obtain ⟨-, hrun, -⟩ := State.stressing_iff.mp hu
  rw [lowering_other (by rw [show chainBound = 30 + 2 from rfl, k1]; simp [hrun])]
  rw [← hcs, ← hd]
  exact ⟨⟨k1.trans (by simp [hq]), k2.trans (by simp [hj]), k3.trans hf, k4.trans he, k5.trans hg⟩, k6⟩

/-- JACK_HOME active ends RELEASE, with no overload and no stroke due at the closing of the lower valve (R134). -/
theorem contactEvent_release {x : ContactRead} {s : State} (h : s.stressing .release = true)
    (hc : (readContacts x s).contacts.jackHome.active = true) (hp : s.faults.pending = [])
    (hw : s.watchQuiet = true) :
    LockedOff .settle s (contactEvent x s) ∧
    (contactEvent x s).drives = { s.drives with lower := false } := by
  obtain ⟨hq, hj, hd, hf, he, hg, hcs⟩ := eventRead_fields x s
  have hwu := (eventRead_readBy (some x) s).field.watchQuiet.trans hw
  rw [contactEvent_eq]
  generalize eventRead (some x) s = u at hq hj hd hf he hg hcs hwu ⊢
  have hu : u.stressing .release = true := by simpa [State.stressing, hq, hj] using h
  have hpu : ({ u with drives := { u.drives with lower := false } } : State).faults.pending = [] := by
    simpa [hf] using hp
  have hu' : ({ u with drives := { u.drives with lower := false } } : State).stressing .release = true := hu
  rw [contactWork_release hu (by rw [hcs]; exact hc), shutLower_quiet hwu, releaseWork, if_pos hu', reach,
    reachWith_pass hpu]
  obtain ⟨⟨k1, k2, k3, k4, k5⟩, k6⟩ :=
    proceed_releaseEnd 31 { u with drives := { u.drives with lower := false } }
  obtain ⟨-, hrun, -⟩ := State.stressing_iff.mp hu
  rw [lowering_other (by rw [show chainBound = 31 + 1 from rfl, k1]; simp [hrun])]
  rw [← hd]
  exact ⟨⟨k1.trans (by simp [hq]), k2.trans (by simp [hj]), k3.trans hf, k4.trans he, k5.trans hg⟩, k6⟩

/-- An overload or a stroke due at the closing of the lower valve is taken, whatever boundary the closing brings (R134,
R137, R138). -/
theorem contactEvent_release_due {x : ContactRead} {s : State} (h : s.stressing .release = true)
    (hc : (readContacts x s).contacts.jackHome.active = true) (hst : s.standing = true)
    (hl : s.drives.lower = true) (hcfg : s.seq.config.isSome = true) (hw : s.watchQuiet = false) :
    ∃ f, Halted .stress f (contactEvent x s) ∧
      f.kind = State.watchTaken { s with drives := .off } := by
  obtain ⟨hq, hj, hd, hf, -, -, hcs⟩ := eventRead_fields x s
  have hfield := (eventRead_readBy (some x) s).field
  rw [contactEvent_eq]
  generalize eventRead (some x) s = u at hq hj hd hf hcs hfield ⊢
  have hu : u.stressing .release = true := by simpa [State.stressing, hq, hj] using h
  obtain ⟨hstage, hrun, -⟩ := State.stressing_iff.mp hu
  obtain ⟨v, hv⟩ : ∃ v : State, v = { u with drives := { u.drives with lower := false } } := ⟨_, rfl⟩
  have hvs : v.seq.stage = .stress := by rw [hv]; exact hstage
  have hvr : v.seq.runState = .running := by rw [hv]; exact hrun
  have hvp : v.pendingSound = true := by
    have := State.pendingSound_of_standing hst
    rw [hv]; simpa [State.pendingSound, hf] using this
  have hsv : SameField { s with drives := .off } v :=
    SameField.trans (t := s) ⟨fun _ => rfl, rfl, rfl, rfl, rfl, rfl, rfl, rfl, rfl⟩
      (hfield.trans (by rw [hv]; exact ⟨fun _ => rfl, rfl, rfl, rfl, rfl, rfl, rfl, rfl, rfl⟩))
  have htaken : v.watchTaken = State.watchTaken { s with drives := .off } :=
    hsv.watchTaken (by rw [hv]; rfl)
  have hdue : v.overloaded = true ∨ v.strokeEnded = true :=
    State.due_of_not_quiet (by rw [hsv.config]; exact hcfg) (by rw [hv]) (hsv.watchQuiet.trans hw)
  have hlu : u.drives.lower = true := by rw [hd]; exact hl
  have hshut : shutLower releaseWork u = besideKinds (watchAsked v) releaseWork v := by
    simp [shutLower, hlu, hv]
  have hres : ∃ f, Halted .stress f (besideKinds (watchAsked v) releaseWork v) ∧ f.kind = v.watchTaken := by
    refine besideKinds_elim (p := fun t => ∃ f, Halted .stress f t ∧ f.kind = v.watchTaken) (fun _ => ?_) ?_
      fun _ _ ⟨f, hf, e⟩ => ⟨f, hf.of_eq rfl rfl rfl, e⟩
    · exact watchAsked_halts (.inl rfl) (by decide)
        ((releaseWork_interruptible hvp hvs hvr).mono (by decide)) hdue
    · obtain ⟨f, hf, e⟩ := watchAsked_halts (u := v) (s := v) (.inl rfl) (by decide) ⟨hvs, .inl hvr⟩ hdue
      refine ⟨f, ?_, e⟩
      have hstop : (watchAsked v v).stressing .release = false := by simp [State.stressing, hf.run]
      simpa [releaseWork, hstop] using hf
  rw [contactWork_release hu (by rw [hcs]; exact hc), hshut]
  obtain ⟨f, hf, e⟩ := hres
  rw [lowering_other (by simp [hf.run])]
  exact ⟨f, hf, e.trans htaken⟩

/-- JACK_HOME active ends an abort's lowering (R49). -/
theorem contactEvent_aborting {x : ContactRead} {s : State} (hs : s.seq.stage = .stress)
    (hr : s.seq.runState = .aborting) (hc : (readContacts x s).contacts.jackHome.active = true) :
    contactEvent x s = endAbort (eventRead (some x) s) := by
  obtain ⟨hq, -, -, -, -, -, hcs⟩ := eventRead_fields x s
  rw [contactEvent_eq, contactWork_other (by simp [hq, hr])]
  simp [lowering, hq, hs, hr, hcs, hc]

/-- An event that settles as it stands, seen through its close. -/
theorem finish_fields {s t : State} (hs : settle s t = t) (hl : t.drivesLegal = true) :
    (finish s t).seq = t.seq ∧ (finish s t).jack = t.jack ∧ (finish s t).drives = t.drives ∧
    (finish s t).faults = t.faults ∧ (finish s t).eval = t.eval := by
  rw [finish_of_settled hs hl]
  exact ⟨prompt_seq _ _, prompt_jack _ _, prompt_drives _ _, prompt_faults _ _, prompt_eval _ _⟩

/-- A row of R53 in which only the lower valve may be open. -/
theorem State.drivesLegal_of_lower {s : State} {l : Bool} (hd : s.drives = { Drives.off with lower := l })
    (hl : l = true → s.lowerAllowed = true) : s.drivesLegal = true := by
  cases l
  · exact State.drivesLegal_of_off hd
  · simp [State.drivesLegal, hd, Drives.off, hl]

/-- An event that leaves the run state, where the lower valve stood shut, settles as it stands. -/
theorem settle_shut {s t : State} (h : t.drivesLegal = true) (hr : t.seq.runState = s.seq.runState)
    (hl : s.drives.lower = false) : settle s t = t := by
  simp [settle, enforceDrives_of_legal h, hr, hl]

/-! ## The close of a contact event -/

section
variable {x : ContactRead} {s t : State} (ht : finish s (contactEvent x s) = t)
include ht

/-- The read that ends SEATING (R133). -/
theorem finish_seating (hlegal : s.drivesLegal = true) (h : s.stressing .seating = true)
    (hc : (readContacts x s).contacts.seat.active = true) (hp : s.faults.pending = []) :
    t.seq = { s.seq with held := none } ∧
    t.jack =
      { s.jack with
        phase := if (readContacts x s).contacts.jackHome.active = true then .settle else .release
        lockOffTimer := 0 } ∧
    t.drives = { Drives.off with lower := !(readContacts x s).contacts.jackHome.active } ∧
    t.faults = s.faults ∧ t.eval = s.eval := by
  obtain ⟨⟨k1, k2, k3, k4, -⟩, k6⟩ := contactEvent_seating h hc hp
  have hd := State.drives_of_seating hlegal h
  have hlow : s.drives.lower = false := by rw [hd]; rfl
  have hd' : (contactEvent x s).drives =
      { Drives.off with lower := !(readContacts x s).contacts.jackHome.active } := by
    rw [k6, hd]; rfl
  obtain ⟨hstage, hrun, -⟩ := State.stressing_iff.mp h
  have hleg : (contactEvent x s).drivesLegal = true := by
    refine State.drivesLegal_of_lower hd' fun hj => ?_
    rw [Bool.not_eq_true'] at hj
    simp [State.lowerAllowed, k1, k2, hj, hstage, hrun]
  obtain ⟨f1, f2, f3, f4, f5⟩ := finish_fields (settle_shut hleg (by rw [k1]) hlow) hleg
  rw [ht] at f1 f2 f3 f4 f5
  exact ⟨f1.trans k1, f2.trans k2, f3.trans hd', f4.trans k3, f5.trans k4⟩

/-- The read that ends RELEASE, with no overload and no stroke due (R134). -/
theorem finish_release (hlegal : s.drivesLegal = true) (h : s.stressing .release = true)
    (hc : (readContacts x s).contacts.jackHome.active = true) (hp : s.faults.pending = [])
    (hw : s.watchQuiet = true) :
    t.seq = { s.seq with held := none } ∧ t.jack = { s.jack with phase := .settle, lockOffTimer := 0 } ∧
    t.drives = .off ∧ t.faults = s.faults ∧ t.eval = s.eval := by
  obtain ⟨⟨k1, k2, k3, k4, -⟩, k6⟩ := contactEvent_release h hc hp hw
  have hd : (contactEvent x s).drives = .off := by
    rw [k6, State.drives_of_release hlegal h]; rfl
  have hleg := State.drivesLegal_of_off hd
  obtain ⟨f1, f2, f3, f4, f5⟩ := finish_fields (s := s)
    (settle_quiet hleg ((contactEvent_readBy x s).field.watchQuiet.trans hw)) hleg
  rw [ht] at f1 f2 f3 f4 f5
  exact ⟨f1.trans k1, f2.trans k2, f3.trans hd, f4.trans k3, f5.trans k4⟩

/-- The read that ends RELEASE with an overload or a stroke due (R134, R137, R138). -/
theorem finish_release_due (h : s.stressing .release = true)
    (hc : (readContacts x s).contacts.jackHome.active = true) (hst : s.standing = true)
    (hl : s.drives.lower = true) (hcfg : s.seq.config.isSome = true) (hw : s.watchQuiet = false) :
    t.seq.runState = .faulted ∧ t.seq.stage = .stress ∧ t.drives = .off ∧
    t.faults.taken.map TakenFault.kind = some (State.watchTaken { s with drives := .off }) := by
  obtain ⟨f, hf, e⟩ := contactEvent_release_due h hc hst hl hcfg hw
  have hfield : SameField { s with drives := .off } { contactEvent x s with drives := .off } := by
    obtain ⟨h1, h2, h3, h4, h5, h6, h7, h8, h9⟩ := (contactEvent_readBy x s).field
    exact ⟨h1, h2, h3, h4, h5, h6, h7, h8, h9⟩
  have hfin : Halted .stress f (finish s (contactEvent x s)) :=
    hf.finish (.inr (by rw [e, hfield.watchTaken rfl]))
  have hoff := finish_halted_drives hfin
  rw [ht] at hfin hoff
  exact ⟨hfin.run, hfin.stage, hoff, by simp [hfin.taken, e]⟩

/-- The read that ends an abort's lowering (R49, R143). -/
theorem finish_aborting (hlegal : s.drivesLegal = true) (hs : s.seq.stage = .stress)
    (hr : s.seq.runState = .aborting) (hc : (readContacts x s).contacts.jackHome.active = true) :
    t.seq = s.seq.stageLess ∧ t.jack = { s.jack.stageLess with lockedLoad := none } ∧ t.drives = .off ∧
    t.eval.summary = { s.eval.summary with jobStatus := .aborted } ∧ t.eval.results = s.eval.results ∧
    t.faults.pending = [] ∧ t.faults.taken = s.faults.taken := by
  obtain ⟨hq, hj, hd, hf, he, -, -⟩ := eventRead_fields x s
  obtain ⟨a1, a2, a3, a4, a5, a6⟩ := endAbort_fields (eventRead (some x) s)
  have hoff : (endAbort (eventRead (some x) s)).drives = .off := by
    rw [a3, hd, State.drives_of_aborting hlegal hr]; rfl
  obtain ⟨hseen, hleg⟩ := settle_stageless s (t := endAbort (eventRead (some x) s)) (by rw [a1]; rfl) hoff
  rw [← ht, contactEvent_aborting hs hr hc]
  unfold finish secure
  rw [enforceDrives_of_legal (by rw [prompt_legal, hleg])]
  simp only [prompt_seq, prompt_drives, prompt_eval, prompt_jack, prompt_faults]
  rw [hseen]
  simp only [a1, a2, hoff, a4, a5, a6, hq, hj, he, hf]
  and_intros <;> trivial

end

/-- An active read of ESTOP starts the break drive and abandons an attempt in progress (R16, R68). -/
theorem finish_estopOpen (i : SampleInput) {x : ContactRead} {s t : State} (k : Nat)
    (ht : finish s (sampleWork i (some x) s) = t) (ho : x.estopOpen = true) :
    t.line.breakDrive = true ∧
    t.line.breakBits = (if s.line.breakDrive = true then s.line.breakBits else 0) ∧
    (s.line.breakDrive = false → s.line.slot.map Slot.status = some (.sending k) →
      t.line.slot.map Slot.status = some .waiting) := by
  have hview : (sampleWork i (some x) s).line.breakView = viewAfter true s.line.breakView := by
    have hon : s.contacts.estop.readEstop x.estopOpen = { active := true, count := 0 } := by
      simp [Contact.readEstop, ho]
    have htaken : (takeSample i s).contacts.estop = s.contacts.estop := rfl
    have hline : (takeSample i s).line = s.line := rfl
    rw [(sampleWork_readBy i (some x) s).view, viewRead, contactsAfter, htaken, hon, hline]
  obtain ⟨hd, hb⟩ := finish_break s (sampleWork i (some x) s)
  rw [ht] at hd hb
  refine ⟨?_, ?_, fun hbd hslot => ?_⟩
  · rw [hd, show (sampleWork i (some x) s).line.breakDrive = _ from congrArg Prod.fst hview]
    cases hbd : s.line.breakDrive <;> simp [viewAfter, Line.breakView, hbd]
  · rw [hb, show (sampleWork i (some x) s).line.breakBits = _ from congrArg (fun v => v.2.1) hview]
    cases hbd : s.line.breakDrive <;> simp [viewAfter, Line.breakView, hbd]
  · rw [← ht]
    refine finish_waiting s ?_
    rw [show (sampleWork i (some x) s).line.slot.map Slot.status = _ from congrArg (fun v => v.2.2) hview]
    simp [viewAfter, Line.breakView, hbd, hslot, SlotStatus.abandoned]

/-- The read that releases ESTOP ends the break drive once its least bit times are given (R16, R68). -/
theorem finish_estopReleased {x : ContactRead} {s : State}
    (hoff : s.contacts.estop.readEstop x.estopOpen = { active := false, count := 0 }) :
    (finish s (contactEvent x s)).line.breakDrive =
      (s.line.breakDrive && decide (s.line.breakBits < Config.breakDriveMin)) := by
  have hview : (contactEvent x s).line.breakView = viewAfter false s.line.breakView := by
    rw [(contactEvent_readBy x s).view, viewRead, contactsAfter, hoff]
  rw [(finish_break _ _).1, show (contactEvent x s).line.breakDrive = _ from congrArg Prod.fst hview]
  rfl

/-- Settles O15: the ends of SEATING, RELEASE and a lowering, the break drive, and for the rest `ReadBy`. -/
theorem contactReadsCompleteTheirChange : Obligations.ContactReadsCompleteTheirChange := by
  intro i x k s
  have hevent := contactEvent_readBy x s
  have hfield := hevent.field.trans (finish_sameField s _)
  refine ⟨fun hch hlegal => ⟨fun hseat hc hp => ?_, fun hrel hc => ⟨fun hp hw => ?_, fun hst hl hcfg hw => ?_⟩,
    fun hs hr hc => ?_⟩, fun ho => ?_, fun hch => ?_, fun ha hcount ho => ?_⟩
  · exact ⟨_, execContactDebounced_due hch, finish_seating rfl hlegal hseat hc hp⟩
  · exact ⟨_, execContactDebounced_due hch, finish_release rfl hlegal hrel hc hp hw⟩
  · exact ⟨_, execContactDebounced_due hch, finish_release_due rfl hrel hc hst hl hcfg hw⟩
  · refine ⟨_, execContactDebounced_due hch, ?_⟩
    generalize ht : finish s (contactEvent x s) = t
    obtain ⟨hq, hj, hd, hsum, hres, hpend, htaken⟩ := finish_aborting ht hlegal hs hr hc
    rw [hq, hj]
    exact ⟨rfl, rfl, rfl, rfl, rfl, rfl, hd, hsum, hres, ⟨rfl, rfl, rfl, rfl, rfl⟩, hpend, htaken⟩
  · have hread := sampleWork_readBy i (some x) s
    have hfield := hread.field.trans (finish_sameField s _)
    obtain ⟨hd, hb, hslot⟩ := finish_estopOpen i k (t := finish s (sampleWork i (some x) s)) rfl ho
    refine ⟨_, rfl, ?_, hd, hb, hslot, hfield.entries, hfield.port⟩
    rw [finish_contacts, hread.contacts]
    simp [contactsAfter, Contact.readEstop, ho]
  · exact ⟨_, execContactDebounced_due hch, (finish_contacts _ _).trans hevent.contacts, hfield.gvCount,
      hfield.entries, hfield.port⟩
  · have hoff : s.contacts.estop.readEstop x.estopOpen = { active := false, count := 0 } := by
      simp [Contact.readEstop, ho, ha, hcount]
    have hdue : (s.contacts.estop.active && !(readContacts x s).contacts.estop.active) = true := by
      simp [readContacts, hoff, ha]
    have hexec : exec (.estopReleased x) s = .next (finish s (contactEvent x s)) :=
      congrArg (fun t => Host.Outcome.next (finish s t)) (if_pos hdue)
    refine ⟨_, hexec, ?_, finish_estopReleased hoff, hfield.entries, hfield.port⟩
    rw [finish_contacts, hevent.contacts, contactsAfter, hoff]

end Sys2Proof.Machine
end

section
/-!
PROOF. An accepted START_GROUT: its checks, the stage as it opens, and its first phase with nothing due.
-/
namespace Sys2Proof.Machine

/-! ## Accepted stage requests (R34) -/

/-- No refusal carries the outcome of an acceptance (R187). -/
theorem Reason.code_ne_zero (w : Reason) : w.code ≠ 0 := by cases w <;> decide

/-- The checks of R34 that an accepted stage request has passed. -/
theorem stageOutcome_accepted {g : Stage} {body : List Byte} {s : State}
    (h : (stageOutcome g body s).1 = 0) :
    s.seq.runState = .idle ∧ s.seq.progress ≠ .locked ∧ s.seq.progress = progressBefore g ∧
    s.contacts.estop.active = false ∧ s.line.state ≠ .broken ∧ stageFields g body s = none := by
  unfold stageOutcome at h
  split at h
  · simp at h
  · split at h
    · simp at h
    · split at h
      · simp at h
      · split at h
        · simp at h
        · split at h
          · simp at h
          · split at h
            · simp at h
            · split at h
              · simp at h
              · split at h
                · exact absurd h (Reason.code_ne_zero _)
                · simp_all

theorem groutRefusal_length {b : List Byte} (h : groutRefusal b = none) : b.length = 5 := by
  unfold groutRefusal at h
  split at h
  · simp at h
  · rename_i hb; simpa using hb

/-- An accepted START_GROUT begins the stage and forms its reply (R34, R35). -/
theorem execStartGrout_accepted {body : List Byte} {s : State} (hp : s.portFree = true)
    (h : (stageOutcome .grout body s).1 = 0) :
    exec (.startGrout body) s =
      .next (finish s (setReply codeStartGrout body 0 0 [] (groutStarted body s))) := by
  obtain ⟨hr, hl, hpr, he, hb, hf⟩ := stageOutcome_accepted h
  have hf' : groutRefusal body = none := hf
  have hpr' : s.seq.progress = .winched := hpr
  have hv : groutVerdict body s = .done (groutStarted body s) [] := by
    simp [groutVerdict, groutRefused, stageRefused, stageChecks, firstFailing, needConfigured,
      State.configured, verdict, hr, hpr', he, hb, hf']
  refine congrArg Host.Outcome.next ?_
  rw [hv, request_accepted hp (by rw [groutRefusal_length hf']; decide)]

/-! ## The stage as START_GROUT opens it (R4, R35, R109) -/

/-- The stage with its record formed and the pulse count cleared, before its first phase. -/
def groutOpened (b : List Byte) (s : State) : State :=
  startStage .grout
    { s with
      chans := { s.chans with gvCount := 0, gvOver := false, drainOpen := false }
      grout := { s.grout.stageLess with record := some (groutRecordOf b) } }

theorem groutStarted_eq (b : List Byte) (s : State) : groutStarted b s = groutBegun (groutOpened b s) := rfl

@[simp] theorem logEvent_drainOpen (e : EventCode) (a : Nat) (s : State) :
    (logEvent e a s).chans.drainOpen = s.chans.drainOpen := by
  unfold logEvent; split <;> rfl

/-- From `s` to `t` an accepted START_GROUT has opened the stage: pulse count and overflow mark cleared, the rest of what the
decisions read as it was (R4, R35). -/
structure GroutOpen (s t : State) : Prop where
  seq : t.seq =
    { s.seq with stage := .grout, runState := .running, jobClock := 0, jobHalf := false, held := t.seq.held }
  filtered : ∀ c, t.filtered c = s.filtered c
  counts : t.chans.gvCount = 0 ∧ t.chans.gvOver = false ∧ t.chans.drainOpen = false
  faults : t.faults = s.faults
  contacts : t.contacts = s.contacts
  table : t.table = s.table
  port : t.port = s.port

theorem groutOpened_open (b : List Byte) (s : State) : GroutOpen s (groutOpened b s) := by
  have hf : ∀ u : State, SameField u (logEvent .stageStart Stage.grout.code u) := fun u =>
    (logEvent_work _ _ u).sameField
  refine ⟨?_, fun c => ?_, ⟨(hf _).gvCount, (hf _).gvOver, logEvent_drainOpen _ _ _⟩, ?_, ?_, ?_, ?_⟩
  · simp [groutOpened, startStage]
  · refine ((hf _).filtered c).trans ?_
    cases c <;> rfl
  all_goals simp [groutOpened, startStage]

@[simp] theorem groutOpened_drives (b : List Byte) (s : State) : (groutOpened b s).drives = s.drives := by
  simp [groutOpened, startStage]

@[simp] theorem groutOpened_grout (b : List Byte) (s : State) :
    (groutOpened b s).grout = { s.grout.stageLess with record := some (groutRecordOf b) } := by
  simp [groutOpened, startStage]

theorem GroutOpen.stage {s t : State} (h : GroutOpen s t) : t.seq.stage = .grout :=
  (congrArg Sequencer.stage h.seq :)

theorem GroutOpen.runState {s t : State} (h : GroutOpen s t) : t.seq.runState = .running :=
  (congrArg Sequencer.runState h.seq :)

theorem GroutOpen.progress {s t : State} (h : GroutOpen s t) : t.seq.progress = s.seq.progress :=
  (congrArg Sequencer.progress h.seq :)

theorem GroutOpen.config {s t : State} (h : GroutOpen s t) : t.seq.config = s.seq.config :=
  (congrArg Sequencer.config h.seq :)

theorem GroutOpen.abortMark {s t : State} (h : GroutOpen s t) : t.seq.abortMark = s.seq.abortMark :=
  (congrArg Sequencer.abortMark h.seq :)

theorem GroutOpen.cfg {s t : State} (h : GroutOpen s t) {α : Type} (f : Setup → α) (d : α) :
    t.cfg f d = s.cfg f d := by
  simp only [State.cfg, h.config]

theorem GroutOpen.grouting {s t : State} (h : GroutOpen s t) : t.grouting = true := by
  simp [State.grouting, h.stage, h.runState]

theorem GroutOpen.drawers {s t : State} (h : GroutOpen s t) : t.drawers = s.drawers := by
  have hd : t.isDrawer = s.isDrawer := funext fun e => by simp only [State.isDrawer, h.cfg]
  simp only [State.drawers, hd, h.table]

theorem GroutOpen.watchQuiet {s t : State} (h : GroutOpen s t) : t.watchQuiet = s.watchQuiet := by
  simp only [State.watchQuiet, h.config, h.filtered]

theorem GroutOpen.watchTaken {s t : State} (h : GroutOpen s t) (hl : t.drives.lower = s.drives.lower) :
    t.watchTaken = s.watchTaken := by
  have ho : t.overloaded = s.overloaded := by
    simp only [State.overloaded, h.config, h.filtered, hl]
  simp only [State.watchTaken, ho]

/-- A sound station in IDLE is sound with the grout stage opened at its place in the progress (R34, R35). -/
theorem GroutOpen.standing {s t : State} (h : GroutOpen s t) (hs : s.standing = true)
    (hr : s.seq.runState = .idle) (hp : s.seq.progress = .winched) : t.standing = true := by
  simp only [State.standing, Bool.and_eq_true] at hs ⊢
  obtain ⟨⟨hf, hstage⟩, hpend⟩ := hs
  have htaken : s.faults.taken = none := by
    cases ht : s.faults.taken with
    | none => rfl
    | some f => simp only [State.faultMatches, ht, hr, beq_iff_eq] at hf; split at hf <;> simp at hf
  simp only [State.stageSound, hr, Bool.and_eq_true, beq_iff_eq] at hstage
  obtain ⟨⟨⟨hnone, hcfg⟩, -⟩, hmark⟩ := hstage
  refine ⟨⟨?_, ?_⟩, ?_⟩
  · simp [State.faultMatches, h.faults, htaken, h.runState]
  · have hmark' : s.seq.abortMark = false := by simpa [hnone] using hmark
    simp [State.stageSound, h.runState, h.stage, h.config, h.progress, h.abortMark, hcfg, hp, hmark']
  · simpa [State.pendingSound, h.faults] using hpend

/-! ## The first phase of the stage (R94, R96, R98) -/

theorem startClaim_grout (s : State) :
    (startClaim s).grout =
      { s.grout with
        record := s.grout.record.map fun r => { r with claimsMade := min (r.claimsMade + 1) 255 }
        phase := .draw, claim := some { ticks := 0, throttles := 0 } } := by
  simp [startClaim, updateGroutRecord]

@[simp] theorem startClaim_drives (s : State) : (startClaim s).drives = s.drives := by
  simp [startClaim, updateGroutRecord]

theorem GroutOpen.setGroutPhase {s t : State} (h : GroutOpen s t) (p : GroutPhase) :
    GroutOpen s (setGroutPhase p t) :=
  ⟨h.seq, h.filtered, h.counts, h.faults, h.contacts, h.table, h.port⟩

theorem GroutOpen.startClaim {s t : State} (h : GroutOpen s t) : GroutOpen s (startClaim t) := by
  have hf := (startClaim_work t).sameField
  refine ⟨?_, fun c => (hf.filtered c).trans (h.filtered c),
    ⟨hf.gvCount.trans h.counts.1, hf.gvOver.trans h.counts.2.1, ?_⟩, ?_, ?_, ?_, hf.port.trans h.port⟩
  · rw [startClaim_seq]; exact h.seq
  · simpa [Machine.startClaim, updateGroutRecord] using h.counts.2.2
  · simpa [Machine.startClaim, updateGroutRecord] using h.faults
  · exact (startClaim_work t).contacts.trans h.contacts
  · simpa [Machine.startClaim, updateGroutRecord] using h.table

/-! ## The grout decisions with nothing due (R94, R110, R114) -/

/-- Where the second of two reactions finds nothing to do, the first acts alone. -/
theorem eitherOrder_left {f g : State → State} {s : State} (hs : g s = s) (hf : g (f s) = f s) :
    eitherOrder f g s = f s := by
  rw [eitherOrder_eq (by rw [hf, hs]), hf]

theorem compareNat_some (v t : Nat) :
    compareNat (some v) t 0 = if v < t then .below else if t < v then .above else .within := by
  simp [compareNat, compare]

/-- A volume short of the target is no end of the stage, whatever the phase (R114). -/
theorem volumeDecision_below {s : State} {v target : Nat} (hv : s.filtered .gv = some v)
    (ht : s.grout.record.map GroutRecord.target = some target) (h : v < target) :
    volumeDecision reach s = s := by
  refine volumeDecision_short fun r hr => ?_
  have htr : r.target = target := by simpa [hr] using ht
  simp [hv, htr, compareNat_some, h, Test.holds]

/-- A pressure within its limit opens the grout valve (R110). -/
theorem throttleDecision_clear {s : State} {r : GroutRecord} {p : Nat} (hr : s.grout.record = some r)
    (hg : s.grouting = true) (hd : s.grout.phase = .draw) (hc : s.grout.claim.isSome = true)
    (hp : s.filtered .gp = some p) (hl : p ≤ r.limit) (hv : s.drives.grout = false) :
    throttleDecision reach s = openGrout s := by
  have hcond : compareNat (s.filtered .gp) r.limit 0 ≠ .void ∧
      Test.overTest.holds (compareNat (s.filtered .gp) r.limit 0) = false := by
    rw [hp, compareNat_some]
    split
    · simp [Test.holds]
    · simp [Nat.not_lt.mpr hl, Test.holds]
  unfold throttleDecision
  simp only [hr, hg, hd, hc, beq_self_eq_true, Bool.and_self, if_true]
  rw [unaware_false _ _ s hcond.1 hcond.2]
  simp [hv]

/-- The grout gate on a shared main with nothing pending (R94). -/
theorem groutGate_shared {s : State} (hg : s.grouting = true) (hw : s.grout.phase = .wait)
    (hm : s.cfg Setup.main 0 ≠ 0) (hp : s.faults.pending = []) :
    groutGate reach s =
      if s.drawers < s.cfg Setup.concurrency 0 then
        { s with
          seq := { s.seq with held := none }
          grout := { s.grout with phase := .intent, intentTicks := 0 } }
      else s := by
  unfold groutGate
  simp only [hg, hw, hm, beq_self_eq_true, Bool.and_self, if_true, if_false]
  split
  · rw [reach, reachWith_pass hp]
    rfl
  · rfl

/-- What START_GROUT leaves on a shared main, with nothing due (R94, R98). -/
theorem groutBegun_shared {t : State} {v target : Nat} (hg : t.grouting = true)
    (hq : t.watchQuiet = true) (hp : t.faults.pending = []) (hm : t.cfg Setup.main 0 ≠ 0)
    (hv : t.filtered .gv = some v) (ht : t.grout.record.map GroutRecord.target = some target)
    (h : v < target) :
    groutBegun t =
      if t.drawers < t.cfg Setup.concurrency 0 then
        { t with
          seq := { t.seq with held := none }
          grout := { t.grout with phase := .intent, intentTicks := 0 } }
      else setGroutPhase .wait t := by
  have hgate := groutGate_shared (s := setGroutPhase .wait t) hg rfl hm hp
  have hstay : volumeDecision reach (groutGate reach (setGroutPhase .wait t)) =
      groutGate reach (setGroutPhase .wait t) := by
    rw [hgate]
    split <;> exact volumeDecision_below hv ht h
  unfold groutBegun
  rw [if_neg hm, beginWork_quiet (t := setGroutPhase .wait t) hq,
    eitherOrder_left (volumeDecision_below (s := setGroutPhase .wait t) hv ht h) hstay, hgate]
  rfl

/-- What START_GROUT leaves on main 0, with nothing due: a claim, in DRAW, the valve open (R98, R110). -/
theorem groutBegun_alone {t : State} {r : GroutRecord} {v p : Nat} (hg : t.grouting = true)
    (hq : t.watchQuiet = true) (hm : t.cfg Setup.main 0 = 0)
    (hv : t.filtered .gv = some v) (hr : t.grout.record = some r) (h : v < r.target)
    (hgp : t.filtered .gp = some p) (hl : p ≤ r.limit) (hshut : t.drives.grout = false) :
    groutBegun t = openGrout (startClaim t) := by
  have hf := (startClaim_work t).sameField
  have hgr := startClaim_grout t
  have htarget : ∀ u : State, u.grout = (startClaim t).grout →
      u.grout.record.map GroutRecord.target = some r.target := fun u hu => by
    rw [hu, hgr, hr]; rfl
  have hthrottle : throttleDecision reach (startClaim t) = openGrout (startClaim t) := by
    refine throttleDecision_clear (r := { r with claimsMade := min (r.claimsMade + 1) 255 })
      (by rw [hgr, hr]; rfl) (by simpa [State.grouting] using hg) (by rw [hgr]) (by rw [hgr]; rfl)
      ((hf.filtered _).trans hgp) hl (by simpa using hshut)
  have hv' := (hf.filtered .gv).trans hv
  unfold groutBegun
  rw [if_pos hm, beginWork_quiet (hf.watchQuiet.trans hq),
    eitherOrder_left (volumeDecision_below hv' (htarget _ rfl) h), hthrottle]
  rw [hthrottle]
  exact volumeDecision_below (s := openGrout (startClaim t)) hv' (htarget _ rfl) h

end Sys2Proof.Machine
end

section
/-!
PROOF. START_GROUT beside an overload or a stroke, and its close.
-/
namespace Sys2Proof.Machine

/-! ## The course of a grout stage beside an overload or a stroke (R137, R138, R168) -/

/-- The grout stage goes on, is stopped by a kind of class maskable, or has ended. -/
def GroutCourse (s : State) : Prop := Interruptible .grout .running 6 s ∨ s.seq.stage = .none

/-- The end of a grout stage leaves none (R36). -/
theorem proceed_stageEnd_grout (r : Bool) {s : State} (h : s.seq.stage = .grout) :
    (proceed chainBound (.stageEnd r) s).seq.stage = .none := by
  have hp : proceed chainBound (.stageEnd r) s = endStage r { s with seq := { s.seq with held := none } } := rfl
  rw [hp]
  simp [endStage, h, Sequencer.stageLess]

/-- The volume decision leaves the stage as it was, or with VOID_TEST seen, or has stopped or ended it (R114). -/
theorem volumeDecision_cases {s : State} (hst : s.standing = true) (hs : s.seq.stage = .grout)
    (hr : s.seq.runState = .running) :
    volumeDecision reach s = s ∨ volumeDecision reach s = seeKind .voidTest s ∨
    (∃ f, Halted .grout f (volumeDecision reach s) ∧ 6 < f.kind.priority) ∨
    (volumeDecision reach s).seq.stage = .none := by
  cases hrec : s.grout.record with
  | none => exact .inl (by simp [volumeDecision, hrec])
  | some r =>
    by_cases hheld : s.stageEndHeld = true
    · exact .inl (by simp [volumeDecision, hrec, hheld])
    · have hv : volumeDecision reach s =
          unaware (.channel .gv) .reached (compareNat (s.filtered .gv) r.target 0)
            (fun s => reach (.stageEnd false) (endClaim claimByVolume (closeGrout s))) id s := by
        simp [volumeDecision, hrec, hs, hr, hheld]
      rw [hv]
      by_cases hc : compareNat (s.filtered .gv) r.target 0 = .void
      · have hd := detect_voidTest_cases (.inl rfl) (.channel .gv) (s := s) ⟨hs, .inl hr⟩
        rw [hc]
        simp only [unaware, if_true, id, ite_self]
        exact .inr (hd.imp id fun ⟨f, hf, hk⟩ => .inl ⟨f, hf, by rw [hk]; decide⟩)
      · by_cases hx : Test.reached.holds (compareNat (s.filtered .gv) r.target 0) = true
        · rw [unaware_true _ _ s hx]
          have hw : Work s (endClaim claimByVolume (closeGrout s)) :=
            .after (endClaim_work _ _) (closeGrout_core s)
          have hs' : (endClaim claimByVolume (closeGrout s)).seq.stage = .grout := by simpa using hs
          have hp := State.pendingSound_of_standing (hw.standing hst)
          generalize endClaim claimByVolume (closeGrout s) = u at hs' hp ⊢
          by_cases hn : u.faults.pending = []
          · right; right; right
            rw [reach, reachWith_pass hn, proceed_stageEnd_grout false hs']
          · exact .inr (.inr (.inl (reachWith_pending _ _ hp hs' hn)))
        · rw [unaware_false _ _ s hc (by simpa using hx)]
          exact .inl rfl

/-- A grout stage that is not RUNNING or PAUSED, or another stage, has no volume decision (R114). -/
theorem volumeDecision_other {s : State}
    (h : s.seq.stage ≠ .grout ∨ (s.seq.runState ≠ .running ∧ s.seq.runState ≠ .paused)) :
    volumeDecision reach s = s := by
  unfold volumeDecision
  split
  · rcases h with h | ⟨h1, h2⟩
    · simp [h]
    · simp [h1, h2]
  · rfl

theorem State.grouting_iff {s : State} :
    s.grouting = true ↔ s.seq.stage = .grout ∧ s.seq.runState = .running := by
  simp [State.grouting]

theorem throttleDecision_other {s : State} (h : s.grouting = false) : throttleDecision reach s = s := by
  unfold throttleDecision
  split <;> simp [h]

theorem groutGate_other {s : State} (h : s.grouting = false) : groutGate reach s = s := by
  simp [groutGate, h]

/-- What a course is: the work in RUNNING, or neither the gate nor a decision of the stage in force. -/
theorem GroutCourse.cases {s : State} (h : GroutCourse s) :
    (s.seq.stage = .grout ∧ s.seq.runState = .running) ∨
    (s.grouting = false ∧ volumeDecision reach s = s) := by
  rcases h with ⟨hs, hr | ⟨f, hf, -⟩⟩ | hn
  · exact .inl ⟨hs, hr⟩
  · exact .inr ⟨by simp [State.grouting, hf.run], volumeDecision_other (.inr (by simp [hf.run]))⟩
  · exact .inr ⟨by simp [State.grouting, hn], volumeDecision_other (.inl (by simp [hn]))⟩

theorem volumeDecision_course {s : State} (hst : s.standing = true) (h : GroutCourse s) :
    GroutCourse (volumeDecision reach s) := by
  rcases h.cases with ⟨hs, hr⟩ | ⟨-, e⟩
  · rcases volumeDecision_cases hst hs hr with e | e | ⟨f, hf, hp⟩ | hn
    · rw [e]; exact h
    · rw [e]; exact .inl ⟨hs, .inl hr⟩
    · exact .inl (hf.interruptible _ hp)
    · exact .inr hn
  · rw [e]; exact h

/-- While the stage goes on, the volume decision leaves its claim (R114). -/
theorem volumeDecision_claim {s : State} (hst : s.standing = true) (h : GroutCourse s)
    (hg : (volumeDecision reach s).grouting = true) :
    (volumeDecision reach s).grout.claim = s.grout.claim := by
  rcases h.cases with ⟨hs, hr⟩ | ⟨-, e⟩
  · rcases volumeDecision_cases hst hs hr with e | e | ⟨f, hf, -⟩ | hn
    · rw [e]
    · rw [e]; rfl
    · simp [State.grouting, hf.run] at hg
    · simp [State.grouting, hn] at hg
  · rw [e]

/-- A boundary of a grout stage, where passing it leaves the stage on its course. -/
theorem reach_course {b : Boundary} {s : State} (hst : s.standing = true) (hs : s.seq.stage = .grout)
    (hpass : Interruptible .grout .running 6 (proceed chainBound b s)) : GroutCourse (reach b s) :=
  .inl (reachWith_interruptible (State.pendingSound_of_standing hst) hs fun _ => hpass)

theorem groutGate_course {s : State} (hst : s.standing = true) (hm : s.cfg Setup.main 0 ≠ 0)
    (h : GroutCourse s) : GroutCourse (groutGate reach s) := by
  rcases h.cases with ⟨hs, hr⟩ | ⟨hg, -⟩
  · unfold groutGate
    simp only [hm, if_false]
    split
    · split
      · exact reach_course hst hs ⟨hs, .inl hr⟩
      · exact h
    · exact h
  · rw [groutGate_other hg]; exact h

theorem proceed_throttled_seq (s : State) :
    (proceed chainBound .throttled s).seq = { s.seq with held := none } :=
  logEvent_seq .throttle _ (setGroutPhase .throttled { s with seq := { s.seq with held := none } })

/-- A throttle that is not a claim's third closes the valve and reaches the boundary into THROTTLED (R110, R111). -/
theorem onThrottle_course {s : State} (hst : s.standing = true) (hs : s.seq.stage = .grout)
    (hr : s.seq.runState = .running) (hn : (s.grout.claim.map Claim.throttles).getD 0 = 0) :
    GroutCourse (onThrottle reach s) := by
  have hw : Work s (closeGrout (openGrout s)) := .quiet (closeGrout_core (openGrout s))
  have hseq : (closeGrout (openGrout s)).seq = s.seq := by simp
  unfold onThrottle
  simp only [hn]
  generalize closeGrout (openGrout s) = u at hw hseq ⊢
  rw [if_pos (by decide)]
  have hus : u.seq.stage = .grout := by rw [hseq]; exact hs
  refine reach_course (hw.standing hst) hus ⟨?_, .inl ?_⟩ <;> rw [proceed_throttled_seq]
  · exact hus
  · exact (congrArg Sequencer.runState hseq).trans hr

/-- The throttle decision of a claim that has not been throttled (R110, R111). -/
theorem throttleDecision_course {s : State} (hst : s.standing = true) (h : GroutCourse s)
    (hn : s.grouting = true → (s.grout.claim.map Claim.throttles).getD 0 = 0) :
    GroutCourse (throttleDecision reach s) := by
  rcases h.cases with ⟨hs, hr⟩ | ⟨hg, -⟩
  · have hi : Interruptible .grout .running 6 s := ⟨hs, .inl hr⟩
    have hopen : ∀ u, Interruptible .grout .running 6 u →
        Interruptible .grout .running 6 (if u.drives.grout then u else openGrout u) := fun u hu => by
      split
      · exact hu
      · exact hu.of_eq rfl rfl rfl
    unfold throttleDecision
    split
    · rename_i r _
      split
      · by_cases hc : compareNat (s.filtered .gp) r.limit 0 = .void
        · rw [hc]
          exact .inl (unaware_void_interruptible (.inl rfl) hi hopen)
        · by_cases hx : Test.overTest.holds (compareNat (s.filtered .gp) r.limit 0) = true
          · rw [unaware_true _ _ s hx]
            exact onThrottle_course hst hs hr (hn (State.grouting_iff.mpr ⟨hs, hr⟩))
          · rw [unaware_false _ _ s hc (by simpa using hx)]
            exact .inl (hopen s hi)
      · exact h
    · exact h
  · rw [throttleDecision_other hg]; exact h

/-- Work of a grout stage that begins: it leaves the stage on its course, and does nothing once a fault has stopped it. -/
structure GroutBegins (work : State → State) (v : State) : Prop where
  isWork : ∀ s, Work s (work s)
  course : GroutCourse (work v)
  halted : ∀ f u, Halted .grout f u → Halted .grout f (work u)

/-- Two decisions that a fault has put out of force. -/
theorem eitherOrder_halted {f g : State → State} {x : TakenFault} {u : State}
    (hf : ∀ u, Halted .grout x u → f u = u) (hg : ∀ u, Halted .grout x u → g u = u)
    (h : Halted .grout x u) : Halted .grout x (eitherOrder f g u) := by
  rw [eitherOrder_eq (by rw [hf u h, hg u h, hf u h]), hf u h, hg u h]
  exact h

theorem Halted.not_grouting {st : Stage} {f : TakenFault} {u : State} (h : Halted st f u) :
    u.grouting = false ∧ volumeDecision reach u = u :=
  ⟨by simp [State.grouting, h.run], volumeDecision_other (.inr (by simp [h.run]))⟩

/-- On main 0 the stage begins with the throttle decision of its claim beside the volume decision (R98, R110, R114). -/
theorem throttle_begins {v : State} (hst : v.standing = true) (h : GroutCourse v)
    (hn : (v.grout.claim.map Claim.throttles).getD 0 = 0) :
    GroutBegins (eitherOrder (throttleDecision reach) (volumeDecision reach)) v where
  isWork := eitherOrder_all (throttleDecision_work reach_work) (volumeDecision_work reach_work)
  halted f u hu := eitherOrder_halted (fun _ h => throttleDecision_other h.not_grouting.1)
    (fun _ h => h.not_grouting.2) hu
  course := by
    refine eitherOrder_elim (p := GroutCourse) ?_ ?_ fun t _ ht => ht.imp (·.of_eq rfl rfl rfl) id
    · exact volumeDecision_course ((throttleDecision_work reach_work v).standing hst)
        (throttleDecision_course hst h fun _ => hn)
    · exact throttleDecision_course ((volumeDecision_work reach_work v).standing hst)
        (volumeDecision_course hst h) fun hg => by rw [volumeDecision_claim hst h hg, hn]

/-- On a shared main the stage begins with its gate beside the volume decision (R94, R114). -/
theorem gate_begins {v : State} (hst : v.standing = true) (h : GroutCourse v)
    (hm : v.cfg Setup.main 0 ≠ 0) :
    GroutBegins (eitherOrder (groutGate reach) (volumeDecision reach)) v where
  isWork := eitherOrder_all (groutGate_work reach_work) (volumeDecision_work reach_work)
  halted f u hu := eitherOrder_halted (fun _ h => groutGate_other h.not_grouting.1)
    (fun _ h => h.not_grouting.2) hu
  course := by
    have hvol := volumeDecision_work reach_work v
    refine eitherOrder_elim (p := GroutCourse) ?_ ?_ fun t _ ht => ht.imp (·.of_eq rfl rfl rfl) id
    · exact volumeDecision_course ((groutGate_work reach_work v).standing hst) (groutGate_course hst hm h)
    · refine groutGate_course (hvol.standing hst) ?_ (volumeDecision_course hst h)
      simpa only [State.cfg, hvol.config] using hm

/-- An overload or a stroke that stands as the stage begins is taken, in whichever order they act (R137, R138, R168). -/
theorem beginWork_halts {work : State → State} {v : State} (hw : GroutBegins work v)
    (hs : v.seq.stage = .grout) (hr : v.seq.runState = .running)
    (hdue : v.overloaded = true ∨ v.strokeEnded = true) :
    ∃ f, Halted .grout f (beginWork work v) ∧ f.kind = v.watchTaken := by
  have hi : Interruptible .grout .running 3 v := ⟨hs, .inl hr⟩
  refine besideKinds_elim (p := fun t => ∃ f, Halted .grout f t ∧ f.kind = v.watchTaken) (fun ha => ?_) ?_
    fun _ _ ⟨f, hf, e⟩ => ⟨f, hf.of_eq rfl rfl rfl, e⟩
  · have hactive := ha (by simp [State.stageActive, hs]) (by simp [hr])
    rcases hw.course with hc | hn
    · exact watchAsked_halts (.inl rfl) (by decide) (hc.mono (by decide)) hdue
    · simp [State.stageActive, hn] at hactive
  · obtain ⟨f, hf, e⟩ := watchAsked_halts (.inl rfl) (by decide) hi hdue
    exact ⟨f, hw.halted f _ hf, e⟩

theorem beginWork_work {work : State → State} {v : State} (hw : GroutBegins work v) :
    Work v (beginWork work v) := besideKinds_work (watchAsked_work v) hw.isWork v

/-- START_GROUT's first phase, with an overload or a stroke standing (R35, R137, R138). -/
theorem groutBegun_halts {t : State} (hst : t.standing = true) (hg : t.grouting = true)
    (hdue : t.overloaded = true ∨ t.strokeEnded = true) :
    Work t (groutBegun t) ∧ ∃ f, Halted .grout f (groutBegun t) ∧ f.kind = t.watchTaken := by
  obtain ⟨hs, hr⟩ := State.grouting_iff.mp hg
  unfold groutBegun
  split
  · have hv := startClaim_work t
    have hvs : (startClaim t).seq.stage = .grout := by simpa using hs
    have hvr : (startClaim t).seq.runState = .running := by simpa using hr
    have hb := throttle_begins (hv.standing hst) (.inl ⟨hvs, .inl hvr⟩) (by rw [startClaim_grout]; rfl)
    have hf := hv.sameField
    have ho := hf.overloaded (by simp)
    have hk : (startClaim t).strokeEnded = t.strokeEnded := by
      simp only [State.strokeEnded, hf.config, hf.filtered, startClaim_drives]
    obtain ⟨f, hh, e⟩ := beginWork_halts hb hvs hvr (by rw [ho, hk]; exact hdue)
    exact ⟨hv.trans (beginWork_work hb), f, hh, e.trans (hf.watchTaken (by simp))⟩
  · rename_i hm
    have hv : Work t (setGroutPhase .wait t) := .quiet rfl
    have hb := gate_begins (v := setGroutPhase .wait t) (hv.standing hst) (.inl ⟨hs, .inl hr⟩) hm
    obtain ⟨f, hh, e⟩ := beginWork_halts hb hs hr hdue
    exact ⟨hv.trans (beginWork_work hb), f, hh, e⟩

/-! ## START_GROUT (R35, R94, R98, R109, R110) -/

/-- The close of an event that leaves the stage leaves the progress (R36). -/
theorem finish_progress {s t : State} (hst : t.standing = true)
    (hs : (finish s t).seq.stage = t.seq.stage) : (finish s t).seq.progress = t.seq.progress := by
  have hseq : (finish s t).seq = (settle s t).seq := by simp [finish, secure]
  rw [hseq] at hs ⊢
  rcases (settle_work s t).stage hst with ⟨-, h⟩ | ⟨h1, h2, -⟩
  · exact h
  · rw [h2] at hs; exact absurd hs.symm h1

/-- START_GROUT with an overload or a stroke standing (R137, R138, R168). -/
theorem startGrout_halted {body : List Byte} {s : State} (hl : s.drivesLegal = true)
    (hcfg : s.seq.config.isSome = true) (hr : s.seq.runState = .idle) (hp : s.seq.progress = .winched)
    (hst : s.standing = true) (hw : s.watchQuiet = false) :
    ∃ f, Halted .grout f (finish s (setReply codeStartGrout body 0 0 [] (groutStarted body s))) ∧
      f.kind = s.watchTaken ∧
      (finish s (setReply codeStartGrout body 0 0 [] (groutStarted body s))).seq.progress =
        s.seq.progress ∧
      (finish s (setReply codeStartGrout body 0 0 [] (groutStarted body s))).port =
        (s.replied codeStartGrout body 0 0 []).port := by
  have ho := groutOpened_open body s
  have hoff : s.drives = .off := State.drives_off hl (by simp [hr]) (by simp [hr]) (by simp [hr])
  have hshut : (groutOpened body s).drives = .off := by rw [groutOpened_drives, hoff]
  have hopen := ho.standing hst hr hp
  have hdue := State.due_of_not_quiet (s := groutOpened body s) (by rw [ho.config]; exact hcfg)
    (by rw [hshut]; rfl) (ho.watchQuiet.trans hw)
  rw [groutStarted_eq]
  obtain ⟨hwork, f, hf, hk⟩ := groutBegun_halts hopen ho.grouting hdue
  generalize groutBegun (groutOpened body s) = w at hwork hf ⊢
  have hkind : f.kind = s.watchTaken :=
    hk.trans (ho.watchTaken (by rw [groutOpened_drives]))
  have hfield := hwork.sameField
  have hclose : SameField (groutOpened body s) { w with drives := .off } :=
    ⟨hfield.reading, hfield.gvCount, hfield.gvOver, hfield.entries, hfield.lineQueue, hfield.lineState,
      hfield.port, hfield.config, hfield.mask⟩
  have hreply : Halted .grout f (setReply codeStartGrout body 0 0 [] w) := hf.of_eq rfl rfl rfl
  have hfin : Halted .grout f (finish s (setReply codeStartGrout body 0 0 [] w)) :=
    hreply.finish (.inr (hk.trans (hclose.watchTaken (by rw [hshut])).symm))
  refine ⟨f, hfin, hkind, ?_, ?_⟩
  · refine (finish_progress (t := setReply codeStartGrout body 0 0 [] w) (hwork.standing hopen)
      (by rw [hfin.stage, hreply.stage])).trans ?_
    rcases hwork.stage hopen with ⟨-, h⟩ | ⟨-, h, -⟩
    · exact h.trans ho.progress
    · rw [hf.stage] at h; cases h
  · exact (finish_sameField s _).port.trans (setReply_port_of (hwork.port.trans ho.port) _ _ _ _ _)

/-- An event that opens the stage and settles as it stands, seen through its close. -/
theorem GroutOpen.finish {s t u : State} {body : List Byte} (ho : GroutOpen s t)
    (hl : t.drivesLegal = true) (hq : s.watchQuiet = true)
    (hu : finish s (setReply codeStartGrout body 0 0 [] t) = u) :
    u.seq = t.seq ∧ u.chans = t.chans ∧ u.grout = t.grout ∧ u.drives = t.drives ∧ u.faults = t.faults ∧
    u.table.entries = t.table.entries ∧ u.contacts = t.contacts ∧
    u.port = (s.replied codeStartGrout body 0 0 []).port := by
  have hl' : (setReply codeStartGrout body 0 0 [] t).drivesLegal = true := hl
  have hs : settle s (setReply codeStartGrout body 0 0 [] t) = setReply codeStartGrout body 0 0 [] t :=
    settle_quiet hl' (ho.watchQuiet.trans hq)
  rw [← hu, finish_of_settled hs hl']
  exact ⟨prompt_seq _ _, prompt_chans _ _, prompt_grout _ _, prompt_drives _ _, prompt_faults _ _,
    prompt_entries _ _, prompt_contacts _ _, (prompt_port _ _).trans (setReply_port_of ho.port _ _ _ _ _)⟩

/-- The stage opened stays so into GROUT_INTENT, with nothing held (R94). -/
theorem GroutOpen.intent {s t : State} (h : GroutOpen s t) :
    GroutOpen s
      { t with
        seq := { t.seq with held := none }
        grout := { t.grout with phase := .intent, intentTicks := 0 } } :=
  ⟨(congrArg (fun q : Sequencer => { q with held := none }) h.seq :), h.filtered, h.counts, h.faults,
    h.contacts, h.table, h.port⟩

theorem GroutOpen.openGrout {s t : State} (h : GroutOpen s t) : GroutOpen s (openGrout t) :=
  ⟨h.seq, h.filtered, ⟨h.counts.1, h.counts.2.1, rfl⟩, h.faults, h.contacts, h.table, h.port⟩

/-- START_GROUT on a shared main with nothing due: the stage waits at its gate, or has begun its intent interval (R94). -/
theorem groutStarted_shared {body : List Byte} {v : Nat} {s : State} (hoff : s.drives = .off)
    (hq : s.watchQuiet = true) (hp : s.faults.pending = []) (hm : s.cfg Setup.main 0 ≠ 0)
    (hv : s.filtered .gv = some v) (ht : v < fieldAt body 0 3) :
    GroutOpen s (groutStarted body s) ∧ (groutStarted body s).drives = .off ∧
    (groutStarted body s).grout =
      { s.grout.stageLess with
        record := some (groutRecordOf body)
        phase := if s.drawers < s.cfg Setup.concurrency 0 then .intent else .wait } := by
  have ho := groutOpened_open body s
  have hw := groutBegun_shared (t := groutOpened body s) ho.grouting (ho.watchQuiet.trans hq)
    (by rw [ho.faults, hp]) (by rw [ho.cfg]; exact hm) ((ho.filtered .gv).trans hv)
    (by rw [groutOpened_grout]; rfl) ht
  rw [groutStarted_eq, hw, ho.drawers, ho.cfg]
  split
  · exact ⟨ho.intent, by simp [hoff], by simp [GroutControl.stageLess]⟩
  · exact ⟨ho.setGroutPhase .wait, by simp [hoff], by simp⟩

/-- START_GROUT on main 0 with nothing due: a claim is held, in DRAW, with the valve open (R96, R98, R110). -/
theorem groutStarted_alone {body : List Byte} {v p : Nat} {s : State} (hoff : s.drives = .off)
    (hq : s.watchQuiet = true) (hm : s.cfg Setup.main 0 = 0)
    (hv : s.filtered .gv = some v) (ht : v < fieldAt body 0 3)
    (hgp : s.filtered .gp = some p) (hl : p ≤ fieldAt body 3 2) :
    GroutOpen s (groutStarted body s) ∧ (groutStarted body s).drives = { Drives.off with grout := true } ∧
    (groutStarted body s).grout =
      { s.grout.stageLess with
        record := some { groutRecordOf body with claimsMade := 1 }
        phase := .draw, claim := some { ticks := 0, throttles := 0 } } := by
  have ho := groutOpened_open body s
  have hw := groutBegun_alone (t := groutOpened body s) (r := groutRecordOf body) ho.grouting
    (ho.watchQuiet.trans hq) (by rw [ho.cfg]; exact hm) ((ho.filtered .gv).trans hv)
    (by rw [groutOpened_grout]) ht ((ho.filtered .gp).trans hgp) hl (by simp [hoff, Drives.off])
  rw [groutStarted_eq, hw]
  refine ⟨ho.startClaim.openGrout, by simp [hoff], ?_⟩
  rw [openGrout_grout, startClaim_grout, groutOpened_grout]
  rfl

/-- Settles O28: `startGrout_halted` where an overload or a stroke stands, and else the first phase on either kind of
main. -/
theorem startGroutBeginsTheStage : Obligations.StartGroutBeginsTheStage := by
  intro body v p s hport hl hcfg haccept
  obtain ⟨hr, -, hprog, -, -, -⟩ := stageOutcome_accepted haccept
  have hoff : s.drives = .off := State.drives_off hl (by simp [hr]) (by simp [hr]) (by simp [hr])
  refine ⟨fun hst hw => ?_, fun hq hp hv ht hgp hlim => ?_⟩
  · obtain ⟨f, hf, hk, hpr, hpt⟩ := startGrout_halted (body := body) hl hcfg hr hprog hst hw
    exact ⟨_, execStartGrout_accepted hport haccept, hf.stage, hf.run, hpr, finish_halted_drives hf,
      hf.claim rfl, by simp [hf.taken, hk], hpt⟩
  · refine ⟨_, execStartGrout_accepted hport haccept, ?_⟩
    generalize hu : finish s (setReply codeStartGrout body 0 0 [] (groutStarted body s)) = u
    by_cases hm : s.cfg Setup.main 0 = 0
    · obtain ⟨ho, hd, hg⟩ := groutStarted_alone hoff hq hm hv ht hgp hlim
      have hleg : (groutStarted body s).drivesLegal = true := by
        simp [State.drivesLegal, State.groutAllowed, hd, hg, Drives.off, ho.stage, ho.runState]
      obtain ⟨f1, f2, f3, f4, f5, f6, f7, f8⟩ := ho.finish hleg hq hu
      rw [f1, f2, f3, f4, f5, f6, f7, f8, hg, hd, ho.faults, ho.contacts, ho.table]
      exact ⟨ho.seq, ho.counts, rfl, fun h => absurd hm h, fun _ => ⟨rfl, rfl, rfl, rfl⟩, rfl, rfl, rfl, rfl⟩
    · obtain ⟨ho, hd, hg⟩ := groutStarted_shared (body := body) hoff hq hp hm hv ht
      have hleg := State.drivesLegal_of_off hd
      obtain ⟨f1, f2, f3, f4, f5, f6, f7, f8⟩ := ho.finish hleg hq hu
      rw [f1, f2, f3, f4, f5, f6, f7, f8, hg, hd, ho.faults, ho.contacts, ho.table]
      exact ⟨ho.seq, ho.counts, rfl, fun _ => ⟨rfl, rfl, rfl, rfl⟩, fun h => absurd h hm, rfl, rfl, rfl, rfl⟩

end Sys2Proof.Machine
end

section
/-!
PROOF. The comparator and the named tests: where a valid value lies against its band, and the row of conditions each test
is true on.
-/
namespace Sys2Proof.Machine

/-! ## Where a valid value lies (R18) -/

section
variable {v t d : Int}

theorem compare_below_iff : compare (some v) t d = .below ↔ v < t - d := by
  simp only [compare]
  split_ifs <;> simp_all

/-- The band is not empty when `0 ≤ d`, so a value past its upper end is not below its lower one. -/
theorem compare_above_iff (hd : 0 ≤ d) : compare (some v) t d = .above ↔ t + d < v := by
  simp only [compare]
  split_ifs <;> simp <;> omega

theorem compare_within_iff : compare (some v) t d = .within ↔ t - d ≤ v ∧ v ≤ t + d := by
  simp only [compare]
  split_ifs <;> simp <;> omega

theorem compare_some_ne_void : compare (some v) t d ≠ .void := by
  simp only [compare]
  split_ifs <;> simp

end

/-! ## The conditions each named test is true on (R20) -/

section
variable {c : Condition}

theorem Test.reached_iff : Test.reached.holds c = true ↔ c = .within ∨ c = .above := by
  cases c <;> decide

theorem Test.short_iff : Test.short.holds c = true ↔ c = .below := by
  cases c <;> decide

theorem Test.overTest_iff : Test.overTest.holds c = true ↔ c = .above := by
  cases c <;> decide

theorem Test.inband_iff : Test.inband.holds c = true ↔ c = .within := by
  cases c <;> decide

theorem Test.clear_iff : Test.clear.holds c = true ↔ c = .below ∨ c = .within := by
  cases c <;> decide

theorem Test.out_iff : Test.out.holds c = true ↔ c = .below ∨ c = .above := by
  cases c <;> decide

theorem Test.present_iff : Test.present.holds c = true ↔ c ≠ .void := by
  cases c <;> decide

end

/-- Settles O10: each test's row of conditions, and where the value lies for each condition of the row; a row of two
conditions covers a half-line because the band joins them. -/
theorem testsFollowTheComparator : Obligations.TestsFollowTheComparator := by
  intro v t d x hd
  have below : compare (some v) t d = .below ↔ v < t - d := compare_below_iff
  have above : compare (some v) t d = .above ↔ t + d < v := compare_above_iff hd
  have within : compare (some v) t d = .within ↔ t - d ≤ v ∧ v ≤ t + d := compare_within_iff
  refine ⟨rfl, below, above, within, ?reached, Test.short_iff.trans below, Test.overTest_iff.trans above,
    Test.inband_iff.trans within, ?clear, Test.out_iff.trans (or_congr below above),
    Test.present_iff.mpr compare_some_ne_void, Test.holds_void x⟩
  case reached =>
    rw [Test.reached_iff, within, above]
    omega
  case clear =>
    rw [Test.clear_iff, below, within]
    omega

end Sys2Proof.Machine
end

section
/-!
PROOF. Drives stay in their rows; the state after power-up meets the invariants.
-/
namespace Sys2Proof.Machine

/-- Every command but POWER_UP closes by putting the drives into their rows. -/
theorem exec_secured {c : Instr} (h : c ≠ .powerUp) (s : State) : ∃ u, exec c s = .next (secure s u) := by
  cases c
  case powerUp => exact absurd rfl h
  all_goals exact ⟨_, rfl⟩

/-- Settles O3: every step ends with the drives put into their rows, but for the idle one, and POWER_UP, which shuts them. -/
theorem drivesStayInTheirRows : Obligations.DrivesStayInTheirRows := by
  intro s t hs hstep
  unfold step at hstep
  split at hstep
  · obtain rfl := Host.Outcome.next.inj hstep
    exact hs
  · rename_i c rest _
    by_cases hc : c = .powerUp
    · subst hc
      obtain rfl := Host.Outcome.next.inj hstep
      exact State.drivesLegal_of_off rfl
    · obtain ⟨u, hu⟩ := exec_secured hc { s with pending := rest }
      obtain rfl := Host.Outcome.next.inj (hu.symm.trans hstep)
      exact secure_legal _ u

/-- Settles O7: the reset state is one closed term, and each invariant is evaluated on it. -/
theorem resetMeetsTheInvariants : Obligations.ResetMeetsTheInvariants := by
  refine ⟨?_, ?_, ?_, ?_, ?_, ?_, ?_⟩ <;> decide

end Sys2Proof.Machine
end

section
/-!
PROOF. No work begins an abort's lowering, which only ABORT and RESUME do (R44, R49), none writes the mask (R173), and only the
end of a GROUT stage sets the cure clock (R38). Unlike `Work`, this holds wherever a boundary is reached.
-/
namespace Sys2Proof.Machine

/-- From `s` to `t` no abort's lowering has begun, the mask stays, and with no GROUT stage active none has begun and the cure
clock stays. -/
structure Calm (s t : State) : Prop where
  run : t.seq.runState = .aborting → s.seq.runState = .aborting
  mask : t.faults.mask = s.faults.mask
  cure : s.seq.stage ≠ .grout → t.seq.cure = s.seq.cure ∧ t.seq.stage ≠ .grout

/-- Reaching a boundary begins no lowering. -/
def CalmReach (reach : Boundary → State → State) : Prop := ∀ b s, Calm s (reach b s)

theorem Calm.refl (s : State) : Calm s s := ⟨id, rfl, fun h => ⟨rfl, h⟩⟩

theorem Calm.trans {s t u : State} (h : Calm s t) (k : Calm t u) : Calm s u :=
  ⟨h.run ∘ k.run, k.mask.trans h.mask, fun hs =>
    ⟨(k.cure (h.cure hs).2).1.trans (h.cure hs).1, (k.cure (h.cure hs).2).2⟩⟩

/-- The later part first. -/
theorem Calm.since {s t u : State} (k : Calm t u) (h : Calm s t) : Calm s u := h.trans k

/-- What `Calm` reads of a state. -/
@[simp] def calmParts (s : State) := (s.seq.runState, s.faults.mask, s.seq.stage, s.seq.cure)

/-- An update of other parts begins none. -/
theorem Calm.of_run {s t : State} (h : calmParts t = calmParts s) : Calm s t := by
  simp only [calmParts, Prod.mk.injEq] at h
  obtain ⟨hr, hm, hs, hc⟩ := h
  exact ⟨fun e => hr ▸ e, hm, fun hg => ⟨hc, hs ▸ hg⟩⟩

theorem Calm.of_ne {s t : State} (h : t.seq.runState ≠ .aborting) (hm : t.faults.mask = s.faults.mask)
    (hc : s.seq.stage ≠ .grout → t.seq.cure = s.seq.cure ∧ t.seq.stage ≠ .grout) :
    Calm s t := ⟨fun e => absurd e h, hm, hc⟩

/-- What follows an update that leaves these parts. -/
theorem Calm.after {s t u : State} (k : Calm t u) (h : calmParts t = calmParts s) : Calm s u :=
  (Calm.of_run h).trans k

@[simp] theorem endClaim_faults (cause : Nat) (s : State) : (endClaim cause s).faults = s.faults := by
  unfold endClaim; split <;> simp

@[simp] theorem startClaim_faults (s : State) : (startClaim s).faults = s.faults := by
  simp [startClaim]

@[simp] theorem takeDue_faults (s : State) : (takeDue s).faults = s.faults := by
  unfold takeDue; split <;> simp [takeReading]

theorem setStepPhase_calm (p : StepPhase) (s : State) : Calm s (setStepPhase p s) := .of_run (by simp)

theorem endClaim_calm (cause : Nat) (s : State) : Calm s (endClaim cause s) := .of_run (by simp)

/-! ## Faults (R50, R164 to R172) -/

theorem runStateOf_ne_aborting (k : FaultKind) : runStateOf k ≠ .aborting := by
  unfold runStateOf; split <;> decide

theorem takeFault_calm (k : FaultKind) (d : Detail) (s : State) : Calm s (takeFault k d s) :=
  .of_ne (by rw [(takeFault_taken k d s).1]; exact runStateOf_ne_aborting k)
    ((stopWork_work _).mask.trans (logTaken_work k s).mask) fun h => by simpa [takeFault, writeTaken] using h

theorem replaceTaken_calm (k : FaultKind) (d : Detail) (s : State) : Calm s (replaceTaken k d s) := by
  unfold replaceTaken
  dsimp only
  split
  · refine .of_ne ?_ ?_ ?_ <;> simp [writeTaken]
  · exact .of_run (by simp [writeTaken])

theorem takeAtOnce_calm (k : FaultKind) (d : Detail) (s : State) : Calm s (takeAtOnce k d s) := by
  unfold takeAtOnce
  split
  · exact .refl s
  · split
    · split
      · exact replaceTaken_calm k d s
      · exact .refl s
    · exact takeFault_calm k d s
  · exact takeFault_calm k d s

theorem detect_calm (k : FaultKind) (d : Detail) (s : State) : Calm s (detect k d s) := by
  have honce : Calm s (takeAtOnce k d (seeKind k s)) := .after (takeAtOnce_calm k d _) rfl
  have hsee : Calm s (seeKind k s) := .of_run rfl
  unfold detect
  dsimp only
  split
  · exact .refl s
  · split
    · split
      · exact hsee
      · exact honce
    · split
      · split
        · exact honce
        · exact hsee
      · split
        · exact hsee
        · split
          · exact honce
          · split
            · exact .of_run rfl
            · exact hsee

theorem takeAtBoundary_calm (k : FaultKind) (d : Detail) (b : Boundary) (s : State) :
    Calm s (takeAtBoundary k d b s) :=
  let cleared : State := { s with faults := { s.faults with pending := [] } }
  ⟨(takeFault_calm k d cleared).run, (takeFault_calm k d cleared).mask, (takeFault_calm k d cleared).cure⟩

theorem reachWith_calm {pass : Boundary → State → State} (hp : CalmReach pass) : CalmReach (reachWith pass) := by
  intro b s
  unfold reachWith
  split
  · exact hp b s
  · exact takeAtBoundary_calm _ _ b s

/-! ## Tests and orders (R22, R25, R168) -/

theorem unaware_calm {d : Detail} {x : Test} {c : Condition} {f g : State → State}
    {s : State} (hf : Calm s (f s)) (hg : ∀ u, Calm u (g u)) : Calm s (unaware d x c f g s) := by
  have hd := detect_calm .voidTest d s
  unfold unaware
  split
  · split
    · exact hd.trans (hg _)
    · exact hd
  · split
    · exact hf
    · exact hg s

theorem eitherOrder_calm {f g : State → State} (hf : ∀ s, Calm s (f s)) (hg : ∀ s, Calm s (g s))
    (s : State) : Calm s (eitherOrder f g s) :=
  eitherOrder_elim ((hf s).trans (hg _)) ((hg s).trans (hf _)) fun _ _ h => ⟨h.run, h.mask, h.cure⟩

theorem besideKinds_calm {kinds work : State → State} (hk : ∀ s, Calm s (kinds s))
    (hw : ∀ s, Calm s (work s)) (s : State) : Calm s (besideKinds kinds work s) :=
  besideKinds_elim (fun _ => (hw s).trans (hk _)) ((hk s).trans (hw _)) fun _ _ h => ⟨h.run, h.mask, h.cure⟩

theorem detectIf_calm (asked : Bool) (k : FaultKind) (d : Detail) (s : State) :
    Calm s (detectIf asked k d s) :=
  detectIf_elim (fun _ => .refl s) fun _ => detect_calm k d s

theorem watchAsked_calm (u s : State) : Calm s (watchAsked u s) :=
  eitherOrder_calm (detectIf_calm _ _ _) (detectIf_calm _ _ _) s

theorem shutLower_calm {work : State → State} (hw : ∀ s, Calm s (work s)) (s : State) :
    Calm s (shutLower work s) := by
  unfold shutLower
  dsimp only
  split
  · exact .after (besideKinds_calm (watchAsked_calm _) hw _) rfl
  · exact .after (hw _) rfl

theorem driftDecision_calm (s : State) : Calm s (driftDecision s) := by
  unfold driftDecision
  dsimp only
  split
  · split
    · split
      · exact .of_run rfl
      · exact .refl s
    · split
      · exact .after (detect_calm _ _ _) rfl
      · exact .refl s
  · exact .refl s

/-! ## Hold evaluator (chapter 8) -/

theorem actOnCreep_calm (v : CreepVerdict) (first : Bool) (n : Nat) (s : State) :
    Calm s (actOnCreep v first n s) := by
  cases v
  · exact .of_run rfl
  · exact .of_run rfl
  · exact .after (detect_calm _ _ _) rfl
  · exact .after (detect_calm _ _ _) rfl

theorem judgeLength_calm (l : Option Int) (s : State) : Calm s (judgeLength l s) := by
  cases l with
  | none => exact .after (detect_calm _ _ _) rfl
  | some l =>
    unfold judgeLength
    dsimp only
    split
    · exact .after (detect_calm _ _ _) rfl
    · exact .after (detect_calm _ _ _) rfl
    · exact .of_run rfl

theorem takePair_calm (p : LoadExt) (s : State) : Calm s (takePair p s) := by
  unfold takePair
  split
  · exact .after (judgeLength_calm _ _) rfl
  · split
    · exact .of_run rfl
    · exact .refl s

theorem holdStandsEnded_calm (n : Nat) (e : Bool) (s : State) : Calm s (holdStandsEnded n e s) := by
  unfold holdStandsEnded
  dsimp only
  refine .after (takePair_calm _ _) ?_
  split <;> split <;> rfl

theorem snagAsked_calm (u s : State) : Calm s (snagAsked u s) := by
  unfold snagAsked
  split
  · exact .after (detect_calm _ _ _) rfl
  · exact .refl s

theorem stepReached_calm (s : State) : Calm s (stepReached s) := by
  unfold stepReached
  dsimp only
  split
  · split
    · exact .after (takePair_calm _ _) rfl
    · exact .of_run rfl
  · exact .of_run rfl

theorem loadMaintenance_calm (s : State) : Calm s (loadMaintenance s) := by
  unfold loadMaintenance
  split
  · split
    · exact unaware_calm (.of_run rfl) Calm.refl
    · exact unaware_calm (.of_run rfl) Calm.refl
  · exact .refl s

theorem enterHold_calm (s : State) : Calm s (enterHold s) :=
  .after (loadMaintenance_calm _) (by simp)

section
variable {reach : Boundary → State → State} (hr : CalmReach reach)
include hr

theorem finishPhase_calm (b : Boundary) (s : State) : Calm s (finishPhase reach b s) := by
  unfold finishPhase
  split
  · exact hr b s
  · exact .of_run rfl

theorem evaluateHold_calm (e : StepEntry) (x : ScheduleStep) (s : State) :
    Calm s (evaluateHold reach e x s) := by
  unfold evaluateHold
  dsimp only
  split
  · exact .after (actOnCreep_calm _ _ _ _) rfl
  · exact .since (finishPhase_calm hr _ _)
      (.since (holdStandsEnded_calm _ _ _) (.after (actOnCreep_calm _ _ _ _) rfl))

theorem holdEndWork_calm (s : State) : Calm s (holdEndWork reach s) := by
  refine Calm.after (t := takeDue s) ?_ (by simp)
  unfold holdEndWork
  dsimp only
  split
  · split
    · exact evaluateHold_calm hr _ _ _
    · exact .since (finishPhase_calm hr _ _) (holdStandsEnded_calm _ _ _)
  · exact finishPhase_calm hr _ _

theorem holdClockWork_calm (s : State) : Calm s (holdClockWork reach s) := by
  unfold holdClockWork
  split
  · exact holdEndWork_calm hr s
  · exact .of_run (by simp)

/-! ## Winch and grout (chapter 6) -/

theorem lengthDecision_calm (s : State) : Calm s (lengthDecision reach s) := by
  unfold lengthDecision
  split
  · split
    · refine unaware_calm (.after (hr _ _) rfl) fun u => ?_
      exact .of_run (by unfold winchOn; split <;> rfl)
    · exact .refl s
  · exact .refl s

theorem winchDecisions_calm (s : State) : Calm s (winchDecisions reach s) :=
  besideKinds_calm (snagAsked_calm s) (lengthDecision_calm hr) s

theorem groutGate_calm (s : State) : Calm s (groutGate reach s) := by
  unfold groutGate
  split
  · split
    · exact hr _ s
    · split
      · exact hr _ s
      · exact .refl s
  · exact .refl s

theorem onThrottle_calm (s : State) : Calm s (onThrottle reach s) := by
  unfold onThrottle
  dsimp only
  split
  · exact .after (hr _ _) (by simp)
  · split <;> exact .since (hr _ _) (.since (endClaim_calm _ _) (.after (detect_calm _ _ _) (by simp)))

theorem throttleDecision_calm (s : State) : Calm s (throttleDecision reach s) := by
  unfold throttleDecision
  split
  · split
    · refine unaware_calm (onThrottle_calm hr s) fun u => ?_
      split
      · exact .refl u
      · exact .of_run rfl
    · exact .refl s
  · exact .refl s

theorem reopenDecision_calm (s : State) : Calm s (reopenDecision reach s) := by
  unfold reopenDecision
  split
  · split
    · exact .after (hr _ _) rfl
    · exact .refl s
  · exact .refl s

theorem volumeDecision_calm (s : State) : Calm s (volumeDecision reach s) := by
  unfold volumeDecision
  split
  · split
    · exact unaware_calm (.after (hr _ _) (by simp)) Calm.refl
    · exact .refl s
  · exact .refl s

/-! ## The raise gate, ramps and holds (R85 to R90, R126 to R131) -/

theorem raiseGate_calm (s : State) : Calm s (raiseGate reach s) := by
  unfold raiseGate
  split
  · exact hr _ s
  · exact .refl s

theorem withdraw_calm (s : State) : Calm s (withdraw reach s) := .after (hr _ _) (by simp)

theorem turnBack_calm (s : State) : Calm s (turnBack reach s) := .after (hr _ _) (by simp)

theorem rampStopped_calm (s : State) : Calm s (rampStopped reach s) := by
  unfold rampStopped
  dsimp only
  refine Calm.trans (.after (stepReached_calm _) ?_) (finishPhase_calm hr _ _)
  split <;> rfl

theorem rampStop_calm (b : Bool) (s : State) : Calm s (rampStop reach b s) := by
  unfold rampStop
  split
  · exact unaware_calm (rampStopped_calm hr s) fun _ => .of_run rfl
  · exact .refl s

theorem enterRampUp_calm (s : State) : Calm s (enterRampUp reach s) :=
  .after (rampStop_calm hr _ _) (by simp)

theorem unloadStopped_calm (s : State) : Calm s (unloadStopped reach s) := by
  refine shutLower_calm (fun u => ?_) s
  split
  · exact (stepReached_calm u).trans (finishPhase_calm hr _ _)
  · exact .refl u

theorem unloadStop_calm (s : State) : Calm s (unloadStop reach s) := by
  unfold unloadStop
  split
  · exact unaware_calm (unloadStopped_calm hr s) fun _ => .of_run rfl
  · exact .refl s

theorem enterRampDown_calm (s : State) : Calm s (enterRampDown reach s) :=
  .after (unloadStop_calm hr _) (by simp)

/-! ## Lock-off (R133 to R136) -/

theorem startSeating_calm (s : State) : Calm s (startSeating reach s) := by
  unfold startSeating
  dsimp only
  split
  · exact .after (hr _ _) rfl
  · exact .of_run rfl

theorem enterSeating_calm (s : State) : Calm s (enterSeating reach s) :=
  .after (startSeating_calm hr _) (by simp)

theorem startRelease_calm (s : State) : Calm s (startRelease reach s) := by
  unfold startRelease
  dsimp only
  split
  · exact .after (hr _ _) rfl
  · exact .of_run rfl

theorem enterRelease_calm (s : State) : Calm s (enterRelease reach s) :=
  .after (startRelease_calm hr _) (by simp)

theorem contactWork_calm (s : State) : Calm s (contactWork reach s) := by
  unfold contactWork
  split
  · exact .after (hr _ _) rfl
  · split
    · refine shutLower_calm (fun u => ?_) s
      split
      · exact hr _ u
      · exact .refl u
    · exact .refl s

theorem settleEnd_calm (s : State) : Calm s (settleEnd reach s) := by
  unfold settleEnd
  split
  · split
    · exact .refl s
    · dsimp only
      split
      · exact .since (hr _ _) (.after (detect_calm _ _ _) rfl)
      · exact .after (hr _ _) rfl
  · exact .refl s

theorem lockOffClock_calm (s : State) : Calm s (lockOffClock reach s) := by
  unfold lockOffClock
  dsimp only
  split
  · split
    · exact .after (detect_calm _ _ _) rfl
    · exact .of_run rfl
  · split
    · exact .after (shutLower_calm (detect_calm _ _) _) rfl
    · exact .of_run rfl
  · split
    · exact .after (settleEnd_calm hr _) rfl
    · exact .of_run rfl
  · exact .of_run rfl

/-! ## Steps (R124, R125) -/

theorem lockApproach_calm (b : Bool) (s : State) : Calm s (lockApproach reach b s) := by
  unfold lockApproach
  split
  · dsimp only
    split
    · exact .refl s
    · exact .after (raiseGate_calm hr _) rfl
    · split
      · exact .after (enterRampDown_calm hr _) rfl
      · exact .after (hr _ _) rfl
    · split
      · exact .after (enterSeating_calm hr _) rfl
      · exact .after (hr _ _) rfl
  · exact .refl s

theorem raiseWaitWork_calm (s : State) : Calm s (raiseWaitWork reach s) := by
  unfold raiseWaitWork
  split
  · exact lockApproach_calm hr _ s
  · exact raiseGate_calm hr s

theorem beginStep_calm (i : Nat) (s : State) : Calm s (beginStep reach i s) := by
  unfold beginStep
  dsimp only
  split
  · exact .of_run (by simp)
  · split
    · exact .after (raiseGate_calm hr _) (by simp)
    · exact .after (enterRampDown_calm hr _) (by simp)
    · exact .after (lockApproach_calm hr _ _) (by simp)

theorem afterRamp_calm (s : State) : Calm s (afterRamp reach s) := by
  unfold afterRamp
  split
  · split
    · exact enterSeating_calm hr s
    · split
      · exact beginStep_calm hr _ s
      · exact enterHold_calm s
  · exact .refl s

end

/-! ## Passing a boundary (R36, R40) -/

theorem endStage_calm (r : Bool) (s : State) : Calm s (endStage r s) := by
  unfold endStage
  split
  · exact .refl s
  · refine .of_ne ?_ ?_ ?_ <;> simp [Sequencer.stageLess, *]
  · refine .of_ne ?_ ?_ ?_ <;> simp [Sequencer.stageLess, *]
  · refine .trans ?_ (driftDecision_calm _)
    refine .of_ne ?_ ?_ ?_ <;> simp [Sequencer.stageLess]

theorem proceed_calm (n : Nat) : CalmReach (proceed n) := by
  induction n with
  | zero => exact fun b s => .refl s
  | succ n ih =>
    intro b s
    have hr := reachWith_calm ih
    unfold proceed
    refine Calm.after (t := { s with seq := { s.seq with held := none } }) ?_ rfl
    generalize hu : ({ s with seq := { s.seq with held := none } } : State) = u
    cases b <;> dsimp only
    case raiseWaitEnd => exact .of_run (by simp)
    case raiseIntentEnd => exact enterRampUp_calm hr u
    case withdrawn => exact .after (raiseGate_calm hr _) (by simp)
    case turnedBack => exact .after (raiseGate_calm hr _) (by simp)
    case gateTimeout => exact .after (raiseWaitWork_calm hr _) rfl
    case approachAbove => exact enterRampDown_calm hr u
    case approachWithin => exact enterSeating_calm hr u
    case rampUpEnd => exact afterRamp_calm hr u
    case rampDownEnd => exact afterRamp_calm hr u
    case holdEnd => exact .after (beginStep_calm hr _ _) rfl
    case seatingEnd => exact enterRelease_calm hr u
    case releaseEnd => exact .of_run (by simp)
    case groutWaitEnd => exact .of_run (hu ▸ rfl)
    case groutWaitDraw => exact .after (throttleDecision_calm hr _) (by simp)
    case groutIntentEnd => exact .after (throttleDecision_calm hr _) (by simp)
    case gaveWay => exact .of_run rfl
    case throttled => exact .of_run (by simp)
    case reopened => exact .after (throttleDecision_calm hr _) rfl
    case claimLimit => exact .of_run (hu ▸ rfl)
    case refusal => exact .after (groutGate_calm hr _) rfl
    case restEnd => exact .after (groutGate_calm hr _) rfl
    case stageEnd r => exact endStage_calm r u

theorem reach_calm : CalmReach reach := reachWith_calm (proceed_calm _)

theorem passHeld_calm (b : Boundary) (s : State) : Calm s (passHeld b s) :=
  reachWith_calm (fun b s => proceed_calm chainBound (resumedBoundary b) s) b s

/-! ## Clocks, the entry into PAUSED, and what RESUME takes up (R37, R44 to R46) -/

theorem gateClock_calm (s : State) : Calm s (gateClock s) := by
  unfold gateClock
  dsimp only
  split
  · split
    · split
      · exact .after (detect_calm _ _ _) rfl
      · exact .since (reach_calm _ _) (.since (setStepPhase_calm _ _) (.after (detect_calm _ _ _) rfl))
    · exact .of_run rfl
  · exact .refl s

theorem stallClock_calm (s : State) : Calm s (stallClock s) := by
  unfold stallClock
  split
  · split
    · dsimp only
      split
      · exact .after (detect_calm _ _ _) rfl
      · exact .of_run rfl
    · exact .refl s
  · exact .refl s

theorem rampClock_calm (s : State) : Calm s (rampClock s) := by
  unfold rampClock
  dsimp only
  split
  · exact .after (detect_calm _ _ _) rfl
  · exact .of_run rfl

theorem stageClocks_calm (s : State) : Calm s (stageClocks s) := by
  unfold stageClocks
  split
  · exact .refl s
  · exact .refl s
  · exact stallClock_calm s
  · split
    · exact .after (holdClockWork_calm reach_calm _) rfl
    · split
      · split
        · exact gateClock_calm s
        · exact gateClock_calm s
        · exact rampClock_calm s
        · exact lockOffClock_calm reach_calm s
        · exact lockOffClock_calm reach_calm s
        · exact lockOffClock_calm reach_calm s
        all_goals exact .refl s
      · exact .refl s

theorem pausedDecisions_calm (s : State) : Calm s (pausedDecisions s) :=
  (loadMaintenance_calm s).trans (volumeDecision_calm reach_calm _)

theorem lossAsked_calm (u s : State) : Calm s (lossAsked u s) := by
  unfold lossAsked
  generalize ChannelName.all.filter u.standsLost = l
  induction l generalizing s with
  | nil => exact .refl s
  | cons c l ih => exact eitherOrder_calm (detect_calm _ _) ih s

theorem acknowledgedKinds_calm (u s : State) : Calm s (acknowledgedKinds u s) :=
  eitherOrder_calm (watchAsked_calm u) (lossAsked_calm u) s

theorem resumeWork_calm (s : State) : Calm s (resumeWork s) := by
  unfold resumeWork
  split
  · exact .refl s
  · exact winchDecisions_calm reach_calm s
  · split
    · exact groutGate_calm reach_calm s
    · exact throttleDecision_calm reach_calm s
    · exact reopenDecision_calm reach_calm s
    all_goals exact .refl s
  · split
    · exact raiseWaitWork_calm reach_calm s
    · exact .after (raiseGate_calm reach_calm _) (by simp)
    · exact unloadStop_calm reach_calm s
    · exact startSeating_calm reach_calm s
    · exact startRelease_calm reach_calm s
    · exact .of_run rfl
    all_goals exact .refl s

theorem takeUpWork_calm (s : State) : Calm s (takeUpWork s) := by
  unfold takeUpWork
  split
  · split
    · exact passHeld_calm _ s
    · exact resumeWork_calm s
  · exact .refl s

end Sys2Proof.Machine
end

section
/-!
PROOF. What every part of an event keeps: the standing, the mask, and no abort's lowering with JACK_HOME active.
-/
namespace Sys2Proof.Machine

/-- The parts of the state that the standing, the lowering and the progress are read from. -/
def standingParts (s : State) :=
  (s.seq.config, s.seq.runState, s.seq.stage, s.seq.progress, s.seq.abortMark, s.faults.mask,
    s.faults.pending, s.faults.taken, s.contacts.jackHome.active)

/-- From `s` to `t` the mask stays, a sound standing stays sound, the stage stays or ends with the
progress where it was or one place forward, and no lowering comes to stand with JACK_HOME active. -/
structure Keeps (s t : State) : Prop where
  mask : t.faults.mask = s.faults.mask
  standing : s.standing = true → t.standing = true
  stage : s.standing = true →
    (t.seq.stage = s.seq.stage ∧ t.seq.progress = s.seq.progress) ∨
    (s.seq.stage ≠ .none ∧ t.seq.stage = .none ∧
      (t.seq.progress = s.seq.progress ∨ t.seq.progress = s.seq.progress.forward))
  lowering : s.standing = true → s.loweringSound = true → t.loweringSound = true

theorem Keeps.quiet {s t : State} (h : standingParts t = standingParts s) : Keeps s t := by
  simp only [standingParts, Prod.mk.injEq] at h
  obtain ⟨h1, h2, h3, h4, h5, h6, h7, h8, h9⟩ := h
  refine ⟨h6, ?_, fun _ => .inl ⟨h3, h4⟩, ?_⟩
  · simp only [State.standing, State.faultMatches, State.stageSound, State.pendingSound, h1, h2, h3, h4, h5,
      h7, h8, imp_self]
  · simp only [State.loweringSound, h2, h9, imp_self, implies_true]

theorem Keeps.refl (s : State) : Keeps s s := .quiet rfl

theorem Keeps.trans {s t u : State} (h : Keeps s t) (k : Keeps t u) : Keeps s u where
  mask := k.mask.trans h.mask
  standing := k.standing ∘ h.standing
  stage := by
    intro hs
    rcases h.stage hs with ⟨a, b⟩ | ⟨a, b, c⟩
    · have hk := k.stage (h.standing hs)
      rwa [a, b] at hk
    · rcases k.stage (h.standing hs) with ⟨d, e⟩ | ⟨d, -⟩
      · exact .inr ⟨a, d.trans b, by rwa [e]⟩
      · exact absurd b d
  lowering := fun hs hl => k.lowering (h.standing hs) (h.lowering hs hl)

/-- The later part first. -/
theorem Keeps.since {s t u : State} (k : Keeps t u) (h : Keeps s t) : Keeps s u := h.trans k

theorem Keeps.after {s t u : State} (k : Keeps t u) (h : standingParts t = standingParts s) : Keeps s u :=
  (Keeps.quiet h).trans k

/-- Work that begins no lowering keeps what the standing is read from. -/
theorem Work.keeps {s t : State} (h : Work s t) (c : Calm s t) : Keeps s t where
  mask := h.mask
  standing := h.standing
  stage := h.stage
  lowering := fun _ hl => by
    simp only [State.loweringSound, h.contacts, Bool.or_eq_true, bne_iff_ne, ne_eq] at hl ⊢
    exact hl.imp (fun hn e => hn (c.run e)) id

/-- From `s` to `t` work has been done that begins no lowering and sets the cure clock with the end of a GROUT stage only. -/
structure Carries (s t : State) : Prop where
  work : Work s t
  calm : Calm s t

theorem Carries.refl (s : State) : Carries s s := ⟨.refl s, .refl s⟩

theorem Carries.trans {s t u : State} (h : Carries s t) (k : Carries t u) : Carries s u :=
  ⟨h.work.trans k.work, h.calm.trans k.calm⟩

theorem Carries.keeps {s t : State} (h : Carries s t) : Keeps s t := h.work.keeps h.calm

theorem eitherOrder_carries {f g : State → State} {s : State} (hfg : Carries s (g (f s)))
    (hgf : Carries s (f (g s))) : Carries s (eitherOrder f g s) :=
  eitherOrder_elim hfg hgf fun _ _ h => h.trans ⟨.quiet rfl, .of_run rfl⟩

theorem detect_keeps {k : FaultKind} (d : Detail) {s : State} (hk : k ≠ .voidTest) : Keeps s (detect k d s) :=
  (detect_work d fun e => absurd e hk).keeps (detect_calm k d s)

theorem reach_carries {b : Boundary} {s : State} (h : Ready b s) : Carries s (reach b s) :=
  ⟨reach_work b s h, reach_calm b s⟩

theorem writeRecord_carries (f : Option FieldKind) (e : Option (EventCode × Nat)) (s : State) :
    Carries s (writeRecord f e s) :=
  ⟨writeRecord_work f e s, .of_run (by simp [writeRecord, consumeRefilled_seq, consumeRefilled_faults])⟩

/-! ## The close of an event -/

theorem requestNotice_keeps (s : State) : Keeps s (requestNotice s) :=
  .quiet (congrArg standingParts (requestNotice_withoutNotice s) :)

theorem followOnNotice_keeps (s : State) : Keeps s (followOnNotice s) :=
  .quiet (congrArg standingParts (followOnNotice_withoutNotice s) :)

theorem prompt_keeps (s t : State) : Keeps t (prompt s t) :=
  .quiet (congrArg standingParts (prompt_withoutNotice s t) :)

theorem enforceDrives_keeps (s : State) : Keeps s (enforceDrives s) :=
  (enforceDrives_work s).keeps (.of_run (by simp))

theorem enforceDrives_carries (s : State) : Carries s (enforceDrives s) :=
  ⟨enforceDrives_work s, .of_run (by simp)⟩

theorem settle_carries (s t : State) : Carries t (settle s t) :=
  settle_elim (enforceDrives_carries t)
    (((enforceDrives_carries t).trans ⟨watchDecisions_work _, watchAsked_calm _ _⟩).trans
      (enforceDrives_carries _))

theorem settle_keeps (s t : State) : Keeps t (settle s t) := (settle_carries s t).keeps

theorem secure_keeps (s t : State) : Keeps t (secure s t) := (enforceDrives_keeps t).trans (.quiet rfl)

theorem finish_keeps (s t : State) : Keeps t (finish s t) :=
  ((settle_keeps s t).trans (prompt_keeps s _)).trans (secure_keeps s _)

/-! ## Sample events and contact reads (R15, R25, R49) -/

/-- In a sound standing no lowering stands with JACK_HOME active once the lowering has been asked (R49). -/
theorem lowering_sound {s : State} (h : s.standing = true) : (lowering s).loweringSound = true := by
  unfold lowering
  split
  · rename_i ha
    simp only [Bool.and_eq_true, beq_iff_eq] at ha
    split
    · simp [State.loweringSound, endAbort, Sequencer.stageLess]
    · split <;> simp_all [State.loweringSound]
  · rename_i ha
    have hr : s.seq.runState ≠ .aborting := by
      intro hr
      simp only [State.standing, State.stageSound, hr, Bool.and_eq_true] at h
      exact ha (by simp_all)
    simp [State.loweringSound, hr]

theorem contactEvent_keeps (x : ContactRead) (s : State) : Keeps s (contactEvent x s) := by
  have hseq : (eventRead (some x) s).seq = s.seq := breakStep_seq _
  have hflt : (eventRead (some x) s).faults = s.faults := breakStep_faults _
  have hst : (eventRead (some x) s).standing = s.standing := by
    simp only [State.standing, State.faultMatches, State.stageSound, State.pendingSound, hseq, hflt]
  rw [contactEvent_eq]
  generalize eventRead (some x) s = u at hseq hflt hst
  have hwork := contactWork_work reach_work u
  have h := hwork.trans (lowering_work _)
  refine ⟨h.mask.trans (by rw [hflt]), fun hs => h.standing (hst.trans hs),
    fun hs => ?_, fun hs _ => lowering_sound (hwork.standing (hst.trans hs))⟩
  rw [← hseq]
  exact h.stage (hst.trans hs)

theorem lowering_calm (s : State) : Calm s (lowering s) := by
  unfold lowering
  split
  · split
    · refine .of_ne ?_ ?_ ?_ <;> simp [endAbort, Sequencer.stageLess]
    · split
      · exact .of_run rfl
      · exact .refl s
  · exact .refl s

theorem loadWork_calm (s : State) : Calm s (loadWork s) := by
  unfold loadWork
  split
  · exact driftDecision_calm s
  · exact .refl s
  · exact .refl s
  · split
    · exact lockApproach_calm reach_calm _ s
    · split
      · exact .after (rampStop_calm reach_calm _ _) rfl
      · exact .refl s
    · exact loadMaintenance_calm s
    · exact (unloadStop_calm reach_calm s).trans (lowering_calm _)
    · exact settleEnd_calm reach_calm s
    all_goals exact .refl s

theorem stallReference_calm (s : State) : Calm s (stallReference s) := by
  unfold stallReference
  split
  · split
    · exact .refl s
    · exact .of_run rfl
  · exact .refl s

theorem workAt_calm (c : ChannelName) (s : State) : Calm s (workAt c s) := by
  cases c
  · exact loadWork_calm s
  · exact .refl s
  · unfold workAt
    dsimp only
    split
    · exact reopenDecision_calm reach_calm s
    · exact throttleDecision_calm reach_calm s
  · exact volumeDecision_calm reach_calm s
  · exact (lengthDecision_calm reach_calm s).trans (stallReference_calm _)
  · exact snagAsked_calm s s

theorem eventWork_keeps (c : ChannelName) (r : Option ContactRead) (s : State) : Keeps s (eventWork c r s) := by
  cases r with
  | none => exact (workAt_work c s).keeps (workAt_calm c s)
  | some x => exact (contactEvent_keeps x s).trans ((workAt_work c _).keeps (workAt_calm c _))

theorem watchAt_keeps (c : ChannelName) (lost : Bool) (u s : State) :
    Keeps s (watchAt c (u.watchKind c) lost s) := by
  have hkind : Keeps s (detectKind (u.watchKind c) s) := by
    unfold detectKind
    split
    · rename_i k hk
      exact detect_keeps _ (by rcases State.watchKind_cases hk with rfl | rfl <;> decide)
    · exact .refl s
  have hloss : ∀ s, Keeps s (lossWatch c lost s) := fun s => by
    unfold lossWatch
    split
    · exact detect_keeps _ (by decide)
    · exact .refl s
  have hdrift : ∀ s, Keeps s (driftLossWatch s) := fun s => by
    unfold driftLossWatch
    dsimp only
    split
    · exact .after (detect_keeps _ (by decide)) rfl
    · exact .quiet rfl
  rw [watchAt_eq]
  split
  · exact (hkind.trans (hloss _)).trans (hdrift _)
  · exact hkind.trans (hloss _)

theorem sampleWork_keeps (i : SampleInput) (r : Option ContactRead) (s : State) :
    Keeps s (sampleWork i r s) := by
  refine Keeps.trans (t := takeSample i s) (.quiet rfl) ?_
  unfold sampleWork
  dsimp only
  generalize takeSample i s = t
  refine Keeps.trans (t := besideKinds
    (watchAt (inputChannel i) (t.watchKind (inputChannel i)) (t.standsLost (inputChannel i)))
    (eventWork (inputChannel i) r) t) ?_ (.quiet rfl)
  exact besideKinds_elim (fun _ => (eventWork_keeps _ r t).trans (watchAt_keeps _ _ _ _))
    ((watchAt_keeps _ _ _ t).trans (eventWork_keeps _ r _)) fun _ _ h => h.trans (.quiet rfl)

/-! ## The wall line (chapter 4) -/

theorem endBreakDrive_keeps (s : State) : Keeps s (endBreakDrive s) := by
  unfold endBreakDrive
  split
  · exact .quiet rfl
  · exact .refl s

theorem actOnAttempt_keeps (a : AttemptStep) (s : State) : Keeps s (actOnAttempt a s) := by
  cases a
  · exact .refl s
  · exact .quiet rfl
  · refine Keeps.trans ?_ (followOnNotice_keeps _)
    split
    · exact .after (detect_keeps _ (by decide)) rfl
    · exact .quiet rfl
  · exact .after (followOnNotice_keeps _) rfl

theorem beginApplying_keeps (s : State) : Keeps s (beginApplying s) := by
  unfold beginApplying
  split
  · exact .quiet rfl
  · exact .refl s

theorem receiveFrame_keeps (own : Bool) (f : List Byte) (s : State) : Keeps s (receiveFrame own f s) := by
  unfold receiveFrame
  split
  · exact .refl s
  · split
    · exact .refl s
    · split
      · exact detect_keeps _ (by decide)
      · split
        · exact detect_keeps _ (by decide)
        · exact .after (beginApplying_keeps _) rfl

theorem actOnFrame_keeps (own : Bool) (f : FrameStep) (s : State) : Keeps s (actOnFrame own f s) := by
  cases f
  case completed bytes => exact .after (receiveFrame_keeps own bytes _) rfl
  all_goals exact .quiet rfl

theorem actOnLineState_keeps (before : LineState) (s : State) : Keeps s (actOnLineState before s) := by
  unfold actOnLineState
  split
  · exact .after (detect_keeps (k := .wallStop) _ (by decide)) rfl
  · split
    · exact .quiet rfl
    · exact .refl s

theorem bitWork_keeps (b : BitTime) (s : State) : Keeps s (bitWork b s) := by
  have hbegin : Keeps s (beginAttempt s) := by
    unfold beginAttempt
    split
    · exact .quiet rfl
    · exact .refl s
  have hcount : ∀ s, Keeps s (countBreakDrive s) := fun s => by
    unfold countBreakDrive
    split
    · exact .after (endBreakDrive_keeps _) rfl
    · exact .refl s
  refine hbegin.trans ?_
  unfold bitWork
  dsimp only
  exact .since (actOnLineState_keeps _ _) (.since (actOnFrame_keeps _ _ _)
    (.since (actOnAttempt_keeps _ _) (.after (hcount _) rfl)))

theorem lineEvent_keeps (bits : List BitTime) (s : State) : Keeps s (lineEvent bits s) := by
  unfold lineEvent bitTimes
  induction bits generalizing s with
  | nil => exact .refl s
  | cons b bits ih =>
    refine Keeps.trans ?_ (ih _)
    unfold bitTime
    dsimp only
    split
    · exact bitWork_keeps b s
    · exact (bitWork_keeps b s).trans (finish_keeps _ _)

/-! ## Heard notices (R76) -/

theorem applyFrame_keeps (b : List Byte) (s : State) : Keeps s (applyFrame b s).1 := by
  have hd : ∀ d, Keeps s (detect .lineFault d s) := fun d => detect_keeps d (by decide)
  unfold applyFrame
  dsimp only
  split
  · exact hd _
  · split
    · exact hd _
    · split
      · split
        · exact .refl s
        · exact .quiet rfl
      · split
        · exact .quiet rfl
        · split
          · exact .quiet rfl
          · exact hd _

theorem appliedWork_keeps (e : Entry) (s : State) : Keeps s (appliedWork e s) := by
  unfold appliedWork
  dsimp only
  split
  · exact .refl s
  · exact .refl s
  · exact (groutGate_work reach_work s).keeps (groutGate_calm reach_calm s)
  · rename_i hs
    have hn : s.seq.stage ≠ .none := by rw [hs]; decide
    split
    · exact (raiseGate_work reach_work s).keeps (raiseGate_calm reach_calm s)
    · split
      · exact (withdraw_work reach_work hn).keeps (withdraw_calm reach_calm s)
      · exact .refl s
    · split
      · exact (turnBack_work reach_work hn).keeps (turnBack_calm reach_calm s)
      · exact .refl s
    · split
      · exact .quiet rfl
      · exact .refl s
    all_goals exact .refl s

theorem noticeWork_keeps (s : State) : Keeps s (noticeWork s) := by
  unfold noticeWork
  split
  · exact .refl s
  · rename_i a _
    have happly : Keeps s (applyFrame a.frame (endApplying a s)).1 := .after (applyFrame_keeps _ _) rfl
    dsimp only
    refine Keeps.trans ?_ (beginApplying_keeps _)
    split
    · exact happly.trans (appliedWork_keeps _ _)
    · exact happly

/-! ## The notice tick (R1, R79) -/

/-- Entries that leave the table are detected one after another (R79). -/
theorem neighboursLost_keeps (gone : List Entry) (s : State) :
    Keeps s (gone.foldl (fun s e => detect .neighbourLost (.station e.station) s) s) := by
  induction gone generalizing s with
  | nil => exact .refl s
  | cons e rest ih => exact (detect_keeps (k := .neighbourLost) _ (by decide)).trans (ih _)

theorem ageEntries_keeps (s : State) : Keeps s (ageEntries s) := by
  unfold ageEntries
  split
  · exact .refl s
  · exact .after (neighboursLost_keeps _ _) rfl

theorem tickCounts_keeps (s : State) : Keeps s (tickCounts s) := by
  refine (ageEntries_keeps s).trans ?_
  unfold tickCounts jobTick
  split <;> exact .quiet rfl

theorem claimPart_carries (s : State) : Carries s (claimPart s) := by
  unfold claimPart
  split
  · rename_i h
    simp only [State.claimAtLimit, Bool.and_eq_true, beq_iff_eq] at h
    have hs : (endClaim claimByLimit s).seq.stage ≠ .none := by simp [h.1]
    exact (Carries.mk (endClaim_work _ s) (endClaim_calm _ s)).trans (reach_carries (.plain hs (by simp)))
  · split
    · rename_i h
      simp only [State.restOver, Bool.and_eq_true, beq_iff_eq] at h
      obtain ⟨⟨⟨hs, -⟩, -⟩, -⟩ := h
      split
      · exact reach_carries (.plain (by simp [hs]) (by simp))
      · exact ⟨.quiet rfl, .of_run rfl⟩
    · exact .refl s

theorem raisePart_carries (s : State) : Carries s (raisePart s) := by
  unfold raisePart
  split
  · exact ⟨raiseGate_work reach_work s, raiseGate_calm reach_calm s⟩
  · split
    · rename_i h
      have hn : s.seq.stage ≠ .none := by rw [(State.stressing_iff.mp h).1]; decide
      have hw : Carries s (withdraw reach s) := ⟨withdraw_work reach_work hn, withdraw_calm reach_calm s⟩
      split
      · split
        · exact reach_carries (.plain hn (by simp))
        · exact hw
      · split
        · exact hw
        · exact .refl s
    · exact .refl s

theorem groutPart_carries (s : State) : Carries s (groutPart s) := by
  unfold groutPart
  split
  · rename_i h
    simp only [State.groutIntentOver, State.grouting, Bool.and_eq_true, beq_iff_eq] at h
    obtain ⟨⟨⟨hs, -⟩, -⟩, -⟩ := h
    split
    · exact reach_carries (.plain (by simp [hs]) (by simp))
    · exact (Carries.mk (logEvent_work .gateBackoff 0 s) (.of_run (by simp))).trans
        (reach_carries (.plain (by simp [hs]) (by simp)))
  · exact ⟨groutGate_work reach_work s, groutGate_calm reach_calm s⟩

theorem stageClocks_carries (s : State) : Carries s (stageClocks s) := by
  by_cases h : s.seq.stage = .none
  · simp only [stageClocks, h]
    exact .refl s
  · exact ⟨stageClocks_work h, stageClocks_calm s⟩

theorem timeoutPart_carries (s : State) : Carries s (timeoutPart s) := by
  unfold timeoutPart
  split
  · rename_i h
    have hn : s.seq.stage ≠ .none := by
      rcases (Bool.or_eq_true _ _).mp h with h | h <;> rw [(State.stressing_iff.mp h).1] <;> decide
    exact ⟨gateClock_work hn, gateClock_calm s⟩
  · exact .refl s

theorem gateWork_carries (s : State) : Carries s (gateWork s) :=
  ((claimPart_carries s).trans (raisePart_carries _)).trans (groutPart_carries _)

theorem workOfTick_carries (advanced : Bool) (s : State) : Carries s (workOfTick advanced s) := by
  unfold workOfTick
  split
  · split
    · exact eitherOrder_carries ((timeoutPart_carries s).trans (gateWork_carries _))
        ((gateWork_carries s).trans (timeoutPart_carries _))
    · exact (stageClocks_carries s).trans (gateWork_carries _)
  · exact gateWork_carries s

theorem tickWork_carries (advanced : Bool) (s : State) : Carries s (tickWork advanced s) := by
  have hrecord : ∀ s, Carries s (periodicRecord s) := fun s => by
    unfold periodicRecord
    split
    · exact writeRecord_carries _ _ s
    · exact .refl s
  unfold tickWork
  split
  · exact workOfTick_carries advanced s
  · split
    · exact eitherOrder_carries ((hrecord s).trans (workOfTick_carries _ _))
        ((workOfTick_carries _ s).trans (hrecord _))
    · exact (hrecord s).trans (workOfTick_carries _ _)

theorem noticeTick_keeps (s : State) : Keeps s (noticeTick s) := by
  have htick : Keeps s (requestNotice (settle s (tickWork s.jobAdvances (tickCounts s)))) :=
    (((tickCounts_keeps s).trans (tickWork_carries _ _).keeps).trans (settle_keeps s _)).trans (requestNotice_keeps _)
  unfold noticeTick
  dsimp only
  split
  · exact ((htick.trans ((groutGate_work reach_work _).keeps (groutGate_calm reach_calm _))).trans
      (settle_keeps _ _)).trans (prompt_keeps _ _)
  · exact htick

theorem occasion_keeps {due : Bool} {event : State → State} {s : State} (h : Keeps s (event s)) :
    Keeps s (occasion due event s) := by
  unfold occasion
  split
  · exact h
  · exact .refl s

end Sys2Proof.Machine
end

section
/-!
PROOF. Every command keeps the standing, the mask and the order of the progress: requests, characters of the pendant link,
and the step as a whole.
-/
namespace Sys2Proof.Machine

/-! ## What a sound standing says (R32, R34, R50) -/

theorem State.standing_iff {s : State} :
    s.standing = true ↔ s.faultMatches = true ∧ s.stageSound = true ∧ s.pendingSound = true := by
  simp [State.standing, and_assoc]

/-- No fault is held outside FAULTED and STOPPED (R50). -/
theorem State.taken_none {s : State} (h : s.standing = true) (hf : s.seq.runState ≠ .faulted)
    (hs : s.seq.runState ≠ .stopped) : s.faults.taken = none := by
  obtain ⟨hm, -, -⟩ := State.standing_iff.mp h
  cases ht : s.faults.taken with
  | none => rfl
  | some f =>
    simp only [State.faultMatches, ht, beq_iff_eq] at hm
    split at hm
    · exact absurd hm hs
    · exact absurd hm hf

/-- A station with a run state other than UNCONFIGURED holds its configuration (R32). -/
theorem State.config_isSome {s : State} (h : s.standing = true) (hr : s.seq.runState ≠ .unconfigured) :
    s.seq.config.isSome = true := by
  obtain ⟨-, hs, -⟩ := State.standing_iff.mp h
  simp only [State.stageSound, Bool.and_eq_true] at hs
  revert hs hr
  rcases s.seq.runState <;> simp_all

/-- In UNCONFIGURED and IDLE no stage is active (R32). -/
theorem State.stage_none {s : State} (h : s.standing = true)
    (hr : s.seq.runState = .unconfigured ∨ s.seq.runState = .idle) : s.seq.stage = .none := by
  obtain ⟨-, hs, -⟩ := State.standing_iff.mp h
  simp only [State.stageSound, Bool.and_eq_true] at hs
  rcases hr with hr | hr <;> simp only [hr, Bool.and_eq_true, beq_iff_eq] at hs <;> exact hs.1.1.1

/-- The abort mark stands in a STRESS stage only (R49). -/
theorem State.stage_of_abortMark {s : State} (h : s.standing = true) (ha : s.seq.abortMark = true) :
    s.seq.stage = .stress := by
  obtain ⟨-, hs, -⟩ := State.standing_iff.mp h
  simp only [State.stageSound, Bool.and_eq_true] at hs
  simpa [ha] using hs.2

theorem State.abortMark_clear {s : State} (h : s.standing = true) (hs : s.seq.stage = .none) :
    s.seq.abortMark = false := by
  cases ha : s.seq.abortMark with
  | false => rfl
  | true => rw [State.stage_of_abortMark h ha] at hs; cases hs

theorem State.stageSound_of_standing {s : State} (h : s.standing = true) : s.stageSound = true :=
  (State.standing_iff.mp h).2.1

/-- With no stage active and no fault held a configured station in IDLE stands soundly. -/
theorem standing_of_idle {t : State} (hr : t.seq.runState = .idle) (hs : t.seq.stage = .none)
    (ha : t.seq.abortMark = false) (hc : t.seq.config.isSome = true) (ht : t.faults.taken = none)
    (hp : t.pendingSound = true) : t.standing = true :=
  State.standing_iff.mpr
    ⟨by simp [State.faultMatches, ht, hr], by simp [State.stageSound, hr, hs, ha, hc], hp⟩

/-- A station with its stage active stands soundly in RUNNING and PAUSED, no fault held. -/
theorem standing_of_run {s t : State} (h : s.standing = true) (hs : s.seq.stage ≠ .none) {r : RunState}
    (hr : r = .running ∨ r = .paused) (hq : t.seq = { s.seq with runState := r })
    (ht : t.faults.taken = none) (hp : t.faults.pending = s.faults.pending) : t.standing = true := by
  obtain ⟨-, hstage, hpend⟩ := State.standing_iff.mp h
  have hc : s.seq.config.isSome = true :=
    State.config_isSome h fun e => hs (State.stage_none h (.inl e))
  simp only [State.stageSound, Bool.and_eq_true] at hstage
  obtain ⟨⟨-, hprogress⟩, hmark⟩ := hstage
  refine State.standing_iff.mpr ⟨?_, ?_, by simpa [State.pendingSound, hp] using hpend⟩
  · rcases hr with rfl | rfl <;> simp [State.faultMatches, ht, hq]
  · rcases hr with rfl | rfl <;> simp only [State.stageSound, hq, Bool.and_eq_true] <;>
      exact ⟨⟨⟨by simpa using hs, hc⟩, hprogress⟩, hmark⟩

/-- A sound station in IDLE is sound with a stage begun at its place in the progress (R34, R35). -/
theorem standing_of_started {s t : State} {g : Stage} (h : s.standing = true) (hg : g ≠ .none)
    (hr : s.seq.runState = .idle) (hp : s.seq.progress = progressBefore g)
    (hq : t.seq =
      { s.seq with
        stage := g, runState := .running, jobClock := 0, jobHalf := false, held := t.seq.held })
    (hf : t.faults = s.faults) : t.standing = true := by
  obtain ⟨-, -, hpend⟩ := State.standing_iff.mp h
  have ht := State.taken_none h (by simp [hr]) (by simp [hr])
  have hc := State.config_isSome h (by simp [hr])
  have ha := State.abortMark_clear h (State.stage_none h (.inr hr))
  refine State.standing_iff.mpr ⟨?_, ?_, by simpa [State.pendingSound, hf] using hpend⟩
  · rw [State.faultMatches, hf, ht, hq]; rfl
  · rw [State.stageSound, hq]
    cases g
    case none => exact absurd rfl hg
    all_goals simp [hc, ha, hp, progressBefore]

/-- Kinds in falling priority are so pair by pair (R163). -/
theorem fallingPriority_iff {l : List (FaultKind × Detail)} :
    fallingPriority l = true ↔ l.Pairwise fun p q => p.1.priority < q.1.priority := by
  induction l with
  | nil => simp [fallingPriority]
  | cons x rest ih =>
    cases rest with
    | nil => simp [fallingPriority]
    | cons y more =>
      simp only [fallingPriority, Bool.and_eq_true, decide_eq_true_eq, ih, List.pairwise_cons (a := x),
        List.mem_cons, forall_eq_or_imp]
      refine ⟨fun ⟨hxy, hp⟩ => ⟨⟨hxy, fun z hz => ?_⟩, hp⟩, fun ⟨⟨hxy, _⟩, hp⟩ => ⟨hxy, hp⟩⟩
      exact Nat.lt_trans hxy (List.rel_of_pairwise_cons hp hz)

/-! ## What a request does before its work -/

/-- From `s` to `v` a request has done what it does before its work: the standing, the mask and the lowering stay sound, and the
progress of a configured station stays. -/
structure Prepares (s v : State) : Prop where
  standing : s.standing = true → v.standing = true
  lowering : s.standing = true → s.loweringSound = true → v.loweringSound = true
  mask : s.maskSound = true → v.maskSound = true
  progress : s.standing = true → s.seq.runState ≠ .unconfigured → v.seq.progress = s.seq.progress

/-- From `s` to `t` a command has acted: what a request does before its work, then work and the close of the event. -/
def Acts (s t : State) : Prop := ∃ v, Prepares s v ∧ Keeps v t

theorem Prepares.quiet {s v : State} (h : standingParts v = standingParts s) : Prepares s v := by
  have k := Keeps.quiet h
  simp only [standingParts, Prod.mk.injEq] at h
  obtain ⟨-, -, -, h4, -⟩ := h
  exact ⟨k.standing, k.lowering, by simp [State.maskSound, k.mask], fun _ _ => h4⟩

theorem Keeps.acts {s t : State} (h : Keeps s t) : Acts s t := ⟨s, .quiet rfl, h⟩

theorem Prepares.acts {s t : State} (h : Prepares s t) : Acts s t := ⟨t, h, .refl t⟩

theorem Acts.then {s t u : State} (h : Acts s t) (k : Keeps t u) : Acts s u :=
  h.imp fun _ ⟨hp, hk⟩ => ⟨hp, hk.trans k⟩

/-- An act after an update of the port or of the queue. -/
theorem Acts.after {s t u : State} (h : Acts t u) (hq : standingParts t = standingParts s) : Acts s u := by
  obtain ⟨v, hp, hk⟩ := h
  have q := Prepares.quiet hq
  have hc : t.seq.runState = s.seq.runState := by
    simp only [standingParts, Prod.mk.injEq] at hq
    exact hq.2.1
  refine ⟨v, ⟨hp.standing ∘ q.standing, fun hs hl => hp.lowering (q.standing hs) (q.lowering hs hl),
    hp.mask ∘ q.mask, fun hs hr => ?_⟩, hk⟩
  exact (hp.progress (q.standing hs) (by rwa [hc])).trans (q.progress hs hr)

/-- A request that leaves its state in another run state than ABORTING, the mask and the progress in place. -/
theorem Prepares.of_standing {s v : State} (hst : s.standing = true → v.standing = true)
    (hr : v.seq.runState ≠ .aborting) (hm : v.faults.mask = s.faults.mask)
    (hp : v.seq.progress = s.seq.progress) : Prepares s v :=
  ⟨hst, fun _ _ => by simp [State.loweringSound, hr], by simp [State.maskSound, hm], fun _ _ => hp⟩

/-- A lowering leaves the progress (R49). -/
theorem lowering_progress (s : State) : (lowering s).seq.progress = s.seq.progress := by
  unfold lowering
  split
  · split
    · simp [endAbort, updateSummary, Sequencer.stageLess]
    · split <;> rfl
  · rfl

/-- A lowering begins in a STRESS stage with the abort mark set and no fault held (R44, R49). -/
theorem startLowering_prepares {s u : State} (hm : u.faults.mask = s.faults.mask)
    (hp : u.seq.progress = s.seq.progress)
    (h : s.standing = true → u.seq.stage = .stress ∧ u.seq.progress = .grouted ∧ u.seq.abortMark = true ∧
      u.seq.config.isSome = true ∧ u.faults.taken = none ∧ u.pendingSound = true) :
    Prepares s (startLowering u) := by
  unfold startLowering
  generalize hv : ({ u with
    seq := { u.seq with runState := .aborting }
    drives := { u.drives with raise := false, seating := false, lower := true }
    jack := { u.jack with lowerSecond := false } } : State) = v
  have hseq : v.seq = { u.seq with runState := .aborting } := by rw [← hv]
  have hflt : v.faults = u.faults := by rw [← hv]
  have hw := lowering_work v
  have hst : s.standing = true → v.standing = true := fun hs => by
    obtain ⟨h1, h2, h3, h4, h5, h6⟩ := h hs
    refine State.standing_iff.mpr ⟨?_, ?_, by simpa [State.pendingSound, hflt] using h6⟩
    · simp [State.faultMatches, hflt, h5, hseq]
    · simp [State.stageSound, hseq, h1, h2, h3, h4]
  refine ⟨fun hs => hw.standing (hst hs), fun hs _ => lowering_sound (hst hs), ?_, fun _ _ => ?_⟩
  · simp [State.maskSound, hw.mask, hflt, hm]
  · rw [lowering_progress, hseq, ← hp]

/-! ## The requests (R186) -/

/-- An accepted request has passed its checks. -/
theorem verdict_done {refusal : Option Refused} {t u : State} {body out : List Byte}
    (h : verdict refusal t body = .done u out) : refusal = none ∧ u = t := by
  cases refusal with
  | none => simp only [verdict, Verdict.done.injEq] at h; exact ⟨rfl, h.1.symm⟩
  | some why => simp [verdict] at h

/-- A two-byte set of kinds reads as maskable kinds only (R173). -/
theorem maskOf_maskable (v : Nat) : (maskOf v).all FaultKind.maskable = true := by
  simp only [List.all_eq_true]
  intro k hk
  simp only [maskOf, List.mem_filter, Bool.and_eq_true] at hk
  exact hk.2.1

theorem setup_acts {b : List Byte} {s : State} (h : setupRefused b s = none) :
    Acts s (if (driftDecision (configured (setupOf b) s)).table.drift then
      requestNotice (driftDecision (configured (setupOf b) s)) else driftDecision (configured (setupOf b) s)) := by
  have hr : s.seq.runState = .unconfigured := by
    by_contra hne
    simp [setupRefused, State.configured, hne] at h
  have hprep : Prepares s (configured (setupOf b) s) := by
    refine ⟨fun hs => ?_, fun _ _ => rfl, fun _ => ?_, fun _ hne => absurd hr hne⟩
    · refine standing_of_idle rfl rfl ?_ rfl ?_ rfl
      · exact (State.abortMark_clear hs (State.stage_none hs (.inl hr)) :)
      · exact (State.taken_none hs (by simp [hr]) (by simp [hr]) :)
    · exact maskOf_maskable _
  have hdrift := (driftDecision_work (configured (setupOf b) s)).keeps (driftDecision_calm _)
  refine ⟨_, hprep, ?_⟩
  split
  · exact hdrift.trans (requestNotice_keeps _)
  · exact hdrift

/-- No check fails where each is passed (R186). -/
theorem firstFailing_eq_none {l : List (Bool × Refused)} :
    firstFailing l = none ↔ ∀ c ∈ l, c.1 = true := by
  induction l with
  | nil => simp [firstFailing]
  | cons c rest ih => cases h : c.1 <;> simp [firstFailing, h, ih]

/-- The checks of state that an accepted stage request has passed (R34). -/
theorem stageRefused_none {p : Progress} {c : Bool} {f : Option Refused} {s : State}
    (h : stageRefused p c f s = none) : s.seq.runState = .idle ∧ s.seq.progress = p := by
  obtain ⟨hc, -⟩ := Option.or_eq_none_iff.mp h
  rw [firstFailing_eq_none] at hc
  exact ⟨by simpa using hc (s.seq.runState == .idle, (.wrongState, 0)) (by simp [stageChecks]),
    by simpa using hc (s.seq.progress == p, (.wrongState, 0)) (by simp [stageChecks])⟩

/-- A stage begins: what a stage request does before its work (R35). -/
theorem startStage_prepares {g : Stage} {s u : State} (hg : g ≠ .none) (hr : s.seq.runState = .idle)
    (hp : s.seq.progress = progressBefore g) (hq : u.seq = s.seq) (hf : u.faults = s.faults) :
    Prepares s (startStage g u) := by
  have hseq : (startStage g u).seq =
      { s.seq with stage := g, runState := .running, jobClock := 0, jobHalf := false } := by
    simp [startStage, hq]
  have hflt : (startStage g u).faults = s.faults := by simp [startStage, hf]
  exact .of_standing (fun hs => standing_of_started hs hg hr hp (by rw [hseq]) hflt) (by simp [hseq])
    (by rw [hflt]) (by rw [hseq])

theorem beginWork_keeps {work : State → State} (hw : ∀ s, Work s (work s)) (hc : ∀ s, Calm s (work s))
    (s : State) : Keeps s (beginWork work s) :=
  (besideKinds_work (watchAsked_work s) hw s).keeps (besideKinds_calm (watchAsked_calm s) hc s)

/-- The stage with its record formed, before the winch decisions (R35, R102). -/
def winchOpened (b : List Byte) (s : State) : State :=
  startStage .winch { s with winch := some (winchRecordOf b) }

theorem winchStarted_eq (b : List Byte) (s : State) :
    winchStarted b s = beginWork (winchDecisions reach) (winchOpened b s) := rfl

/-- The stage with its schedule stored, before step 1 (R35, R119, R145). -/
def stressOpened (b : List Byte) (s : State) : State :=
  startStage .stress
    { s with
      jack := { s.jack.stageLess with schedule := scheduleOf b, datum := none }
      eval :=
        { results := [], summary := { JobSummary.cleared with jobStatus := .running }, peak := none } }

theorem stressStarted_eq (b : List Byte) (s : State) :
    stressStarted b s =
      beginWork (raiseGate reach) (beginStep (fun _ s => s) 1 (stressOpened b s)) := rfl

theorem winch_acts {b : List Byte} {s : State} (h : winchRefused b s = none) : Acts s (winchStarted b s) := by
  obtain ⟨hr, hp⟩ := stageRefused_none h
  rw [winchStarted_eq]
  exact ⟨winchOpened b s, startStage_prepares (by decide) hr hp rfl rfl,
    beginWork_keeps (winchDecisions_work reach_work) (winchDecisions_calm reach_calm) _⟩

theorem grout_acts {b : List Byte} {s : State} (h : groutRefused b s = none) : Acts s (groutStarted b s) := by
  obtain ⟨hr, hp⟩ := stageRefused_none h
  refine ⟨groutOpened b s, startStage_prepares (by decide) hr hp rfl rfl, ?_⟩
  rw [groutStarted_eq]
  unfold groutBegun
  split
  · exact ((startClaim_work _).keeps (.of_run (by simp))).trans
      (beginWork_keeps (eitherOrder_all (throttleDecision_work reach_work) (volumeDecision_work reach_work))
        (eitherOrder_calm (throttleDecision_calm reach_calm) (volumeDecision_calm reach_calm)) _)
  · exact .after
      (beginWork_keeps (eitherOrder_all (groutGate_work reach_work) (volumeDecision_work reach_work))
        (eitherOrder_calm (groutGate_calm reach_calm) (volumeDecision_calm reach_calm)) _) rfl

theorem stress_acts {b : List Byte} {s : State} (h : stressRefused b s = none) :
    Acts s (stressStarted b s) := by
  obtain ⟨hr, hp⟩ := stageRefused_none h
  have hstay : Reaches fun _ s => s := fun _ s _ => .refl s
  rw [stressStarted_eq]
  exact ⟨stressOpened b s, startStage_prepares (by decide) hr hp rfl rfl,
    ((beginStep_work hstay 1 _).keeps (beginStep_calm (fun _ s => .refl s) 1 _)).trans
      (beginWork_keeps (raiseGate_work reach_work) (raiseGate_calm reach_calm) _)⟩

theorem holdWork_work (s : State) : Work s (holdWork s) := by
  unfold holdWork
  split
  · exact .refl s
  · exact .quiet rfl
  · split
    · exact .quiet rfl
    · exact .quiet (closeGrout_core s)
    all_goals exact .refl s
  · split
    · exact setStepPhase_work _ s
    · exact .quiet rfl
    · exact .quiet rfl
    all_goals exact .refl s

theorem holdWork_calm (s : State) : Calm s (holdWork s) := by
  unfold holdWork
  split
  · exact .refl s
  · exact .of_run rfl
  · split
    · exact .of_run rfl
    · exact .of_run (by simp)
    all_goals exact .refl s
  · split
    · exact setStepPhase_calm _ s
    · exact .of_run rfl
    · exact .of_run rfl
    all_goals exact .refl s

theorem pause_acts {b : List Byte} {s : State} (h : pauseRefused b s = none) : Acts s (paused s) := by
  have hr : s.seq.runState = .running := by
    have hc := firstFailing_eq_none.mp h (s.seq.runState == .running && !s.lockOff, (.wrongState, 0)) (by simp)
    simp only [Bool.and_eq_true, beq_iff_eq] at hc
    exact hc.1
  refine ⟨setRunState .paused (logEvent .pause 0 s), .of_standing (fun hs => ?_) (by simp) (by simp) (by simp),
    (holdWork_work _).keeps (holdWork_calm _)⟩
  have hn : s.seq.stage ≠ .none := fun e => by
    have := State.stageSound_of_standing hs
    simp [State.stageSound, hr, e] at this
  exact standing_of_run hs hn (.inr rfl) (by simp)
    (by simpa using State.taken_none hs (by simp [hr]) (by simp [hr])) (by simp)

theorem enterPaused_acts {kinds : State → State → State} {s u : State}
    (hk : ∀ t s, Keeps s (kinds t s)) (hs : s.seq.stage ≠ .none) (hq : u.seq = s.seq)
    (hm : u.faults = { s.faults with taken := none }) : Acts s (enterPaused kinds u) := by
  have hpaused : ∀ s, Keeps s (pausedDecisions s) := fun s =>
    (pausedDecisions_work s).keeps (pausedDecisions_calm s)
  refine ⟨setRunState .paused u, .of_standing (fun hst => ?_) (by simp) (by simp [hm]) (by simp [hq]), ?_⟩
  · exact standing_of_run hst hs (.inr rfl) (by simp [hq]) (by simp [hm]) (by simp [hm])
  · exact besideKinds_elim (fun _ => (hpaused _).trans (hk _ _)) ((hk _ _).trans (hpaused _))
      fun _ _ h => h.trans (.quiet rfl)

theorem resumeWork_work (s : State) : Work s (resumeWork s) := by
  unfold resumeWork
  split
  · exact .refl s
  · exact winchDecisions_work reach_work s
  · split
    · exact groutGate_work reach_work s
    · exact throttleDecision_work reach_work s
    · exact reopenDecision_work reach_work s
    all_goals exact .refl s
  · rename_i hs
    have hn : s.seq.stage ≠ .none := by rw [hs]; decide
    split
    · exact raiseWaitWork_work reach_work s
    · exact .trans (setStepPhase_work _ s) (.after (raiseGate_work reach_work _) rfl)
    · exact unloadStop_work reach_work s
    · exact startSeating_work reach_work hn
    · exact startRelease_work reach_work hn
    · exact .quiet rfl
    all_goals exact .refl s

/-- What RESUME takes up is work of a stage; with none active the standing is not sound (R32, R44). -/
theorem takeUpWork_keeps (s : State) : Keeps s (takeUpWork s) := by
  have hc := takeUpWork_calm s
  by_cases hr : s.seq.runState = .running
  · by_cases hn : s.seq.stage = .none
    · have hst : s.standing ≠ true := fun h => by
        have := State.stageSound_of_standing h
        simp [State.stageSound, hr, hn] at this
      exact ⟨hc.mask, fun h => absurd h hst, fun h => absurd h hst, fun h => absurd h hst⟩
    · refine Work.keeps ?_ hc
      unfold takeUpWork
      rw [if_pos hr]
      split
      · exact passHeld_work hn hr
      · exact resumeWork_work s
  · simp only [takeUpWork, hr, if_false]
    exact .refl s

theorem resumePaused_acts {s u : State} (hr : s.seq.runState = .paused) (hq : u.seq = s.seq)
    (hf : u.faults = s.faults) : Acts s (resumePaused u) := by
  have htaken : s.standing = true → s.faults.taken = none := fun hs =>
    State.taken_none hs (by simp [hr]) (by simp [hr])
  unfold resumePaused
  split
  · rename_i ha
    rw [hq] at ha
    refine (startLowering_prepares (by rw [hf]) (by rw [hq]) fun hs => ?_).acts
    have hstage := State.stage_of_abortMark hs ha
    have hprogress := (progress_of_stage (State.stageSound_of_standing hs)).2.2 hstage
    rw [hq, hf, State.pendingSound, hf]
    exact ⟨hstage, hprogress, ha, State.config_isSome hs (by simp [hr]), htaken hs,
      State.pendingSound_of_standing hs⟩
  · refine ⟨setRunState .running u, .of_standing (fun hs => ?_) (by simp) (by simp [hf]) (by simp [hq]), ?_⟩
    · have hn : s.seq.stage ≠ .none := fun e => by
        have := State.stageSound_of_standing hs
        simp [State.stageSound, hr, e] at this
      exact standing_of_run hs hn (.inl rfl) (by simp [hq]) (by simpa [hf] using htaken hs) (by simp [hf])
    · have hwatch : ∀ u s, Keeps s (watchAsked u s) := fun u s => (watchAsked_work u s).keeps (watchAsked_calm u s)
      exact besideKinds_elim (fun _ => (takeUpWork_keeps _).trans (hwatch _ _))
        ((hwatch _ _).trans (takeUpWork_keeps _)) fun _ _ h => h.trans (.quiet rfl)

theorem resume_acts {b : List Byte} {s : State} (h : resumeRefused b s = none) : Acts s (resumed s) := by
  have hr : s.seq.runState = .paused ∨ s.seq.runState = .stopped := by
    simpa using firstFailing_eq_none.mp h
      (s.seq.runState == .paused || s.seq.runState == .stopped, (.wrongState, 0)) (by simp)
  unfold resumed
  dsimp only
  split
  · rename_i hstop
    unfold resumeStopped
    split
    · rename_i ha
      exact enterPaused_acts (fun u s => (watchAsked_work u s).keeps (watchAsked_calm u s))
        (by simpa [State.stageActive] using ha) (by simp) (by simp)
    · rename_i ha
      have hn : s.seq.stage = .none := by simpa [State.stageActive] using ha
      refine (Prepares.of_standing (fun hs => ?_) (by simp) (by simp) (by simp)).acts
      refine standing_of_idle (by simp) (by simpa using hn) ?_ ?_ (by simp) ?_
      · simpa using State.abortMark_clear hs hn
      · simpa using State.config_isSome hs (by simp [hstop])
      · simpa [State.pendingSound] using State.pendingSound_of_standing hs
  · rename_i hstop
    exact resumePaused_acts (hr.resolve_right hstop) (by simp) (by simp)

/-- The states in which ABORT is accepted: the stage is active and no fault is held but in FAULTED (R47). -/
theorem abortAccepted_parts {s : State} (ha : s.abortable = true) :
    (abortAccepted s).seq = { s.seq with held := none } ∧
    (abortAccepted s).faults.mask = s.faults.mask ∧ (abortAccepted s).faults.pending = [] ∧
    (s.standing = true → s.seq.stage ≠ .none ∧ (abortAccepted s).faults.taken = none ∧
      s.seq.config.isSome = true) := by
  refine ⟨by simp [abortAccepted], by simp [abortAccepted], by simp [abortAccepted], fun hs => ?_⟩
  have hstage := State.stageSound_of_standing hs
  revert ha hstage
  by_cases hf : s.seq.runState = .faulted
  · simp [abortAccepted, State.stageSound, hf]
    tauto
  · have ht := State.taken_none hs hf
    rcases hr : s.seq.runState <;> simp [abortAccepted, State.abortable, State.stageSound, hr, ht] <;> tauto

/-- A stage given up at once leaves the station in IDLE with nothing pending (R48). -/
theorem givenUp_acts {s u v : State} (hseq : v.seq = (u.seq).stageLess) (hflt : v.faults = u.faults)
    (hu : u.seq = { s.seq with held := none }) (hmask : u.faults.mask = s.faults.mask)
    (hpend : u.faults.pending = [])
    (hs : s.standing = true → s.seq.stage ≠ .none ∧ u.faults.taken = none ∧ s.seq.config.isSome = true) :
    Acts s v := by
  refine (Prepares.of_standing (fun h => ?_) (by simp [hseq, Sequencer.stageLess]) (by rw [hflt, hmask])
    (by simp [hseq, hu, Sequencer.stageLess])).acts
  obtain ⟨-, ht, hc⟩ := hs h
  exact standing_of_idle (by simp [hseq, Sequencer.stageLess]) (by simp [hseq, Sequencer.stageLess])
    (by simp [hseq, Sequencer.stageLess]) (by simpa [hseq, hu, Sequencer.stageLess] using hc)
    (by rw [hflt, ht]) (by simp [State.pendingSound, hflt, hpend, fallingPriority])

theorem abort_acts {b : List Byte} {s : State} (h : abortRefused b s = none) : Acts s (aborted s) := by
  have ha : s.abortable = true := firstFailing_eq_none.mp h (s.abortable, (.wrongState, 0)) (by simp)
  obtain ⟨hseq, hmask, hpend, hsound⟩ := abortAccepted_parts ha
  unfold aborted giveUp
  generalize abortAccepted s = u at hseq hmask hpend hsound
  have hempty : ∀ v : State, v.faults.pending = [] → v.pendingSound = true := fun v hv => by
    simp [State.pendingSound, hv, fallingPriority]
  split
  · rename_i hg
    have hn : s.seq.stage = .none := by simpa [hseq] using hg
    refine (Prepares.mk (fun hs => absurd hn (hsound hs).1) (fun hs => absurd hn (hsound hs).1) ?_
      fun _ _ => by rw [hseq]).acts
    simp [State.maskSound, hmask]
  · exact givenUp_acts (by simp [abortWinch]) (by simp [abortWinch]) hseq hmask hpend hsound
  · exact givenUp_acts (by simp [abortGrout]) (by simp [abortGrout]) hseq hmask hpend hsound
  · rename_i hg
    have hstress : s.seq.stage = .stress := by simpa [hseq] using hg
    split
    · rename_i hp
      refine (startLowering_prepares hmask (by rw [hseq]) fun hs => ?_).acts
      obtain ⟨-, ht, hc⟩ := hsound hs
      refine ⟨hg, ?_, hp.2, by rw [hseq]; exact hc, ht, hempty u hpend⟩
      rw [hseq]
      exact (progress_of_stage (State.stageSound_of_standing hs)).2.2 hstress
    · refine (startLowering_prepares (by simp [closeEntry, hmask]) (by simp [closeEntry, hseq]) fun hs => ?_).acts
      obtain ⟨-, ht, hc⟩ := hsound hs
      have hprogress := (progress_of_stage (State.stageSound_of_standing hs)).2.2 hstress
      exact ⟨by simp [closeEntry, hg], by simp [closeEntry, hseq, hprogress], by simp,
        by simpa [closeEntry, hseq] using hc, by simpa [closeEntry] using ht,
        hempty _ (by simpa [closeEntry] using hpend)⟩

theorem acknowledge_acts {b : List Byte} {s : State} (h : acknowledgeRefused b s = none) :
    Acts s (acknowledged s) := by
  have hr : s.seq.runState = .faulted := by
    simpa using firstFailing_eq_none.mp h (s.seq.runState == .faulted, (.wrongState, 0)) (by simp)
  have hk : ∀ u s, Keeps s (acknowledgedKinds u s) := fun u s =>
    (acknowledgedKinds_work u s).keeps (acknowledgedKinds_calm u s)
  unfold acknowledged
  by_cases hn : s.seq.stage = .none
  · have hst : s.standing ≠ true := fun hs => by
      have := State.stageSound_of_standing hs
      simp [State.stageSound, hr, hn] at this
    have hmask : (enterPaused acknowledgedKinds (clearTaken s)).faults.mask = s.faults.mask :=
      (besideKinds_calm (s := setRunState .paused (clearTaken s)) (acknowledgedKinds_calm _)
        pausedDecisions_calm).mask
    exact (Prepares.mk (fun h => absurd h hst) (fun h => absurd h hst) (by simp [State.maskSound, hmask])
      fun h => absurd h hst).acts
  · exact enterPaused_acts hk hn rfl rfl

theorem setMask_acts (v : Nat) (s : State) : Acts s (maskSet (maskOf v) s) := by
  refine (Prepares.mk (s := s) (v := maskSet (maskOf v) s) (fun hs => ?_) (fun _ => id) (fun _ => ?_) fun _ _ => rfl).acts
  · obtain ⟨hf, hg, hp⟩ := State.standing_iff.mp hs
    refine State.standing_iff.mpr ⟨hf, hg, ?_⟩
    simp only [State.pendingSound, Bool.and_eq_true, List.all_eq_true, fallingPriority_iff] at hp ⊢
    exact ⟨fun p hm => hp.1 p (List.mem_of_mem_filter hm), hp.2.filter _⟩
  · exact maskOf_maskable v

theorem restart_acts {b : List Byte} {s : State} (h : restartRefused b s = none) : Acts s (restarted s) := by
  have hr : s.seq.runState = .idle := by
    simpa using firstFailing_eq_none.mp h (s.seq.runState == .idle, (.wrongState, 0)) (by simp)
  refine (Prepares.of_standing (s := s) (v := restarted s)
    (fun hs => standing_of_idle rfl rfl rfl ?_ ?_ rfl) ?_ rfl rfl).acts
  · exact (State.config_isSome hs (by simp [hr]) :)
  · exact (State.taken_none hs (by simp [hr]) (by simp [hr]) :)
  · exact nofun

/-- What the verdict accepts, if it accepts, has acted on the state. -/
def ActsIfDone (s : State) (v : Verdict) : Prop := ∀ t out, v = .done t out → Acts s t

theorem verdict_acts {refusal : Option Refused} {s t : State} {body : List Byte}
    (h : refusal = none → Acts s t) : ActsIfDone s (verdict refusal t body) := by
  intro u out hv
  obtain ⟨hn, rfl⟩ := verdict_done hv
  exact h hn

/-- A verdict whose state shows the standing as it was. -/
theorem verdict_quiet {refusal : Option Refused} {s t : State} {body : List Byte}
    (h : standingParts t = standingParts s) : ActsIfDone s (verdict refusal t body) :=
  verdict_acts fun _ => (Prepares.quiet h).acts

theorem refused_acts (why : Refused) (s : State) : ActsIfDone s (.refused why) :=
  fun _ _ h => by cases h

theorem ActsIfDone.ite {c : Prop} [Decidable c] {s : State} {v w : Verdict} (h : ActsIfDone s v)
    (k : ActsIfDone s w) : ActsIfDone s (if c then v else w) := by
  split
  · exact h
  · exact k

theorem setupVerdict_acts (b : List Byte) (s : State) : ActsIfDone s (setupVerdict b s) :=
  verdict_acts setup_acts

/-- Every request that is accepted acts (R186). -/
theorem verdictOf_acts (code : Byte) (b : List Byte) (s : State) : ActsIfDone s (verdictOf code b s) := by
  unfold verdictOf
  refine .ite (setupVerdict_acts b s) (.ite ?_ (.ite ?_ (.ite ?_ (.ite ?_ (.ite ?_ (.ite ?_ (.ite ?_ (.ite ?_
    (.ite ?_ (.ite ?_ (.ite ?_ (.ite ?_ (.ite ?_ (.ite ?_ (.ite ?_ (refused_acts _ s))))))))))))))))
  · exact verdict_acts winch_acts
  · exact verdict_acts grout_acts
  · exact verdict_acts stress_acts
  · exact verdict_acts pause_acts
  · exact verdict_acts resume_acts
  · exact verdict_acts abort_acts
  · exact verdict_acts acknowledge_acts
  · exact verdict_quiet rfl
  · exact verdict_acts fun _ => setMask_acts _ s
  · exact verdict_quiet rfl
  · exact verdict_acts restart_acts
  all_goals exact verdict_quiet rfl

/-! ## The pendant link (R185 to R188) -/

theorem answer_acts {code : Byte} {b : List Byte} {v : Verdict} {s u : State}
    (hq : standingParts u = standingParts s) (hv : ActsIfDone s v) : Acts s (answer code b v u) := by
  cases v with
  | refused why => exact (Prepares.quiet (v := setReply code b why.1.code why.2 [] u) hq).acts
  | done t out =>
    have hreply : Keeps t (setReply code b 0 0 out t) := .quiet rfl
    exact (hv t out rfl).then (hreply.trans (finish_keeps u _))

theorem frameArrives_acts {code : Byte} {b : List Byte} {v : Verdict} {s : State}
    (hv : ActsIfDone s v) : Acts s (frameArrives code b v s) := by
  unfold frameArrives
  split
  · unfold completeFrame
    split
    · exact (Prepares.quiet (s := s) (v := overlapped s) rfl).acts
    · exact answer_acts rfl hv
  · exact (Keeps.refl s).acts

/-- In the turnaround a character moves the port only, and the turnaround goes on (R188). -/
theorem receiveChar_turnaround {s : State} (h : s.turnaround = true) (c : PendantChar) :
    (receiveChar s c).turnaround = true ∧ standingParts (receiveChar s c) = standingParts s := by
  have hr : s.replying = false := by
    unfold State.turnaround at h
    unfold State.replying
    cases hp : s.port.reply <;> simp_all
  have he : (emptyBuffer s).turnaround = true ∧ standingParts (emptyBuffer s) = standingParts s := by
    simp only [emptyBuffer, h, if_true]
    exact ⟨h, rfl⟩
  unfold receiveChar
  simp only [hr, Bool.false_eq_true, if_false]
  generalize emptyBuffer s = u at he
  split
  · split <;> exact he
  · split
    · exact he
    · exact he
    · have hu : (setReceiver .waiting u).turnaround = true := he.1
      simp only [completeFrame, hu, if_true]
      exact he

/-- A character moves the port only, or completes a request, whose reply is then in its turnaround (R185, R186). -/
theorem receiveChar_acts (s : State) (c : PendantChar) :
    standingParts (receiveChar s c) = standingParts s ∨
    (Acts s (receiveChar s c) ∧ (receiveChar s c).turnaround = true) := by
  have he : standingParts (emptyBuffer s) = standingParts s := by unfold emptyBuffer; split <;> rfl
  unfold receiveChar
  split
  · exact .inl rfl
  · dsimp only
    generalize emptyBuffer s = u at he
    split
    · split <;> exact .inl he
    · split
      · exact .inl he
      · exact .inl he
      · rename_i code body _
        unfold completeFrame
        split
        · exact .inl he
        · refine .inr ⟨.after (answer_acts (s := u) (by rfl) (verdictOf_acts code body u)) he, ?_⟩
          cases verdictOf code body u with
          | refused why => rfl
          | done t out =>
            have hport : (answer code body (.done t out) (setReceiver .waiting u)).port =
                (setReply code body 0 0 out t).port := (finish_sameField _ _).port
            simp only [State.turnaround, hport]
            rfl

theorem receiveChars_turnaround {s : State} (h : s.turnaround = true) (chars : List PendantChar) :
    standingParts (receiveChars chars s) = standingParts s := by
  unfold receiveChars
  induction chars generalizing s with
  | nil => rfl
  | cons c rest ih =>
    obtain ⟨ht, hq⟩ := receiveChar_turnaround h c
    exact (ih ht).trans hq

/-- Characters complete at most one request: what follows it falls into its turnaround (R188). -/
theorem receiveChars_acts (chars : List PendantChar) (s : State) : Acts s (receiveChars chars s) := by
  unfold receiveChars
  induction chars generalizing s with
  | nil => exact (Keeps.refl s).acts
  | cons c rest ih =>
    obtain hq | ⟨ha, ht⟩ := receiveChar_acts s c
    · exact (ih _).after hq
    · exact ha.then (.quiet (receiveChars_turnaround ht rest))

theorem discardEvent_acts (chars : List PendantChar) (s : State) : Acts s (discardEvent chars s) := by
  unfold discardEvent
  split
  · exact (Keeps.refl s).acts
  · rename_i last hlast
    dsimp only
    split
    · have h : receiveChar (receiveChars chars.dropLast s) last = receiveChars (chars.dropLast ++ [last]) s := by
        simp [receiveChars, List.foldl_append]
      rw [h]
      exact receiveChars_acts _ s
    · exact (Keeps.refl s).acts

theorem gapEvent_acts (chars : List PendantChar) (s : State) : Acts s (gapEvent chars s) := by
  unfold gapEvent
  dsimp only
  split
  · exact (Keeps.refl s).acts
  · exact (receiveChars_acts chars s).then (.quiet rfl)

/-! ## The step -/

theorem occasion_acts {due : Bool} {event : State → State} {s : State} (h : Acts s (event s)) :
    Acts s (occasion due event s) := by
  unfold occasion
  split
  · exact h
  · exact (Keeps.refl s).acts

/-- Every command but POWER_UP acts. -/
theorem exec_acts {c : Instr} (hc : c ≠ .powerUp) {s t : State} (h : exec c s = .next t) : Acts s t := by
  have hsecure : ∀ {u : State}, Acts s u → Acts s (secure s u) := fun hu => hu.then (secure_keeps s _)
  have hrequest : ∀ {code : Byte} {body : List Byte},
      Acts s (secure s (frameArrives code body (verdictOf code body s) s)) :=
    hsecure (frameArrives_acts (verdictOf_acts _ _ s))
  have hline : ∀ bits, Acts s (secure s (lineEvent bits s)) := fun bits => hsecure (lineEvent_keeps bits s).acts
  have htick : ∀ due, Acts s (secure s (occasion due noticeTick s)) := fun due =>
    hsecure (occasion_acts (noticeTick_keeps s).acts)
  have hevent : ∀ {u : State}, Keeps s u → Acts s (finish s u) := fun hu => (hu.trans (finish_keeps s _)).acts
  have hport : ∀ {u : State}, standingParts u = standingParts s → Acts s (secure s u) := fun hu =>
    hsecure (Prepares.quiet hu).acts
  cases c <;> obtain rfl := Host.Outcome.next.inj h
  case powerUp => exact absurd rfl hc
  case setup | startWinch | startGrout | startStress | pause | resume | abort | acknowledge | acceptDrift
    | setMask | clearSeen | restart | readStatus | readNeighbours | readLog | readResults => exact hrequest
  case undefinedRequest => exact hsecure (occasion_acts (frameArrives_acts (refused_acts _ s)))
  case overlappedRequest => exact hsecure (occasion_acts (Prepares.quiet (s := s) (v := overlapped s) rfl).acts)
  case requestFrameDiscard chars => exact hsecure (discardEvent_acts chars s)
  case pendantGapTimeout chars => exact hsecure (gapEvent_acts chars s)
  case pendantStartCharacter c => exact hsecure (receiveChars_acts [c] s)
  case replyStart =>
    refine hport ?_
    split
    · rfl
    · split <;> rfl
  case replySent =>
    refine hport ?_
    split
    · rfl
    · split <;> rfl
  case sampleEvent i r => exact hevent (sampleWork_keeps i r s)
  case channelLost i => exact hevent (occasion_keeps (sampleWork_keeps i none s))
  case driftLoadVoid n => exact hevent (occasion_keeps (sampleWork_keeps (.load n) none s))
  case contactDebounced r => exact hevent (occasion_keeps (contactEvent_keeps r s))
  case estopReleased r => exact hevent (occasion_keeps (contactEvent_keeps r s))
  case flowPulse =>
    refine hevent (.quiet ?_)
    unfold countPulse
    split
    · split <;> rfl
    · rfl
  case drainWindowClose => exact hevent (.quiet rfl)
  case noticeApplied => exact hevent (noticeWork_keeps s)
  case noticeTick => exact hsecure (noticeTick_keeps s).acts
  case breakDriveEnd bits | lineIdle bits | lineBreakDetect bits | frameComplete bits | frameDiscard bits
    | attemptStart bits | attemptLost bits | noticeDropped bits | backoffEnd bits | attemptSuccess bits
    | lineBusy bits | characterFormed bits => exact hline bits
  all_goals exact htick _

/-- Settles O5: what a command does keeps the standing, the lowering and the mask, and POWER_UP gives a station in all of
them sound. -/
theorem standingIsKept : Obligations.StandingIsKept := by
  intro s t hstep
  unfold step at hstep
  split at hstep
  · obtain rfl := Host.Outcome.next.inj hstep
    exact ⟨id, fun _ => id, id⟩
  · rename_i c rest _
    by_cases hc : c = .powerUp
    · subst hc
      obtain rfl := Host.Outcome.next.inj hstep
      exact ⟨fun _ => rfl, fun _ _ => rfl, fun _ => rfl⟩
    · obtain ⟨v, hp, hk⟩ := exec_acts hc hstep
      refine ⟨fun hs => hk.standing (hp.standing hs),
        fun hs hl => hk.lowering (hp.standing hs) (hp.lowering hs hl), fun hm => ?_⟩
      rw [State.maskSound, hk.mask]
      exact hp.mask hm

/-- Settles O6: what a request does before its work leaves the progress, and work moves it one place at most (R36). -/
theorem progressMovesOnlyForward : Obligations.ProgressMovesOnlyForward := by
  intro c s t hs hr hc h
  obtain ⟨v, hp, hk⟩ := exec_acts hc h
  rw [← hp.progress hs hr]
  rcases hk.stage (hp.standing hs) with ⟨-, he⟩ | ⟨-, -, he⟩
  · exact .inl he
  · exact he

end Sys2Proof.Machine
end

section
/-!
PROOF. A step boundary with kinds pending, and the checks of a stage request in their order.
-/
namespace Sys2Proof.Machine

/-! ## Taking at a boundary (R40, R167) -/

/-- Stopping the work leaves the fault sets (R50). -/
@[simp] theorem stopWork_faults (s : State) : (stopWork s).faults = s.faults := by
  unfold stopWork
  split
  · rfl
  · rfl
  · dsimp only
    split
    · simp [setGroutPhase]
    · split <;> simp [setGroutPhase]
  · dsimp only
    split <;> simp

/-- The state that a kind taken at a boundary leaves: the set is empty, the boundary is held (R40, R167). -/
theorem reachWith_taken {s : State} {k : FaultKind} {d : Detail} {rest : List (FaultKind × Detail)}
    (hp : s.faults.pending = (k, d) :: rest) (hk : k ≠ .wallStop) (pass : Boundary → State → State)
    (b : Boundary) :
    (reachWith pass b s).seq = { s.seq with runState := .faulted, held := some b } ∧
    (reachWith pass b s).faults.taken.map TakenFault.kind = some k ∧
    (reachWith pass b s).faults.taken.map TakenFault.detail = some d ∧
    (reachWith pass b s).faults.pending = [] ∧ (reachWith pass b s).faults.seen = s.faults.seen := by
  have h : reachWith pass b s = takeAtBoundary k d b s := by unfold reachWith; rw [hp]
  rw [h]
  simp [takeAtBoundary, takeFault, writeTaken, runStateOf, hk]

/-- Settles O21: what `reachWith` takes is the head of the pending list, and a sound list falls in priority. -/
theorem aBoundaryTakesTheHighestPendingKind : Obligations.ABoundaryTakesTheHighestPendingKind := by
  intro b k d rest s hp hk
  obtain ⟨hseq, hkind, hdetail, hpending, hseen⟩ := reachWith_taken hp hk (proceed chainBound) b
  refine ⟨fun hst => ?_, hkind, hdetail, hpending, hseen, hseq⟩
  obtain ⟨-, -, hpend⟩ := State.standing_iff.mp hst
  simp only [State.pendingSound, hp, Bool.and_eq_true] at hpend
  exact (List.pairwise_cons.mp (fallingPriority_iff.mp hpend.2)).1

/-! ## The checks of a stage request (R34) -/

/-- What a refusal puts into the reply, outcome and argument; 0 where nothing refuses (R186). -/
def outcomeOf (refusal : Option Refused) : Nat × Nat :=
  match refusal with
  | none => (0, 0)
  | some why => (why.1.code, why.2)

theorem outcomeOf_firstFailing_cons (ok : Bool) (why : Refused) (l : List (Bool × Refused))
    (f : Option Refused) :
    outcomeOf ((firstFailing ((ok, why) :: l)).or f) =
      if ok = true then outcomeOf ((firstFailing l).or f) else (why.1.code, why.2) := by
  cases ok <;> rfl

/-- The checks that the model runs give a stage request the outcome of R34's list. -/
theorem stageOutcome_eq {g : Stage} {body : List Byte} {s : State} {cured : Bool}
    (hc : cured = true ↔ ¬ (g = .stress ∧ s.seq.cure.hours < s.cfg Setup.cureTime 0)) :
    stageOutcome g body s = outcomeOf (stageRefused (progressBefore g) cured (stageFields g body s) s) := by
  unfold stageOutcome stageRefused
  generalize stageFields g body s = fields
  cases fields <;>
    simp only [stageChecks, needConfigured, State.configured, outcomeOf_firstFailing_cons, hc, bne_iff_ne,
      ne_eq, beq_iff_eq, ite_not, Bool.not_eq_true', ← Bool.not_eq_true] <;>
    rfl

/-- What the verdict on a stage request is, where its checks refuse. -/
theorem verdict_refused {refusal : Option Refused} {why : Refused} (h : refusal = some why) (t : State)
    (body : List Byte) : verdict refusal t body = .refused why := by
  rw [h]; rfl

/-- The refusal of a stage request, by what the checks of R34 find. -/
theorem verdictOf_stage {g : Stage} (hg : g ≠ .none) {body : List Byte} {s : State}
    (h : (stageOutcome g body s).1 ≠ 0) :
    ∃ why : Refused, verdictOf (stageRequest g) body s = .refused why ∧
      stageOutcome g body s = (why.1.code, why.2) := by
  have hsome : ∀ refusal, stageOutcome g body s = outcomeOf refusal →
      ∃ why : Refused, refusal = some why ∧ stageOutcome g body s = (why.1.code, why.2) := by
    intro refusal e
    cases refusal with
    | none => exact absurd (congrArg Prod.fst e) h
    | some why => exact ⟨why, rfl, e⟩
  cases g with
  | none => exact absurd rfl hg
  | winch =>
    obtain ⟨why, hwhy, e⟩ := hsome (winchRefused body s) (stageOutcome_eq (cured := true) (by simp))
    exact ⟨why, verdict_refused hwhy _ _, e⟩
  | grout =>
    obtain ⟨why, hwhy, e⟩ := hsome (groutRefused body s) (stageOutcome_eq (cured := true) (by simp))
    exact ⟨why, verdict_refused hwhy _ _, e⟩
  | stress =>
    obtain ⟨why, hwhy, e⟩ := hsome (stressRefused body s) (stageOutcome_eq (by simp))
    exact ⟨why, verdict_refused hwhy _ _, e⟩

/-- A stage request is its frame's arrival (R185, R186). -/
theorem exec_stageRequest {g : Stage} (hg : g ≠ .none) (body : List Byte) (s : State) :
    exec (requestOf (stageRequest g) body) s =
      .next (secure s (frameArrives (stageRequest g) body (verdictOf (stageRequest g) body s) s)) := by
  cases g with
  | none => exact absurd rfl hg
  | winch => rfl
  | grout => rfl
  | stress => rfl

/-- Settles O24: the first failing check gives the verdict, and a refused request changes the reply alone. -/
theorem stageRequestsAreCheckedInOrder : Obligations.StageRequestsAreCheckedInOrder := by
  intro g body s hg hb hp hl h
  obtain ⟨why, hv, e⟩ := verdictOf_stage hg h
  rw [exec_stageRequest hg, hv, request_refused hp hl hb, e]

end Sys2Proof.Machine
end

section
/-!
PROOF. Requests that are accepted with no overload and no stroke due: what their close leaves (`Answered`), PAUSE, and
ACKNOWLEDGE.
-/
namespace Sys2Proof.Machine

/-! ## The close of an accepted request -/

/-- From the effects `t` of a request in state `s` the close has come to `u`: the reply is formed, a prompt notice may have been
asked for, and nothing else differs (R83, R186). -/
structure Answered (s : State) (code : Byte) (body : List Byte) (t u : State) : Prop where
  rest : State.withoutNotice { u with port := t.port, pending := t.pending } = t.withoutNotice
  port : u.port = (s.replied code body 0 0 []).port

section
variable {s t u : State} {code : Byte} {body : List Byte}

theorem Answered.seq (h : Answered s code body t u) : u.seq = t.seq := (congrArg State.seq h.rest :)
theorem Answered.chans (h : Answered s code body t u) : u.chans = t.chans := (congrArg State.chans h.rest :)
theorem Answered.contacts (h : Answered s code body t u) : u.contacts = t.contacts :=
  (congrArg State.contacts h.rest :)
theorem Answered.drives (h : Answered s code body t u) : u.drives = t.drives := (congrArg State.drives h.rest :)
theorem Answered.winch (h : Answered s code body t u) : u.winch = t.winch := (congrArg State.winch h.rest :)
theorem Answered.grout (h : Answered s code body t u) : u.grout = t.grout := (congrArg State.grout h.rest :)
theorem Answered.jack (h : Answered s code body t u) : u.jack = t.jack := (congrArg State.jack h.rest :)
theorem Answered.eval (h : Answered s code body t u) : u.eval = t.eval := (congrArg State.eval h.rest :)
theorem Answered.faults (h : Answered s code body t u) : u.faults = t.faults := (congrArg State.faults h.rest :)
theorem Answered.log (h : Answered s code body t u) : u.log = t.log := (congrArg State.log h.rest :)
theorem Answered.entries (h : Answered s code body t u) : u.table.entries = t.table.entries :=
  congrArg (fun v => v.table.entries) h.rest
theorem Answered.drift (h : Answered s code body t u) : u.table.drift = t.table.drift :=
  congrArg (fun v => v.table.drift) h.rest
theorem Answered.gateTimer (h : Answered s code body t u) : u.table.gateTimer = t.table.gateTimer :=
  congrArg (fun v => v.table.gateTimer) h.rest
theorem Answered.raiseTicks (h : Answered s code body t u) : u.table.raiseTicks = t.table.raiseTicks :=
  congrArg (fun v => v.table.raiseTicks) h.rest
theorem Answered.raiseConditions (h : Answered s code body t u) : u.raiseConditions = t.raiseConditions :=
  (congrArg State.raiseConditions h.rest :)
theorem Answered.drawers (h : Answered s code body t u) : u.drawers = t.drawers :=
  (congrArg State.drawers h.rest :)

/-- A request whose effects settle as they stand is answered with them. -/
theorem answered_of_settled (hl : t.drivesLegal = true)
    (hs : settle s (setReply code body 0 0 [] t) = setReply code body 0 0 [] t) (hp : t.port = s.port) :
    Answered s code body t (finish s (setReply code body 0 0 [] t)) := by
  have hl' : (setReply code body 0 0 [] t).drivesLegal = true := hl
  rw [finish_of_settled hs hl']
  refine ⟨?_, (prompt_port _ _).trans (setReply_port_of hp _ _ _ _ _)⟩
  exact congrArg (fun v => ({ v with port := t.port, pending := t.pending } : State))
    (prompt_withoutNotice s (setReply code body 0 0 [] t))

/-- A request whose effects leave the overload and stroke decisions false is answered with them. -/
theorem answered_quiet (hl : t.drivesLegal = true) (hq : t.watchQuiet = true) (hp : t.port = s.port) :
    Answered s code body t (finish s (setReply code body 0 0 [] t)) := by
  have hl' : (setReply code body 0 0 [] t).drivesLegal = true := hl
  exact answered_of_settled hl (settle_quiet hl' hq) hp

end

/-! ## Drives by their rows (R53) -/

/-- Every drive stands as its row lets it. -/
theorem State.drives_rows {s : State} (h : s.drivesLegal = true) :
    s.drives =
      { raise := s.drives.raise && s.raiseAllowed, lower := s.drives.lower && s.lowerAllowed
        seating := s.drives.seating && s.seatingAllowed, grout := s.drives.grout && s.groutAllowed
        winch := s.drives.winch && s.winchAllowed } := by
  obtain ⟨hr, hl, hs, hg, hw⟩ := State.drives_shut h
  have key : ∀ {a b : Bool}, (b = false → a = false) → a = (a && b) := by
    intro a b; cases a <;> cases b <;> simp
  rw [← key hr, ← key hl, ← key hs, ← key hg, ← key hw]

/-- In a WINCH stage only the winch drive can be on. -/
theorem State.drives_of_winch {s : State} (h : s.drivesLegal = true) (hs : s.seq.stage = .winch) :
    s.drives = { Drives.off with winch := s.drives.winch && s.winchAllowed } :=
  (State.drives_rows h).trans (by
    simp [Drives.off, State.raiseAllowed, State.lowerAllowed, State.seatingAllowed, State.groutAllowed, hs])

/-- In a GROUT stage only the grout valve can be open. -/
theorem State.drives_of_grout {s : State} (h : s.drivesLegal = true) (hs : s.seq.stage = .grout) :
    s.drives = { Drives.off with grout := s.drives.grout && s.groutAllowed } :=
  (State.drives_rows h).trans (by
    simp [Drives.off, State.raiseAllowed, State.lowerAllowed, State.seatingAllowed, State.winchAllowed, hs])

/-- In a STRESS stage only the jack's drives can be on. -/
theorem State.drives_of_stress {s : State} (h : s.drivesLegal = true) (hs : s.seq.stage = .stress) :
    s.drives =
      { Drives.off with
        raise := s.drives.raise && s.raiseAllowed, lower := s.drives.lower && s.lowerAllowed
        seating := s.drives.seating && s.seatingAllowed } :=
  (State.drives_rows h).trans (by simp [Drives.off, State.groutAllowed, State.winchAllowed, hs])

/-! ## PAUSE (R42) -/

section
variable (s : State)

@[simp] theorem closeGrout_winch : (closeGrout s).winch = s.winch := by unfold closeGrout; split <;> rfl
@[simp] theorem closeGrout_jack : (closeGrout s).jack = s.jack := by unfold closeGrout; split <;> rfl
@[simp] theorem closeGrout_eval : (closeGrout s).eval = s.eval := by unfold closeGrout; split <;> rfl
@[simp] theorem closeGrout_table : (closeGrout s).table = s.table := by unfold closeGrout; split <;> rfl
@[simp] theorem closeGrout_log : (closeGrout s).log = s.log := by unfold closeGrout; split <;> rfl
@[simp] theorem closeGrout_drives : (closeGrout s).drives = { s.drives with grout := false } := by
  unfold closeGrout; split
  · rfl
  · rename_i h; rw [← Bool.eq_false_iff.mpr h]
@[simp] theorem setStepPhase_winch (p : StepPhase) : (setStepPhase p s).winch = s.winch := by
  unfold setStepPhase; split <;> simp
@[simp] theorem setStepPhase_table (p : StepPhase) : (setStepPhase p s).table = s.table := by
  unfold setStepPhase; split <;> simp

/-- What PAUSE leaves alone of the work (R42). -/
theorem holdWork_rest :
    (holdWork s).seq = s.seq ∧ (holdWork s).winch = s.winch ∧ (holdWork s).eval = s.eval ∧
    (holdWork s).faults = s.faults ∧ (holdWork s).table = s.table := by
  unfold holdWork
  split
  · simp
  · simp
  · split <;> simp
  · split <;> simp

/-- PAUSE withdraws an intent to raise (R42). -/
theorem holdWork_jack : (holdWork s).jack =
    { s.jack with
      phase := if s.seq.stage = .stress ∧ s.jack.phase = .raiseIntent then .raiseWait else s.jack.phase } := by
  unfold holdWork
  split <;> rename_i hs <;> simp only [hs]
  · simp
  · simp
  · split <;> simp
  · split <;> rename_i hp <;> simp [hp] <;> rw [← hp]

/-- PAUSE withdraws an intent to draw (R42). -/
theorem holdWork_grout : (holdWork s).grout =
    { s.grout with
      phase := if s.seq.stage = .grout ∧ s.grout.phase = .intent then .wait else s.grout.phase } := by
  unfold holdWork
  split <;> rename_i hs <;> simp only [hs]
  · simp
  · simp
  · split <;> rename_i hp <;> simp [hp] <;> rw [← hp]
  · split <;> simp

/-- PAUSE writes a record beside its own only for the phase that it changes (R144). -/
theorem holdWork_log (h : s.jack.phase ≠ .raiseIntent) : (holdWork s).log = s.log := by
  unfold holdWork
  split
  · rfl
  · rfl
  · split <;> simp
  · cases hp : s.jack.phase with
    | raiseIntent => exact absurd hp h
    | _ => rfl

end

/-- In RUNNING outside lock-off PAUSE leaves no drive on but the raise valve of a hold (R42). -/
theorem holdWork_drives {s u : State} (hl : s.drivesLegal = true) (hr : s.seq.runState = .running)
    (hg : s.seq.stage ≠ .none) (ho : s.lockOff = false) (hs : u.seq.stage = s.seq.stage)
    (hj : u.jack = s.jack) (hgr : u.grout = s.grout) (hd : u.drives = s.drives) :
    (holdWork u).drives =
      if s.seq.stage = .stress ∧ s.jack.phase = .hold then { Drives.off with raise := s.drives.raise }
      else .off := by
  unfold holdWork
  rw [hs, hj, hgr]
  cases hst : s.seq.stage with
  | none => exact absurd hst hg
  | winch =>
    simp only [reduceCtorEq, false_and, if_false, winchOff_drives, hd]
    rw [State.drives_of_winch hl hst]
    rfl
  | grout =>
    have hdr := State.drives_of_grout hl hst
    cases hp : s.grout.phase <;> simp [hd] <;> rw [hdr] <;> simp [State.groutAllowed, hp, Drives.off]
  | stress =>
    have hdr := State.drives_of_stress hl hst
    simp only [State.lockOff, hst] at ho
    cases hp : s.jack.phase <;> simp [hp] at ho <;> simp [hd] <;> rw [hdr] <;>
      simp [State.raiseAllowed, State.lowerAllowed, State.seatingAllowed, hp, hst, hr, Drives.off]

/-- The acceptance of a request with no body (R186). -/
theorem emptyRequest_accepted {s : State} (hp : s.portFree = true) {code : Byte} {refusal : Option Refused}
    (hn : refusal = none) (t : State) :
    secure s (frameArrives code [] (verdict refusal t []) s) = finish s (setReply code [] 0 0 [] t) := by
  rw [hn]
  exact request_accepted hp (Nat.zero_le _) t []

/-- The refusal of a request with no body (R186). -/
theorem emptyRequest_refused {s : State} (hp : s.portFree = true) (hl : s.drivesLegal = true) {code : Byte}
    {refusal : Option Refused} {why : Refused} (hw : refusal = some why) (t : State) :
    secure s (frameArrives code [] (verdict refusal t []) s) = s.replied code [] why.1.code why.2 [] := by
  rw [hw]
  exact request_refused hp hl (Nat.zero_le _) why

theorem execPause_accepted {s : State} (hp : s.portFree = true) (hr : s.seq.runState = .running)
    (ho : s.lockOff = false) :
    exec (.pause []) s = .next (finish s (setReply codePause [] 0 0 [] (paused s))) :=
  congrArg Host.Outcome.next (emptyRequest_accepted hp
    (by simp [pauseRefused, firstFailing, needConfigured, State.configured, noBody, hr, ho]) _)

/-- The readings and the port after PAUSE are as they were. -/
theorem paused_sameField (s : State) : SameField s (paused s) :=
  let h := (logEvent_work .pause 0 s).sameField
  SameField.trans (t := setRunState .paused (logEvent .pause 0 s))
    ⟨h.reading, h.gvCount, h.gvOver, h.entries, h.lineQueue, h.lineState, h.port, h.config, h.mask⟩
    (holdWork_work _).sameField

/-- Settles O30: the accepted PAUSE by what `holdWork` does to each part, the refusal by its check of state. -/
theorem pauseHoldsTheWork : Obligations.PauseHoldsTheWork := by
  intro s hport hl hq
  refine ⟨fun hr hg ho => ⟨_, execPause_accepted hport hr ho, ?_⟩, fun hu hn => ?_⟩
  · obtain ⟨hseq, hwinch, heval, hflt, htable⟩ := holdWork_rest (setRunState .paused (logEvent .pause 0 s))
    have hjack := holdWork_jack (setRunState .paused (logEvent .pause 0 s))
    have hgrout := holdWork_grout (setRunState .paused (logEvent .pause 0 s))
    have hlog := holdWork_log (setRunState .paused (logEvent .pause 0 s))
    have hdrives := holdWork_drives (u := setRunState .paused (logEvent .pause 0 s)) hl hr hg ho (by simp)
      (by simp) (by simp) (by simp)
    have hcontacts := (holdWork_work (setRunState .paused (logEvent .pause 0 s))).contacts
    have hf := paused_sameField s
    unfold paused at hf ⊢
    generalize holdWork (setRunState .paused (logEvent .pause 0 s)) = v at *
    have hlegal : v.drivesLegal = true := by
      by_cases hh : s.seq.stage = .stress ∧ s.jack.phase = .hold
      · simp [State.drivesLegal, State.raiseAllowed, hdrives, hseq, hjack, hh, Drives.off]
      · exact State.drivesLegal_of_off (hdrives.trans (if_neg hh))
    have ha : Answered s codePause [] v _ := answered_quiet hlegal (hf.watchQuiet.trans hq) hf.port
    rw [ha.seq, ha.drives, ha.jack, ha.grout, ha.winch, ha.eval, ha.faults, ha.contacts, ha.entries, ha.drift,
      ha.gateTimer, ha.log, hseq, hwinch, heval, hflt, htable, hjack, hgrout, hdrives, hcontacts]
    exact ⟨by simp [setRunState], rfl, by simp, by simp, by simp, by simp, by simp, by simp, by simp, by simp, by simp,
      fun hp => by simpa using hlog (by simpa using hp), ha.port⟩
  · refine congrArg Host.Outcome.next (emptyRequest_refused hport hl (why := (.wrongState, 0)) ?_ _)
    rcases hn with hn | hn <;> simp [pauseRefused, firstFailing, needConfigured, State.configured, hu, hn]

end Sys2Proof.Machine
end

section
/-!
PROOF. Kinds taken at once beside the work of a stage that begins or is entered again, and ACKNOWLEDGE.
-/
namespace Sys2Proof.Machine

/-! ## Work beside kinds taken at once (R168) -/

/-- The work of a stage goes on, is stopped by a kind of lower priority than `n`, or the stage has ended. -/
def Course (st : Stage) (r : RunState) (n : Nat) (s : State) : Prop :=
  Interruptible st r n s ∨ s.seq.stage = .none

/-- Kinds that stop interruptible work stand taken, whether they act before or after it (R25, R168, R170). -/
theorem besideKinds_halts {st : Stage} {r : RunState} {n : Nat} {k : FaultKind}
    {kinds work : State → State} {v : State} (hst : st ≠ .none) (hv : v.seq.stage = st)
    (hr : v.seq.runState = r) (ha : r ≠ .aborting)
    (hk : ∀ u, Interruptible st r n u → ∃ f, Halted st f (kinds u) ∧ f.kind = k)
    (hw : Course st r n (work v)) (hh : ∀ f u, Halted st f u → Halted st f (work u)) :
    ∃ f, Halted st f (besideKinds kinds work v) ∧ f.kind = k := by
  refine besideKinds_elim (p := fun t => ∃ f, Halted st f t ∧ f.kind = k) (fun hactive => ?_) ?_
    fun _ _ ⟨f, hf, e⟩ => ⟨f, hf.of_eq rfl rfl rfl, e⟩
  · have hlive := hactive (by simpa [State.stageActive, hv] using hst) (by rw [hr]; exact ha)
    rcases hw with hw | hn
    · exact hk _ hw
    · simp [State.stageActive, hn] at hlive
  · obtain ⟨f, hf, e⟩ := hk v ⟨hv, .inl hr⟩
    exact ⟨f, hh f _ hf, e⟩

/-- A request that leaves the work stopped, with the kind taken that the overload and stroke decisions would take, closes
so (R137, R138). -/
theorem Halted.answered {st : Stage} {f : TakenFault} {s t : State} (h : Halted st f t)
    (hf : SameField s t) (hl : s.drives.lower = false)
    (hk : s.watchQuiet = true ∨ f.kind = s.watchTaken) (code : Byte) (body : List Byte) :
    Halted st f (Machine.finish s (setReply code body 0 0 [] t)) := by
  have hreply : Halted st f (setReply code body 0 0 [] t) := h.of_eq rfl rfl rfl
  have hclose : SameField s { t with drives := .off } :=
    ⟨hf.reading, hf.gvCount, hf.gvOver, hf.entries, hf.lineQueue, hf.lineState, hf.port, hf.config, hf.mask⟩
  refine hreply.finish (hk.imp (fun hq => ?_) fun e => ?_)
  · exact hf.watchQuiet.trans hq
  · exact e.trans (hclose.watchTaken (by rw [hl]; rfl)).symm

/-- The answer's port after effects that leave the port. -/
theorem answered_port {s t : State} (h : t.port = s.port) (code : Byte) (body : List Byte) :
    (finish s (setReply code body 0 0 [] t)).port = (s.replied code body 0 0 []).port :=
  (finish_sameField s _).port.trans (setReply_port_of h _ _ _ _ _)

/-! ## The decisions of PAUSED (R114, R131) -/

/-- An unaware test leaves the work interruptible where both its actions do (R22). -/
theorem unaware_interruptible {st : Stage} {r : RunState} (hr : Working r) {d : Detail} {x : Test}
    {c : Condition} {f g : State → State} {s : State} (h : Interruptible st r 6 s)
    (hf : Interruptible st r 6 (f s)) (hg : ∀ u, Interruptible st r 6 u → Interruptible st r 6 (g u)) :
    Interruptible st r 6 (unaware d x c f g s) := by
  by_cases hc : c = .void
  · rw [hc]
    exact unaware_void_interruptible hr h hg
  · by_cases hx : x.holds c = true
    · rwa [unaware_true f g s hx]
    · rw [unaware_false f g s hc (by simpa using hx)]
      exact hg s h

theorem loadMaintenance_interruptible {st : Stage} {r : RunState} (hr : Working r) {s : State}
    (h : Interruptible st r 6 s) : Interruptible st r 6 (loadMaintenance s) := by
  unfold loadMaintenance
  split
  · split
    · exact unaware_interruptible hr h (h.of_eq rfl rfl rfl) fun _ hu => hu
    · exact unaware_interruptible hr h (h.of_eq rfl rfl rfl) fun _ hu => hu
  · exact h

/-- The volume decision stops the work at most with a kind of class maskable, or ends the stage (R114). -/
theorem volumeDecision_ends {st : Stage} {r : RunState} (hr : Working r) {s : State}
    (hst : s.standing = true) (h : Interruptible st r 6 s) : Course st r 6 (volumeDecision reach s) := by
  unfold volumeDecision
  split
  · rename_i rec _
    split
    · rename_i hif
      simp only [Bool.and_eq_true, beq_iff_eq] at hif
      obtain ⟨⟨hs, -⟩, -⟩ := hif
      by_cases hx : Test.reached.holds (compareNat (s.filtered .gv) rec.target 0) = true
      · rw [unaware_true _ _ s hx]
        have hw : Work s (endClaim claimByVolume (closeGrout s)) :=
          .after (endClaim_work _ _) (closeGrout_core s)
        have hs' : (endClaim claimByVolume (closeGrout s)).seq.stage = .grout := by simpa using hs
        have hp := State.pendingSound_of_standing (hw.standing hst)
        generalize endClaim claimByVolume (closeGrout s) = u at hs' hp ⊢
        by_cases hn : u.faults.pending = []
        · right
          rw [reach, reachWith_pass hn, proceed_stageEnd_grout false hs']
        · obtain ⟨f, hf, hprio⟩ := reachWith_pending (proceed chainBound) (.stageEnd false) hp hs' hn
          have hg : st = .grout := h.stage.symm.trans hs
          exact .inl (hg ▸ hf.interruptible r hprio)
      · refine .inl ?_
        by_cases hc : compareNat (s.filtered .gv) rec.target 0 = .void
        · rw [hc]
          exact unaware_void_interruptible hr h fun _ hu => hu
        · rw [unaware_false _ _ s hc (by simpa using hx)]
          exact h
    · exact .inl h
  · exact .inl h

theorem pausedDecisions_course {st : Stage} {r : RunState} (hr : Working r) {s : State}
    (hst : s.standing = true) (h : Interruptible st r 6 s) : Course st r 6 (pausedDecisions s) :=
  volumeDecision_ends hr ((loadMaintenance_work s).standing hst) (loadMaintenance_interruptible hr h)

/-- Once a fault has stopped the work the decisions of PAUSED are out of force. -/
theorem pausedDecisions_halted {st : Stage} {f : TakenFault} {s : State} (h : Halted st f s) :
    pausedDecisions s = s := by
  have hl : loadMaintenance s = s := by simp [loadMaintenance, h.run]
  rw [pausedDecisions, hl, h.not_grouting.2]

/-! ## Channels still lost at ACKNOWLEDGE (R46) -/

/-- CHANNEL_LOST of each of these channels, in any order. -/
def lossOf (l : List ChannelName) : State → State :=
  l.foldr (fun c rest => eitherOrder (detect .channelLost (.channel c)) rest) id

theorem lossAsked_eq (u s : State) : lossAsked u s = lossOf (ChannelName.all.filter u.standsLost) s := rfl

theorem lossOf_cons (c : ChannelName) (l : List ChannelName) :
    lossOf (c :: l) = eitherOrder (detect .channelLost (.channel c)) (lossOf l) := rfl

/-- A kind of no lower priority than CHANNEL_LOST stays taken (R170, R171). -/
theorem Halted.lossOf {st : Stage} {f : TakenFault} (hp : f.kind.priority ≤ 5) (l : List ChannelName) :
    ∀ {s : State}, Halted st f s → Halted st f (lossOf l s) := by
  induction l with
  | nil => exact fun h => h
  | cons c l ih =>
    intro s h
    rw [lossOf_cons]
    exact eitherOrder_elim (p := Halted st f) (ih (h.detect_lower _ (by decide) hp))
      ((ih h).detect_lower _ (by decide) hp) fun _ _ h => h.of_eq rfl rfl rfl

/-- CHANNEL_LOST of one channel or more stops the work (R46, R166). -/
theorem lossOf_halts {st : Stage} {r : RunState} (hr : Working r) (hst : st ≠ .none) {l : List ChannelName}
    (hl : l ≠ []) : ∀ {s : State}, Interruptible st r 5 s →
      ∃ f, Halted st f (lossOf l s) ∧ f.kind = .channelLost := by
  induction l with
  | nil => exact absurd rfl hl
  | cons c l ih =>
    intro s h
    have hdetect : ∀ u, Interruptible st r 5 u →
        ∃ f, Halted st f (detect .channelLost (.channel c) u) ∧ f.kind = .channelLost := fun u hu =>
      (detect_halts (k := .channelLost) (.channel c) hr hst hu rfl (by decide)).imp fun _ e => ⟨e.1, e.2.1⟩
    rw [lossOf_cons]
    refine eitherOrder_elim (p := fun t => ∃ f, Halted st f t ∧ f.kind = .channelLost) ?_ ?_
      fun _ _ ⟨f, hf, e⟩ => ⟨f, hf.of_eq rfl rfl rfl, e⟩
    · obtain ⟨f, hf, e⟩ := hdetect s h
      exact ⟨f, hf.lossOf (by rw [e]; decide) l, e⟩
    · by_cases hn : l = []
      · rw [hn]; exact hdetect s h
      · obtain ⟨f, hf, e⟩ := ih hn h
        exact ⟨f, hf.detect_lower _ (by decide) (e ▸ Nat.le_refl _), e⟩

theorem lossOf_work (l : List ChannelName) (s : State) : Work s (lossOf l s) := by
  induction l generalizing s with
  | nil => exact .refl s
  | cons c l ih => exact eitherOrder_all (fun _ => detect_work _ (by simp)) ih s

theorem lossOf_stage (l : List ChannelName) (s : State) : (lossOf l s).seq.stage = s.seq.stage := by
  induction l generalizing s with
  | nil => rfl
  | cons c l ih =>
    rw [lossOf_cons]
    exact eitherOrder_elim (p := fun t => t.seq.stage = s.seq.stage) (by rw [ih, detect_stage])
      (by rw [detect_stage, ih]) fun _ _ h => h

/-- CHANNEL_LOST of a channel is seen (R164). -/
theorem lossOf_seen {c : ChannelName} {l : List ChannelName} (hc : c ∈ l) {s : State}
    (hs : s.seq.stage ≠ .none) : .channelLost ∈ (lossOf l s).faults.seen := by
  induction l with
  | nil => cases hc
  | cons d l _ =>
    rw [lossOf_cons]
    refine eitherOrder_elim (p := fun t => .channelLost ∈ t.faults.seen) ?_ ?_ fun _ _ h => h
    · exact (lossOf_work l _).seen _ (detect_seen _ hs rfl (by decide))
    · exact detect_seen _ (by rw [lossOf_stage]; exact hs) rfl (by decide)

/-! ## ACKNOWLEDGE (R46) -/

/-- The kind that ACKNOWLEDGE takes again: overload or stroke, else the loss of a channel (R46, R172). -/
theorem acknowledgedKinds_halts {st : Stage} {r : RunState} {u : State} (hr : Working r) (hst : st ≠ .none)
    (hc : u.seq.config.isSome = true) (hl : u.drives.lower = false)
    (hk : u.watchQuiet = false ∨ ∃ c, u.standsLost c = true) {s : State} (h : Interruptible st r 6 s) :
    ∃ f, Halted st f (acknowledgedKinds u s) ∧
      f.kind = if u.watchQuiet = true then .channelLost else u.watchTaken := by
  by_cases hq : u.watchQuiet = true
  · obtain ⟨c, hcl⟩ := hk.resolve_left (by simp [hq])
    have hlist : ChannelName.all.filter u.standsLost ≠ [] :=
      List.ne_nil_of_mem (List.mem_filter.mpr ⟨by cases c <;> decide, hcl⟩)
    have hloss := lossOf_halts hr hst hlist (h.mono (by decide))
    have heq : acknowledgedKinds u s = lossAsked u s := by
      unfold acknowledgedKinds
      rw [eitherOrder_eq (by rw [watchAsked_quiet hq, watchAsked_quiet hq]), watchAsked_quiet hq]
    rw [if_pos hq, heq, lossAsked_eq]
    exact hloss
  · have hdue := State.due_of_not_quiet hc hl (by simpa using hq)
    have hprio : u.watchTaken.priority ≤ 3 := by unfold State.watchTaken; split <;> decide
    rw [if_neg hq]
    refine eitherOrder_elim (p := fun t => ∃ f, Halted st f t ∧ f.kind = u.watchTaken) ?_ ?_
      fun _ _ ⟨f, hf, e⟩ => ⟨f, hf.of_eq rfl rfl rfl, e⟩
    · obtain ⟨f, hf, e⟩ := watchAsked_halts hr hst (h.mono (by decide)) hdue
      exact ⟨f, hf.lossOf (by rw [e]; omega) _, e⟩
    · refine watchAsked_halts hr hst ?_ hdue
      rw [lossAsked_eq]
      by_cases hn : ChannelName.all.filter u.standsLost = []
      · rw [hn]; exact h.mono (by decide)
      · obtain ⟨f, hf, e⟩ := lossOf_halts hr hst hn (h.mono (by decide))
        exact hf.interruptible r (by rw [e]; decide)

/-- The station in PAUSED with its taken record cleared, before what is asked there (R46). -/
def acknowledgeEntered (s : State) : State := setRunState .paused (clearTaken s)

theorem acknowledged_eq (s : State) : acknowledged s =
    besideKinds (acknowledgedKinds (acknowledgeEntered s)) pausedDecisions (acknowledgeEntered s) := rfl

theorem acknowledgeEntered_sameField (s : State) : SameField s (acknowledgeEntered s) := by
  constructor <;> intros <;> rfl

theorem acknowledged_work (s : State) : Work (acknowledgeEntered s) (acknowledged s) :=
  besideKinds_work (acknowledgedKinds_work _) pausedDecisions_work _

theorem acknowledgeEntered_standing {s : State} (h : s.standing = true) (hs : s.seq.stage ≠ .none) :
    (acknowledgeEntered s).standing = true :=
  standing_of_run h hs (.inr rfl) rfl rfl rfl

theorem execAcknowledge_accepted {s : State} (hp : s.portFree = true) (hr : s.seq.runState = .faulted) :
    exec (.acknowledge []) s = .next (finish s (setReply codeAcknowledge [] 0 0 [] (acknowledged s))) :=
  congrArg Host.Outcome.next (emptyRequest_accepted hp
    (by simp [acknowledgeRefused, firstFailing, needConfigured, State.configured, noBody, hr]) _)

/-- ACKNOWLEDGE with a kind still standing: it is taken again at once (R46, R137, R138). -/
theorem acknowledge_halted {s : State} (hl : s.drives = .off) (hr : s.seq.runState = .faulted)
    (hst : s.standing = true) (hs : s.seq.stage ≠ .none)
    (hk : s.watchQuiet = false ∨ ∃ c, s.lostInPaused c = true) :
    ∃ f, Halted s.seq.stage f (finish s (setReply codeAcknowledge [] 0 0 [] (acknowledged s))) ∧
      f.kind = if s.watchQuiet = true then .channelLost else s.watchTaken := by
  have hf := acknowledgeEntered_sameField s
  have hvs := acknowledgeEntered_standing hst hs
  have hcfg : s.seq.config.isSome = true := State.config_isSome hst (by simp [hr])
  have hw : ∀ u : State, Interruptible s.seq.stage .paused 6 u →
      ∃ f, Halted s.seq.stage f (acknowledgedKinds (acknowledgeEntered s) u) ∧
        f.kind = if s.watchQuiet = true then .channelLost else s.watchTaken := fun u hu => by
    have h := acknowledgedKinds_halts (u := acknowledgeEntered s) (.inr (.inl rfl)) hs hcfg
      (congrArg Drives.lower hl) hk hu
    rwa [hf.watchQuiet, hf.watchTaken rfl] at h
  obtain ⟨f, hh, e⟩ := besideKinds_halts (v := acknowledgeEntered s) (r := .paused) hs rfl rfl (by decide) hw
    (pausedDecisions_course (.inr (.inl rfl)) hvs ⟨rfl, .inl rfl⟩)
    fun g u hu => by rw [pausedDecisions_halted hu]; exact hu
  rw [← acknowledged_eq] at hh
  refine ⟨f, hh.answered (hf.trans (acknowledged_work s).sameField) (congrArg Drives.lower hl) ?_ _ _, e⟩
  by_cases hq : s.watchQuiet = true
  · exact .inl hq
  · exact .inr (by rw [e, if_neg hq])

@[simp] theorem detectIf_stage (asked : Bool) (k : FaultKind) (d : Detail) (s : State) :
    (detectIf asked k d s).seq.stage = s.seq.stage :=
  detectIf_elim (p := fun t => t.seq.stage = s.seq.stage) (fun _ => rfl) fun _ => detect_stage k d s

@[simp] theorem watchAsked_stage (u s : State) : (watchAsked u s).seq.stage = s.seq.stage :=
  eitherOrder_elim (p := fun t => t.seq.stage = s.seq.stage) (by simp) (by simp) fun _ _ h => h

theorem acknowledgedKinds_seen {u s : State} {c : ChannelName} (hs : s.seq.stage ≠ .none)
    (hc : u.standsLost c = true) : .channelLost ∈ (acknowledgedKinds u s).faults.seen := by
  have hmem : c ∈ ChannelName.all.filter u.standsLost := List.mem_filter.mpr ⟨by cases c <;> decide, hc⟩
  refine eitherOrder_elim (p := fun t => .channelLost ∈ t.faults.seen) ?_ ?_ fun _ _ h => h
  · exact lossOf_seen hmem (by rw [watchAsked_stage]; exact hs)
  · exact (watchAsked_work u _).seen _ (lossOf_seen hmem hs)

/-- A channel still lost is seen lost again at ACKNOWLEDGE (R46, R164). -/
theorem acknowledge_seen {s : State} {c : ChannelName} (hs : s.seq.stage ≠ .none)
    (hc : s.lostInPaused c = true) : .channelLost ∈ (acknowledged s).faults.seen := by
  rw [acknowledged_eq]
  refine besideKinds_elim (p := fun t => .channelLost ∈ t.faults.seen) (fun hactive => ?_) ?_ fun _ _ h => h
  · have hlive := hactive (by simpa [State.stageActive, acknowledgeEntered] using hs) (by simp [acknowledgeEntered])
    exact acknowledgedKinds_seen (by simpa [State.stageActive] using hlive) hc
  · exact (pausedDecisions_work _).seen _ (acknowledgedKinds_seen hs hc)

/-- ACKNOWLEDGE with nothing standing leaves the work as it was (R46). -/
theorem acknowledged_quiet {s : State} (hw : s.watchQuiet = true) (hp : s.pausedQuiet = true)
    (hn : s.noneLost = true) : acknowledged s = acknowledgeEntered s := by
  have hf := acknowledgeEntered_sameField s
  have hloss : ∀ v, lossAsked (acknowledgeEntered s) v = v := lossAsked_none fun c => by
    have hc := List.all_eq_true.mp hn c (by cases c <;> decide)
    exact (Bool.not_eq_true' _).mp hc
  have hwatch : ∀ v, watchAsked (acknowledgeEntered s) v = v := watchAsked_quiet (hf.watchQuiet.trans hw)
  have hkinds : ∀ v, acknowledgedKinds (acknowledgeEntered s) v = v := fun v => by
    rw [acknowledgedKinds, eitherOrder_eq (by rw [hloss, hwatch, hloss, hwatch]), hloss, hwatch]
  rw [acknowledged_eq, besideKinds_quiet hkinds,
    pausedDecisions_quiet ((hf.pausedQuiet rfl rfl rfl).trans hp)]

/-- Settles O35: what still stands is taken again (`acknowledge_halted`); else the work is held as it stood. -/
theorem acknowledgeGivesPaused : Obligations.AcknowledgeGivesPaused := by
  intro c s hport hl
  have hoff : s.seq.runState = .faulted → s.drives = .off := fun hr =>
    State.drives_off hl (by simp [hr]) (by simp [hr]) (by simp [hr])
  refine ⟨fun hr hst hs hw => ?_, fun hr hst hc => ?_, fun hr hs hw hp hn => ?_, fun hu hr => ?_⟩
  · obtain ⟨f, hf, e⟩ := acknowledge_halted (hoff hr) hr hst hs (.inl hw)
    refine ⟨_, execAcknowledge_accepted hport hr, hf.stage, hf.run, finish_halted_drives hf, ?_⟩
    rw [hf.taken, Option.map_some, e, hw, if_neg (by decide)]
  · have hs : s.seq.stage ≠ .none := by
      simp only [State.lostInPaused, State.standsLost, Bool.and_eq_true] at hc
      exact (State.needed_working hc.2).2
    obtain ⟨f, hf, e⟩ := acknowledge_halted (hoff hr) hr hst hs (.inr ⟨c, hc⟩)
    refine ⟨_, execAcknowledge_accepted hport hr, hf.stage, hf.run, finish_halted_drives hf,
      finish_seen (acknowledge_seen hs hc), ?_⟩
    rw [hf.taken, Option.map_some, e]
  · have hf := acknowledgeEntered_sameField s
    have ha : Answered s codeAcknowledge [] (acknowledgeEntered s) _ :=
      answered_quiet (State.drivesLegal_of_off (hoff hr)) (hf.watchQuiet.trans hw) rfl
    refine ⟨_, execAcknowledge_accepted hport hr, ?_⟩
    rw [acknowledged_quiet hw hp hn]
    exact ⟨ha.seq, ha.faults, ha.drives.trans (hoff hr), ha.jack, ha.grout, ha.winch, ha.eval, ha.log, ha.port⟩
  · exact congrArg Host.Outcome.next (emptyRequest_refused hport hl (why := (.wrongState, 0))
      (by simp [acknowledgeRefused, firstFailing, needConfigured, State.configured, hu, hr]) _)

end Sys2Proof.Machine
end

section
/-!
PROOF. START_WINCH: the stage as it opens, the winch decisions beside an overload or a stroke, and the close.
-/
namespace Sys2Proof.Machine

/-! ## A stage begun, seen through the close of its request (R34, R35) -/

/-- An accepted stage request begins its stage and forms its reply (R34, R35). -/
theorem stageRequest_accepted {g : Stage} {body : List Byte} {s : State} {refusal : Option Refused}
    {cured : Bool} (hp : s.portFree = true) (hb : body.length ≤ 60)
    (hr : refusal = stageRefused (progressBefore g) cured (stageFields g body s) s)
    (hc : cured = true ↔ ¬ (g = .stress ∧ s.seq.cure.hours < s.cfg Setup.cureTime 0))
    (h : (stageOutcome g body s).1 = 0) (code : Byte) (t : State) :
    secure s (frameArrives code body (verdict refusal t []) s) = finish s (setReply code body 0 0 [] t) := by
  have hn : refusal = none := by
    rw [stageOutcome_eq hc, ← hr] at h
    cases refusal with
    | none => rfl
    | some why => exact absurd h (Reason.code_ne_zero why.1)
  rw [hn]
  exact request_accepted hp hb t []

/-- A stage that a kind stops as it begins stays at its place in the progress (R36, R50). -/
theorem halted_progress {st : Stage} {f : TakenFault} {s v t : State} {code : Byte} {body : List Byte}
    (hst : st ≠ .none) (hv : v.standing = true) (hw : Work v t) (h : Halted st f t)
    (hfin : Halted st f (finish s (setReply code body 0 0 [] t))) :
    (finish s (setReply code body 0 0 [] t)).seq.progress = v.seq.progress := by
  have hreply : (setReply code body 0 0 [] t).seq = t.seq := rfl
  refine (finish_progress (t := setReply code body 0 0 [] t) (hw.standing hv)
    (by rw [hfin.stage, hreply, h.stage])).trans ?_
  rcases hw.stage hv with ⟨-, e⟩ | ⟨-, e, -⟩
  · exact e
  · exact absurd (h.stage.symm.trans e) hst

/-! ## The winch decisions (R102 to R104) -/

theorem State.winching_iff {s : State} :
    s.winching = true ↔ s.seq.stage = .winch ∧ s.seq.runState = .running := by
  simp [State.winching]

/-- Outside RUNNING the winch length is not asked (R103). -/
theorem lengthDecision_other {reach : Boundary → State → State} {s : State} (h : s.winching = false) :
    lengthDecision reach s = s := by
  unfold lengthDecision
  split <;> simp [h]

/-- Once a fault has stopped the work the winch decisions are out of force. -/
theorem winchDecisions_halted {st : Stage} {f : TakenFault} {s : State} (h : Halted st f s) :
    winchDecisions reach s = s := by
  have hw : s.winching = false := by simp [State.winching, h.run]
  have hs : s.snagged = false := by unfold State.snagged; split <;> simp [hw]
  unfold winchDecisions
  rw [besideKinds_quiet (fun u => by simp [snagAsked, hs]), lengthDecision_other hw]

/-- The end of a winch stage leaves none (R36, R103). -/
theorem proceed_stageEnd_winch (r : Bool) {s : State} (h : s.seq.stage = .winch) :
    (proceed chainBound (.stageEnd r) s).seq.stage = .none := by
  have hp : proceed chainBound (.stageEnd r) s = endStage r { s with seq := { s.seq with held := none } } := rfl
  rw [hp]
  simp [endStage, h, Sequencer.stageLess]

theorem winchOn_interruptible {st : Stage} {r : RunState} {n : Nat} {s : State}
    (h : Interruptible st r n s) : Interruptible st r n (winchOn s) := by
  unfold winchOn
  split
  · exact h
  · exact h.of_eq rfl rfl rfl

/-- The winch length leaves the work going on, stopped by a kind of class maskable, or ended (R103). -/
theorem lengthDecision_course {s : State} (hst : s.standing = true) (h : Interruptible .winch .running 6 s) :
    Course .winch .running 6 (lengthDecision reach s) := by
  unfold lengthDecision
  split
  · rename_i w _
    split
    · by_cases hx : Test.reached.holds (compareNat (s.filtered .wl) w.target 0) = true
      · rw [unaware_true _ _ s hx]
        have hp := State.pendingSound_of_standing hst
        by_cases hn : s.faults.pending = []
        · right
          rw [reach, reachWith_pass (by simpa using hn), proceed_stageEnd_winch false (by simpa using h.stage)]
        · obtain ⟨f, hf, hprio⟩ := reachWith_pending (proceed chainBound) (.stageEnd false)
            (s := updateWinch (fun w => { w with installed := s.filtered .wl }) (winchOff s)) hp h.stage hn
          exact .inl (hf.interruptible _ hprio)
      · refine .inl ?_
        by_cases hc : compareNat (s.filtered .wl) w.target 0 = .void
        · rw [hc]
          exact unaware_void_interruptible (.inl rfl) h fun _ hu => winchOn_interruptible hu
        · rw [unaware_false _ _ s hc (by simpa using hx)]
          exact winchOn_interruptible h
    · exact .inl h
  · exact .inl h

/-- A snag stops the work (R104, R166). -/
theorem snagAsked_cases (u : State) {s : State} (h : Interruptible .winch .running 6 s) :
    snagAsked u s = s ∨ ∃ f, Halted .winch f (snagAsked u s) ∧ f.kind = .winchSnag := by
  unfold snagAsked
  split
  · exact .inr ((detect_halts (k := .winchSnag) .tension (.inl rfl) (by decide)
      (s := winchOff s) (h.of_eq rfl rfl rfl) rfl (by decide)).imp fun _ e => ⟨e.1, e.2.1⟩)
  · exact .inl rfl

/-- The winch decisions leave the work to an overload or a stroke, or the stage has ended (R102, R168). -/
theorem winchDecisions_course {s : State} (hst : s.standing = true) (hs : s.seq.stage = .winch)
    (hr : s.seq.runState = .running) : Course .winch .running 5 (winchDecisions reach s) := by
  have hi : Interruptible .winch .running 6 s := ⟨hs, .inl hr⟩
  have hsnag : ∀ u, Interruptible .winch .running 6 u → Interruptible .winch .running 5 (snagAsked s u) := by
    intro u hu
    rcases snagAsked_cases s hu with e | ⟨f, hf, e⟩
    · rw [e]; exact hu.mono (by decide)
    · exact hf.interruptible _ (by rw [e]; decide)
  refine besideKinds_elim (p := Course .winch .running 5) (fun hactive => ?_) ?_
    fun _ _ h => h.imp (·.of_eq rfl rfl rfl) id
  · have hlive := hactive (by simp [State.stageActive, hs]) (by simp [hr])
    rcases lengthDecision_course hst hi with hc | hn
    · exact .inl (hsnag _ hc)
    · simp [State.stageActive, hn] at hlive
  · rcases snagAsked_cases s hi with e | ⟨f, hf, e⟩
    · rw [e]
      exact (lengthDecision_course hst hi).imp (·.mono (by decide)) id
    · rw [lengthDecision_other (by simp [State.winching, hf.run])]
      exact .inl (hf.interruptible _ (by rw [e]; decide))

/-! ## The stage as START_WINCH opens it (R35, R102) -/

/-- The stage opened: the record formed, the clock at 0, STAGE_START in the log. -/
theorem winchOpened_eq (b : List Byte) (s : State) :
    winchOpened b s =
      { s with
        seq := { s.seq with stage := .winch, runState := .running, jobClock := 0, jobHalf := false }
        winch := some (winchRecordOf b)
        log :=
          appendRecord s.log
            { field := none, time := 0, event := some (.stageStart, 1), gap := false, refilled := false } } :=
  rfl

theorem winchOpened_sameField (b : List Byte) (s : State) : SameField s (winchOpened b s) := by
  constructor <;> intros <;> rfl

theorem winchOpened_standing {b : List Byte} {s : State} (h : s.standing = true)
    (hr : s.seq.runState = .idle) (hp : s.seq.progress = .none) : (winchOpened b s).standing = true :=
  standing_of_started h (g := .winch) (by decide) hr hp rfl rfl

theorem winchStarted_work (b : List Byte) (s : State) : Work (winchOpened b s) (winchStarted b s) :=
  besideKinds_work (watchAsked_work _) (winchDecisions_work reach_work) _

theorem winchStarted_sameField (b : List Byte) (s : State) : SameField s (winchStarted b s) :=
  (winchOpened_sameField b s).trans (winchStarted_work b s).sameField

/-- START_WINCH with an overload or a stroke standing (R137, R138, R168). -/
theorem startWinch_halted {body : List Byte} {s : State} (hoff : s.drives = .off)
    (hcfg : s.seq.config.isSome = true) (hr : s.seq.runState = .idle) (hp : s.seq.progress = .none)
    (hst : s.standing = true) (hw : s.watchQuiet = false) :
    ∃ f, Halted .winch f (finish s (setReply codeStartWinch body 0 0 [] (winchStarted body s))) ∧
      f.kind = s.watchTaken ∧
      (finish s (setReply codeStartWinch body 0 0 [] (winchStarted body s))).seq.progress = s.seq.progress ∧
      (finish s (setReply codeStartWinch body 0 0 [] (winchStarted body s))).port =
        (s.replied codeStartWinch body 0 0 []).port := by
  have hf := winchOpened_sameField body s
  have hopen := winchOpened_standing (b := body) hst hr hp
  have hlower : s.drives.lower = false := congrArg Drives.lower hoff
  have hdue := State.due_of_not_quiet (s := winchOpened body s) hcfg hlower (hf.watchQuiet.trans hw)
  obtain ⟨f, hh, e⟩ := besideKinds_halts (v := winchOpened body s) (st := .winch) (r := .running) (n := 5)
    (by decide) rfl rfl (by decide) (fun u hu => watchAsked_halts (.inl rfl) (by decide) (hu.mono (by decide)) hdue)
    (winchDecisions_course hopen rfl rfl) fun g u hu => by rw [winchDecisions_halted hu]; exact hu
  have hwork := winchStarted_work body s
  have hkind : f.kind = s.watchTaken := e.trans (hf.watchTaken rfl)
  have hfin := Halted.answered (t := winchStarted body s) hh (hf.trans hwork.sameField) hlower (.inr hkind)
    codeStartWinch body
  exact ⟨f, hfin, hkind, halted_progress (v := winchOpened body s) (by decide) hopen hwork hh hfin,
    answered_port (hwork.port.trans hf.port) _ _⟩

/-! ## The stage with nothing due (R102, R103) -/

/-- Where the snag decision gives false the winch length decides alone (R102, R104). -/
theorem winchDecisions_clear {s : State} {w : WinchRecord} (hw : s.winch = some w)
    (hx : Test.overTest.holds (compareNat (s.filtered .wt) w.snag 0) = false) :
    winchDecisions reach s = lengthDecision reach s := by
  have hs : s.snagged = false := by simp [State.snagged, hw, hx]
  exact besideKinds_quiet (fun u => by simp [snagAsked, hs]) s

/-- A length short of the target turns the drive on (R103, R105). -/
theorem lengthDecision_short {s : State} {w : WinchRecord} (hw : s.winch = some w) (hs : s.winching = true)
    (hx : Test.short.holds (compareNat (s.filtered .wl) w.target 0) = true) :
    lengthDecision reach s = winchOn s := by
  obtain ⟨hc, hx'⟩ := Test.reached_of_short hx
  simp only [lengthDecision, hw, hs, if_true]
  exact unaware_false _ _ s hc hx'

/-- A turning on takes the filtered length as its stall reference (R105). -/
theorem winchOn_shut {s : State} {w : WinchRecord} {v : Option Nat} (hd : s.drives = .off) (hw : s.winch = some w)
    (hv : s.filtered .wl = v) :
    winchOn s =
      { s with
        drives := { Drives.off with winch := true }
        winch := some { w with stallRef := v, stallTimer := 0 } } := by
  subst hv
  unfold winchOn
  rw [hd, if_neg (by decide), updateWinch, hw]
  rfl

/-- The stage with the drive turned on at length `v` (R103, R105). -/
def winchDriven (b : List Byte) (v : Nat) (s : State) : State :=
  { winchOpened b s with
    drives := { Drives.off with winch := true }
    winch := some { winchRecordOf b with stallRef := some v, stallTimer := 0 } }

/-- A length at the target is the end of the stage (R103). -/
theorem lengthDecision_reached {s : State} {w : WinchRecord} {v : Nat} (hw : s.winch = some w)
    (hs : s.winching = true) (hv : s.filtered .wl = some v) (hl : w.target ≤ v)
    (hp : s.faults.pending = []) :
    lengthDecision reach s =
      proceed chainBound (.stageEnd false) (updateWinch (fun w => { w with installed := some v }) (winchOff s)) := by
  have hx : Test.reached.holds (compareNat (s.filtered .wl) w.target 0) = true := by
    rw [hv, compareNat_some, if_neg (Nat.not_lt.mpr hl)]; split <;> rfl
  simp only [lengthDecision, hw, hs, if_true]
  rw [unaware_true _ _ s hx, reach, reachWith_pass (by simpa using hp), hv]

/-- The end of a winch stage, whatever boundary was held: WINCHED, its record complete, the drive off (R36, R103). -/
theorem proceed_stageEnd_winch_fields (r : Bool) {s : State} (h : s.seq.stage = .winch) :
    (proceed chainBound (.stageEnd r) s).seq = { s.seq.stageLess with progress := .winched } ∧
    (proceed chainBound (.stageEnd r) s).winch = s.winch.map (fun w => { w with outcome := .complete }) ∧
    (proceed chainBound (.stageEnd r) s).drives = { s.drives with winch := false } ∧
    (proceed chainBound (.stageEnd r) s).faults = s.faults := by
  have hp : proceed chainBound (.stageEnd r) s = endStage r { s with seq := { s.seq with held := none } } := rfl
  rw [hp]
  refine ⟨?_, ?_, ?_, ?_⟩ <;> simp [endStage, h, Sequencer.stageLess]

theorem winchRefusal_length {b : List Byte} (h : winchRefusal b = none) : b.length = 5 := by
  unfold winchRefusal at h
  split at h
  · simp at h
  · rename_i hb; simpa using hb

theorem execStartWinch_accepted {body : List Byte} {s : State} (hp : s.portFree = true)
    (h : (stageOutcome .winch body s).1 = 0) :
    exec (.startWinch body) s =
      .next (finish s (setReply codeStartWinch body 0 0 [] (winchStarted body s))) := by
  obtain ⟨-, -, -, -, -, hf⟩ := stageOutcome_accepted h
  have hb : body.length ≤ 60 := by rw [winchRefusal_length hf]; decide
  exact congrArg Host.Outcome.next
    (stageRequest_accepted (g := .winch) (cured := true) hp hb rfl (by simp) h codeStartWinch _)

/-- Settles O27: `startWinch_halted` where an overload or a stroke stands, and else the winch length decides. -/
theorem startWinchBeginsTheStage : Obligations.StartWinchBeginsTheStage := by
  intro body v w s hport hl hcfg haccept
  obtain ⟨hr, -, hprog, -, -, -⟩ := stageOutcome_accepted haccept
  have hoff : s.drives = .off := State.drives_off hl (by simp [hr]) (by simp [hr]) (by simp [hr])
  have hf := winchOpened_sameField body s
  refine ⟨fun hst hw => ?_, fun hq hwl hwt hsnag => ?_⟩
  · obtain ⟨f, hh, hk, hpr, hpt⟩ := startWinch_halted (body := body) hoff hcfg hr hprog hst hw
    exact ⟨_, execStartWinch_accepted hport haccept, hh.stage, hh.run, hpr, finish_halted_drives hh,
      by simp [hh.taken, hk], hpt⟩
  · have hclear : Test.overTest.holds (compareNat ((winchOpened body s).filtered .wt) (fieldAt body 3 2) 0) = false := by
      rw [hf.filtered, hwt, compareNat_some]
      split
      · rfl
      · rw [if_neg (Nat.not_lt.mpr hsnag)]; rfl
    have hstart : winchStarted body s = lengthDecision reach (winchOpened body s) := by
      rw [winchStarted_eq, beginWork_quiet (hf.watchQuiet.trans hq),
        winchDecisions_clear (w := winchRecordOf body) rfl hclear]
    have hv := (hf.filtered .wl).trans hwl
    refine ⟨fun hlt => ⟨_, execStartWinch_accepted hport haccept, ?_⟩, fun hle hp =>
      ⟨_, execStartWinch_accepted hport haccept, ?_⟩⟩
    · have hon : winchStarted body s = winchDriven body v s := by
        rw [hstart, lengthDecision_short (w := winchRecordOf body) rfl rfl (by
          rw [hv, compareNat_some, winchRecordOf, if_pos hlt]; rfl)]
        exact winchOn_shut hoff rfl hv
      have ha : Answered s codeStartWinch body (winchDriven body v s) _ :=
        answered_quiet (by simp [State.drivesLegal, State.winchAllowed, winchDriven, winchOpened_eq, Drives.off]) hq rfl
      rw [hon, ha.seq, ha.winch, ha.drives, ha.faults, ha.log, ha.entries, ha.chans, ha.contacts]
      exact ⟨rfl, rfl, rfl, rfl, rfl, rfl, rfl, rfl, ha.port⟩
    · have hend := hstart.trans (lengthDecision_reached (w := winchRecordOf body) rfl rfl hv hle hp)
      obtain ⟨hseq, hwinch, hdr, -⟩ := proceed_stageEnd_winch_fields false
        (s := updateWinch (fun w => { w with installed := some v }) (winchOff (winchOpened body s))) rfl
      rw [← hend] at hseq hwinch hdr
      have hdr' : (winchStarted body s).drives = .off := by rw [hdr]; simp [winchOpened_eq, hoff, Drives.off]
      have ha : Answered s codeStartWinch body (winchStarted body s) _ :=
        answered_quiet (State.drivesLegal_of_off hdr')
          ((winchStarted_sameField body s).watchQuiet.trans hq) (winchStarted_sameField body s).port
      rw [ha.seq, ha.winch, ha.drives, hseq, hwinch]
      exact ⟨rfl, rfl, rfl, rfl, hdr', ha.port⟩

end Sys2Proof.Machine
end

section
/-!
PROOF. The raise gate and the start of a LOAD step with nothing due, and START_STRESS.
-/
namespace Sys2Proof.Machine

/-! ## The raise gate with nothing due (R85) -/

/-- The raise conditions read the entries, the configuration, the filtered LOAD, the step target and the run state (R85). -/
theorem raiseConditions_congr {s t : State} (h : SameField s t) (hr : t.seq.runState = s.seq.runState)
    (hj : t.jack.schedule = s.jack.schedule) (hi : t.jack.stepIndex = s.jack.stepIndex) :
    t.raiseConditions = s.raiseConditions := by
  have hcfg : ∀ {α : Type} (f : Setup → α) (d : α), t.cfg f d = s.cfg f d := fun f d => by
    simp only [State.cfg, h.config]
  have hspan : t.inSpan = s.inSpan := funext fun e => by
    simp only [State.inSpan, State.bayDistance, hcfg]; rfl
  have hblocks : ∀ e, (t.imbalanceClear e = s.imbalanceClear e) ∧ (t.pendingFirst e = s.pendingFirst e) :=
    fun e => by
      simp only [State.imbalanceClear, State.pendingFirst, State.entryPrecedes, State.stepTarget,
        State.currentStep, hcfg, hj, hi, h.filtered, and_self]
  simp only [State.raiseConditions, State.spanEntries, hspan, h.entries, hr, fun e => (hblocks e).1,
    fun e => (hblocks e).2]

/-- From `s` to `t` the raise gate has been evaluated in RAISE_WAIT with nothing pending: the intent stands exactly where its
conditions hold, and then nothing is held; the rest of the work stays (R85). -/
structure Gated (s t : State) : Prop where
  field : SameField s t
  seq : t.seq = { s.seq with held := t.seq.held }
  held : s.seq.held = none → t.seq.held = none
  jack : t.jack = { s.jack with phase := if t.raiseConditions = true then .raiseIntent else .raiseWait }
  drives : t.drives = s.drives
  faults : t.faults = s.faults
  eval : t.eval = s.eval
  grout : t.grout = s.grout
  contacts : t.contacts = s.contacts
  gateTimer : t.table.gateTimer = s.table.gateTimer

/-- The raise gate passes into RAISE_INTENT (R85). -/
theorem proceed_raiseWaitEnd (n : Nat) (s : State) :
    proceed (n + 1) .raiseWaitEnd s =
      { setStepPhase .raiseIntent { s with seq := { s.seq with held := none } } with
        table :=
          { (setStepPhase .raiseIntent { s with seq := { s.seq with held := none } }).table with
            raiseTicks := 0 } } := rfl

theorem raiseGate_gated (n : Nat) {s : State} (hs : s.seq.stage = .stress) (hp : s.jack.phase = .raiseWait)
    (ha : s.jack.approach ≠ .pending) (hn : s.faults.pending = []) :
    Gated s (raiseGate (reachWith (proceed (n + 1))) s) := by
  unfold raiseGate
  by_cases hc : s.raiseConditions = true
  · rw [if_pos (by simp [hs, hp, ha, hc]), reachWith_pass hn, proceed_raiseWaitEnd]
    have hw := (setStepPhase_work .raiseIntent { s with seq := { s.seq with held := none } }).sameField
    have hf : SameField s (setStepPhase .raiseIntent { s with seq := { s.seq with held := none } }) :=
      ⟨hw.reading, hw.gvCount, hw.gvOver, hw.entries, hw.lineQueue, hw.lineState, hw.port, hw.config, hw.mask⟩
    have hrc := raiseConditions_congr hf (by simp) (by simp) (by simp)
    refine ⟨⟨hf.reading, hf.gvCount, hf.gvOver, hf.entries, hf.lineQueue, hf.lineState, hf.port, hf.config,
      hf.mask⟩, by simp, fun _ => by simp, ?_, by simp, by simp, by simp, by simp, by simp, by simp⟩
    rw [if_pos (by exact hrc.trans hc)]
    simp
  · rw [if_neg (by simp [hc])]
    exact ⟨.refl s, rfl, id, by rw [if_neg hc, ← hp], rfl, rfl, rfl, rfl, rfl, rfl⟩

/-! ## A LOAD step begins (R124, R146) -/

/-- The step has begun: its index, STEP_START and its entry (R124, R146). -/
def stepOpened (i : Nat) (x : ScheduleStep) (s : State) : State :=
  let t := logEvent .stepStart i { s with jack := { s.jack with stepIndex := i, approach := .none } }
  { t with eval := { t.eval with results := t.eval.results ++ [StepEntry.opened i x] } }

/-- The step has begun and stands in RAISE_WAIT, before its gate (R124). -/
def stepEntered (i : Nat) (x : ScheduleStep) (s : State) : State :=
  resetGateTimer (setStepPhase .raiseWait (stepOpened i x s))

theorem beginStep_load {reach : Boundary → State → State} {i : Nat} {x : ScheduleStep} {s : State}
    (hx : s.jack.schedule[i]? = some x) (hk : x.kind = .load) :
    beginStep reach (i + 1) s = raiseGate reach (stepEntered (i + 1) x s) := by
  have hc : (logEvent .stepStart (i + 1)
      { s with jack := { s.jack with stepIndex := i + 1, approach := .none } }).currentStep = some x := by
    simp [State.currentStep, hx]
  unfold beginStep
  dsimp only
  rw [hc]
  simp only [hk]
  rfl

/-- What the beginning of a step leaves (R124, R146). -/
theorem stepEntered_fields (i : Nat) (x : ScheduleStep) (s : State) :
    (stepEntered i x s).seq = s.seq ∧
    (stepEntered i x s).jack = { s.jack with stepIndex := i, approach := .none, phase := .raiseWait } ∧
    (stepEntered i x s).drives = s.drives ∧ (stepEntered i x s).faults = s.faults ∧
    (stepEntered i x s).eval = { s.eval with results := s.eval.results ++ [StepEntry.opened i x] } ∧
    (stepEntered i x s).contacts = s.contacts ∧ (stepEntered i x s).table.gateTimer = 0 := by
  simp [stepEntered, stepOpened]

theorem stepEntered_work (i : Nat) (x : ScheduleStep) (s : State) : Work s (stepEntered i x s) := by
  have hlog : Work s (logEvent .stepStart i { s with jack := { s.jack with stepIndex := i, approach := .none } }) :=
    .after (logEvent_work _ _ _) rfl
  have hopen : Work s (stepOpened i x s) := hlog.thenQuiet rfl
  exact (hopen.trans (setStepPhase_work .raiseWait _)).thenQuiet rfl

/-! ## The schedule that START_STRESS stores (R121, R122) -/

/-- An accepted schedule has a first step, a LOAD step, and its body has the length of its steps. -/
theorem stressRefusal_none {limit : Nat} {b : List Byte} (h : stressRefusal limit b = none) :
    b.length ≤ 60 ∧ (scheduleOf b)[0]? = some (stepOf b 0) ∧ (stepOf b 0).kind = .load := by
  unfold stressRefusal at h
  split at h
  · cases h
  · split at h
    · cases h
    · rename_i hn
      split at h
      · cases h
      · rename_i hlen
        simp only [within, Bool.not_eq_true', Bool.not_eq_false, Bool.and_eq_true, decide_eq_true_eq] at hn
        simp only [ne_eq, not_not] at hlen
        have hfirst : (scheduleOf b)[0]? = some (stepOf b 0) := by
          simp [scheduleOf, Nat.lt_of_lt_of_le Nat.zero_lt_one hn.1]
        split at h
        · cases h
        · refine ⟨by omega, hfirst, ?_⟩
          obtain ⟨rest, hrest⟩ : ∃ rest, scheduleOf b = stepOf b 0 :: rest := by
            cases hl : scheduleOf b with
            | nil => simp [hl] at hfirst
            | cons x rest => exact ⟨rest, by simpa [hl] using hfirst⟩
          rw [hrest] at h
          have hc := firstFailing_eq_none.mp h _ (List.mem_append_left _ (List.mem_cons_self))
          simp only [List.length_nil] at hc
          simp at hc
          exact hc.1.1

/-! ## The stage as START_STRESS opens it (R35, R123, R124, R145) -/

/-- The stage opened, in step 1, which waits at the raise gate. -/
def stressEntered (b : List Byte) (s : State) : State := stepEntered 1 (stepOf b 0) (stressOpened b s)

/-- START_STRESS opens the stage in step 1 and evaluates its gate, beside overload and stroke (R35, R124). -/
theorem stressStarted_entered {limit : Nat} {b : List Byte} (h : stressRefusal limit b = none) (s : State) :
    stressStarted b s = beginWork (raiseGate reach) (stressEntered b s) := by
  obtain ⟨-, hfirst, hkind⟩ := stressRefusal_none h
  have hx : (stressOpened b s).jack.schedule[0]? = some (stepOf b 0) := by
    simpa [stressOpened, startStage] using hfirst
  have hgate : ∀ u, raiseGate (fun _ s => s) u = u := fun u => by unfold raiseGate; split <;> rfl
  rw [stressStarted_eq, beginStep_load hx hkind, hgate]
  rfl

theorem stressEntered_fields (b : List Byte) (s : State) :
    (stressEntered b s).seq =
      { s.seq with stage := .stress, runState := .running, jobClock := 0, jobHalf := false } ∧
    (stressEntered b s).jack =
      { s.jack.stageLess with schedule := scheduleOf b, datum := none, stepIndex := 1, phase := .raiseWait } ∧
    (stressEntered b s).drives = s.drives ∧ (stressEntered b s).faults = s.faults ∧
    (stressEntered b s).eval =
      { results := [StepEntry.opened 1 (stepOf b 0)]
        summary := { JobSummary.cleared with jobStatus := .running }, peak := none } ∧
    (stressEntered b s).contacts = s.contacts ∧ (stressEntered b s).table.gateTimer = 0 := by
  obtain ⟨hq, hj, hd, hf, he, hc, hg⟩ := stepEntered_fields 1 (stepOf b 0) (stressOpened b s)
  unfold stressEntered
  rw [hq, hj, hd, hf, he, hc, hg]
  simp [stressOpened, startStage, Jack.stageLess]

theorem stressEntered_sameField (b : List Byte) (s : State) : SameField s (stressEntered b s) := by
  have hopen : SameField s (stressOpened b s) := by
    refine SameField.trans (t := { s with
      jack := { s.jack.stageLess with schedule := scheduleOf b, datum := none }
      eval := { results := [], summary := { JobSummary.cleared with jobStatus := .running }, peak := none }
      seq := { s.seq with stage := .stress, runState := .running, jobClock := 0, jobHalf := false } }) ?_
      (logEvent_work .stageStart _ _).sameField
    constructor <;> intros <;> rfl
  exact hopen.trans (stepEntered_work _ _ _).sameField

theorem stressEntered_standing {b : List Byte} {s : State} (h : s.standing = true)
    (hr : s.seq.runState = .idle) (hp : s.seq.progress = .grouted) : (stressEntered b s).standing = true := by
  obtain ⟨hq, -, -, hf, -⟩ := stressEntered_fields b s
  exact standing_of_started h (g := .stress) (by decide) hr hp (by rw [hq]) hf

/-! ## Step 1 beside an overload or a stroke (R137, R138, R168) -/

/-- Step 1 of schedule `l` waits at its gate or stands in its intent interval, which only RUNNING lets it do. -/
structure AtFirstGate (l : List ScheduleStep) (s : State) : Prop where
  stage : s.seq.stage = .stress
  schedule : s.jack.schedule = l
  index : s.jack.stepIndex = 1
  phase : s.jack.phase = .raiseWait ∨ (s.jack.phase = .raiseIntent ∧ s.seq.runState = .running)

theorem AtFirstGate.of_eq {l : List ScheduleStep} {s t : State} (h : AtFirstGate l s)
    (hq : t.seq = s.seq) (hj : t.jack = s.jack) : AtFirstGate l t :=
  ⟨by rw [hq]; exact h.stage, by rw [hj]; exact h.schedule, by rw [hj]; exact h.index,
    by rw [hq, hj]; exact h.phase⟩

/-- A kind taken puts the intent back (R50). -/
theorem AtFirstGate.takeFault {l : List ScheduleStep} {s : State} (h : AtFirstGate l s) (k : FaultKind)
    (d : Detail) : AtFirstGate l (takeFault k d s) := by
  have hlog : AtFirstGate l (logTaken k s) :=
    h.of_eq (logTaken_seq k s) (by unfold logTaken; split <;> simp)
  have hjack : (stopWork (logTaken k s)).jack =
      { (logTaken k s).jack with
        topUp := false
        phase := if (logTaken k s).jack.phase = .raiseIntent then .raiseWait else (logTaken k s).jack.phase } := by
    unfold stopWork
    rw [hlog.stage]
    dsimp only
    split
    · simp [*]
    · rfl
  refine ⟨(takeFault_stage k d s).trans h.stage, ?_, ?_, .inl ?_⟩
  · exact (congrArg Jack.schedule hjack).trans hlog.schedule
  · exact (congrArg Jack.stepIndex hjack).trans hlog.index
  · refine (congrArg Jack.phase hjack).trans ?_
    rcases hlog.phase with e | ⟨e, -⟩ <;> simp [e]

theorem AtFirstGate.takeAtOnce {l : List ScheduleStep} {s : State} (h : AtFirstGate l s) (k : FaultKind)
    (d : Detail) : AtFirstGate l (takeAtOnce k d s) := by
  unfold Machine.takeAtOnce
  split
  · exact h
  · rename_i hr
    split
    · split
      · have hlog : AtFirstGate l (logTaken k s) :=
          h.of_eq (logTaken_seq k s) (by unfold logTaken; split <;> simp)
        have hwait : (logTaken k s).jack.phase = .raiseWait := by
          rcases hlog.phase with e | ⟨-, e⟩
          · exact e
          · rw [logTaken_seq, hr] at e; cases e
        unfold replaceTaken
        dsimp only
        split
        · exact ⟨hlog.stage, hlog.schedule, hlog.index, .inl hwait⟩
        · exact ⟨hlog.stage, hlog.schedule, hlog.index, .inl hwait⟩
      · exact h
    · exact h.takeFault k d
  · exact h.takeFault k d

theorem AtFirstGate.detect {l : List ScheduleStep} {s : State} (h : AtFirstGate l s) (k : FaultKind)
    (d : Detail) : AtFirstGate l (detect k d s) := by
  have hsee : AtFirstGate l (seeKind k s) := h.of_eq rfl rfl
  unfold Machine.detect
  split
  · exact h
  · dsimp only
    split
    · split
      · exact hsee
      · exact hsee.takeAtOnce k d
    · split
      · split
        · exact hsee.takeAtOnce k d
        · exact hsee
      · split
        · exact hsee
        · split
          · exact hsee.takeAtOnce k d
          · split
            · exact hsee.of_eq rfl rfl
            · exact hsee

theorem AtFirstGate.watchAsked {l : List ScheduleStep} {s : State} (h : AtFirstGate l s) (u : State) :
    AtFirstGate l (watchAsked u s) := by
  have hd : ∀ {asked k t}, AtFirstGate l t → AtFirstGate l (detectIf asked k .none t) := fun ht =>
    detectIf_elim (fun _ => ht) fun _ => ht.detect _ _
  exact eitherOrder_elim (p := AtFirstGate l) (hd (hd h)) (hd (hd h)) fun _ _ ht => ht.of_eq rfl rfl

/-- A boundary held leaves the work as it was stopped (R40). -/
theorem AtFirstGate.raiseGate {l : List ScheduleStep} {s : State} (h : AtFirstGate l s) :
    AtFirstGate l (raiseGate reach s) := by
  unfold Machine.raiseGate
  split
  · rename_i hc
    simp only [Bool.and_eq_true, State.raiseConditions, beq_iff_eq] at hc
    unfold reach reachWith
    split
    · rw [chainBound, proceed_raiseWaitEnd]
      exact ⟨by simpa using h.stage, by simpa using h.schedule, by simpa using h.index,
        .inr ⟨by simp, by simpa using hc.2.2⟩⟩
    · rename_i k d _ _
      have ht := AtFirstGate.takeFault (s := { s with faults := { s.faults with pending := [] } })
        (h.of_eq rfl rfl) k d
      refine ⟨ht.stage, ht.schedule, ht.index, ht.phase⟩
  · exact h

@[simp] theorem enforceDrives_jack (s : State) : (enforceDrives s).jack = s.jack := by
  unfold enforceDrives; dsimp only; split <;> simp

theorem AtFirstGate.finish {l : List ScheduleStep} {s t : State} (h : AtFirstGate l t) :
    AtFirstGate l (finish s t) := by
  have hd : ∀ {u}, AtFirstGate l u → AtFirstGate l (enforceDrives u) := fun hu => hu.of_eq (by simp) (by simp)
  have hs : AtFirstGate l (settle s t) := settle_elim (hd h) (hd ((hd h).watchAsked _))
  exact (hd (hs.of_eq (t := prompt s (settle s t)) (by simp) (by simp))).of_eq rfl rfl

/-- The raise gate leaves the work going on, or stopped by a kind of class maskable (R40, R85). -/
theorem raiseGate_course {s : State} (hst : s.standing = true) (hs : s.seq.stage = .stress)
    (hr : s.seq.runState = .running) : Course .stress .running 6 (raiseGate reach s) := by
  unfold raiseGate
  split
  · refine .inl (reachWith_interruptible (State.pendingSound_of_standing hst) hs fun _ => ⟨?_, .inl ?_⟩)
    · rw [chainBound, proceed_raiseWaitEnd]; simpa using hs
    · rw [chainBound, proceed_raiseWaitEnd]; simpa using hr
  · exact .inl ⟨hs, .inl hr⟩

/-- Outside RUNNING the raise gate is shut (R85). -/
theorem raiseGate_other {reach : Boundary → State → State} {s : State} (h : s.seq.runState ≠ .running) :
    raiseGate reach s = s := by
  simp [raiseGate, State.raiseConditions, h]

/-! ## START_STRESS (R34, R35, R85, R124) -/

theorem stressStarted_work {limit : Nat} {b : List Byte} (h : stressRefusal limit b = none) (s : State) :
    Work (stressEntered b s) (stressStarted b s) := by
  rw [stressStarted_entered h]
  exact besideKinds_work (watchAsked_work _) (raiseGate_work reach_work) _

/-- START_STRESS with an overload or a stroke standing (R137, R138). -/
theorem startStress_halted {limit : Nat} {body : List Byte} {s : State} (hoff : s.drives = .off)
    (hb : stressRefusal limit body = none) (hcfg : s.seq.config.isSome = true) (hr : s.seq.runState = .idle)
    (hp : s.seq.progress = .grouted) (hst : s.standing = true) (hw : s.watchQuiet = false) :
    ∃ f, Halted .stress f (finish s (setReply codeStartStress body 0 0 [] (stressStarted body s))) ∧
      f.kind = s.watchTaken ∧
      (finish s (setReply codeStartStress body 0 0 [] (stressStarted body s))).seq.progress = s.seq.progress ∧
      AtFirstGate (scheduleOf body) (finish s (setReply codeStartStress body 0 0 [] (stressStarted body s))) ∧
      (finish s (setReply codeStartStress body 0 0 [] (stressStarted body s))).port =
        (s.replied codeStartStress body 0 0 []).port := by
  have hf := stressEntered_sameField body s
  have hopen := stressEntered_standing (b := body) hst hr hp
  obtain ⟨hseq, hjack, hdr, -⟩ := stressEntered_fields body s
  have hlower : s.drives.lower = false := congrArg Drives.lower hoff
  have hwork := stressStarted_work hb s
  have hstage : (stressEntered body s).seq.stage = .stress := by rw [hseq]
  have hrun : (stressEntered body s).seq.runState = .running := by rw [hseq]
  have hdue := State.due_of_not_quiet (s := stressEntered body s) (by rw [hseq]; exact hcfg)
    (by rw [hdr]; exact hlower) (hf.watchQuiet.trans hw)
  have hgate : AtFirstGate (scheduleOf body) (stressEntered body s) :=
    ⟨hstage, by rw [hjack], by rw [hjack], .inl (by rw [hjack])⟩
  obtain ⟨f, hh, e⟩ := besideKinds_halts (v := stressEntered body s) (n := 6) (by decide) hstage hrun (by decide)
    (fun u hu => watchAsked_halts (.inl rfl) (by decide) (hu.mono (by decide)) hdue)
    (raiseGate_course hopen hstage hrun)
    fun g u hu => by rw [raiseGate_other (by simp [hu.run])]; exact hu
  have hfirst : AtFirstGate (scheduleOf body) (beginWork (raiseGate reach) (stressEntered body s)) :=
    besideKinds_elim (p := AtFirstGate (scheduleOf body)) (fun _ => hgate.raiseGate.watchAsked _)
      (hgate.watchAsked _).raiseGate fun _ _ ht => ht.of_eq rfl rfl
  rw [stressStarted_entered hb] at hwork ⊢
  have hkind : f.kind = s.watchTaken := e.trans (hf.watchTaken (by rw [hdr]))
  have hfin := Halted.answered (t := beginWork (raiseGate reach) (stressEntered body s)) hh
    (hf.trans hwork.sameField) hlower (.inr hkind) codeStartStress body
  refine ⟨f, hfin, hkind, ?_, AtFirstGate.finish (hfirst.of_eq (setReply_seq _ _ _ _ _ _) (setReply_jack _ _ _ _ _ _)),
    answered_port (hwork.port.trans hf.port) _ _⟩
  rw [halted_progress (v := stressEntered body s) (by decide) hopen hwork hh hfin, hseq]

theorem execStartStress_accepted {body : List Byte} {s : State} (hp : s.portFree = true)
    (h : (stageOutcome .stress body s).1 = 0) :
    exec (.startStress body) s =
      .next (finish s (setReply codeStartStress body 0 0 [] (stressStarted body s))) := by
  obtain ⟨-, -, -, -, -, hf⟩ := stageOutcome_accepted h
  exact congrArg Host.Outcome.next
    (stageRequest_accepted (g := .stress) (refusal := stressRefused body s)
      (cured := decide (s.cfg Setup.cureTime 0 ≤ s.seq.cure.hours)) hp
      (stressRefusal_none (limit := s.cfg Setup.loadLimit 0) hf).1 rfl (by simp) h codeStartStress _)

/-- Settles O29: `startStress_halted` where an overload or a stroke stands, and else step 1 at its gate. -/
theorem startStressBeginsAtTheGate : Obligations.StartStressBeginsAtTheGate := by
  intro body s hport hl hcfg haccept
  obtain ⟨hr, -, hprog, -, -, hb⟩ := stageOutcome_accepted haccept
  have hoff : s.drives = .off := State.drives_off hl (by simp [hr]) (by simp [hr]) (by simp [hr])
  refine ⟨fun hst hw => ⟨_, execStartStress_accepted hport haccept, ?_⟩, fun hq hp =>
    ⟨_, execStartStress_accepted hport haccept, ?_⟩⟩
  · obtain ⟨f, hh, hk, hpr, hgate, hpt⟩ := startStress_halted (body := body) hoff hb hcfg hr hprog hst hw
    have hphase := hgate.phase.resolve_right fun e => by rw [hh.run] at e; cases e.2
    exact ⟨hh.stage, hh.run, hpr, finish_halted_drives hh, hphase, hgate.index, hgate.schedule,
      by simp [hh.taken, hk], hpt⟩
  · have hf := stressEntered_sameField body s
    obtain ⟨hseq, hjack, hdr, hflt, heval, hcon, htimer⟩ := stressEntered_fields body s
    have hg : Gated (stressEntered body s) (stressStarted body s) := by
      rw [stressStarted_entered hb, beginWork_quiet (hf.watchQuiet.trans hq)]
      exact raiseGate_gated 31 (by rw [hseq]) (by rw [hjack]) (by rw [hjack]; simp [Jack.stageLess])
        (by rw [hflt, hp])
    have hd := hg.drives.trans (hdr.trans hoff)
    have ha : Answered s codeStartStress body (stressStarted body s) _ :=
      answered_quiet (State.drivesLegal_of_off hd) ((hf.trans hg.field).watchQuiet.trans hq)
        (hf.trans hg.field).port
    rw [ha.seq, ha.jack, ha.gateTimer, ha.drives, ha.eval, ha.faults, ha.entries, ha.contacts, ha.raiseConditions,
      hd, hg.eval, hg.faults, hg.contacts, hg.gateTimer, heval, hflt, hcon, htimer, hg.field.entries, hf.entries]
    have hq' := hg.seq
    have hj' := hg.jack
    rw [hseq] at hq'
    rw [hjack] at hj'
    refine ⟨hq', ?_, ?_, ?_, ?_, rfl, rfl, rfl, rfl, rfl, rfl, rfl, rfl, ha.port⟩ <;> rw [hj']

end Sys2Proof.Machine
end

section
/-!
PROOF. SETUP: the configured station, its drift watch evaluated at once, and the close of an event with no stage active.
-/
namespace Sys2Proof.Machine

/-! ## The close of an event with no stage active -/

/-- An event that leaves no stage and every drive off closes with its own effects, kinds seen, and at most a notice (R83,
R137, R164). -/
theorem finish_stageless (s : State) {t : State} (h : t.seq.stage = .none) (hd : t.drives = .off) :
    (finish s t).withoutNotice =
      State.withoutNotice
        { t with
          faults := { t.faults with seen := (finish s t).faults.seen }
          freeCount := (finish s t).freeCount, pending := s.pending } := by
  obtain ⟨hseen, hlegal⟩ := settle_stageless s h hd
  have hfin : finish s t = { prompt s (settle s t) with pending := s.pending } := by
    unfold finish secure
    rw [enforceDrives_of_legal (by rw [prompt_legal, hlegal])]
  have hnotice := prompt_withoutNotice s (settle s t)
  have hshape : settle s t =
      { t with faults := { t.faults with seen := (finish s t).faults.seen }, freeCount := (finish s t).freeCount } := by
    have hfc : (finish s t).freeCount = (settle s t).freeCount := by
      rw [hfin]; exact (congrArg State.freeCount hnotice :)
    have hsn : (finish s t).faults.seen = (settle s t).faults.seen := by
      rw [hfin]; exact congrArg (fun u => u.faults.seen) hnotice
    rw [hfc, hsn]
    exact hseen
  calc (finish s t).withoutNotice
      = { (prompt s (settle s t)).withoutNotice with pending := s.pending } := by rw [hfin]; rfl
    _ = { (settle s t).withoutNotice with pending := s.pending } := by rw [hnotice]
    _ = _ := congrArg (fun u : State => { u.withoutNotice with pending := s.pending }) hshape

/-! ## The drift decisions of a locked anchor without a stage (R139) -/

/-- The load stands out of the drift band of a locked anchor (R139). -/
def State.outOfBand (s : State) : Bool :=
  s.driftWatched && Test.out.holds (compareNat (s.filtered .load) (s.jack.lockedLoad.getD 0) (s.cfg Setup.driftBand 0))

/-- With DRIFT clear the drift decisions set it where the load stands out of the band, and ANCHOR_DRIFT is seen unless it is
masked (R139, R164). -/
theorem driftDecision_clear {s : State} (hs : s.seq.stage = .none) (hd : s.table.drift = false) :
    driftDecision s =
      { s with
        table := { s.table with drift := s.outOfBand }
        faults := { s.faults with seen := (driftDecision s).faults.seen } } := by
  have hstay : s.outOfBand = false →
      ({ s with table := { s.table with drift := s.outOfBand } } : State) = s := fun h => by rw [h, ← hd]
  unfold driftDecision
  by_cases hw : s.driftWatched = true
  · simp only [hw, if_true, hd, Bool.false_eq_true, if_false]
    by_cases hx : Test.out.holds
        (compareNat (s.filtered .load) (s.jack.lockedLoad.getD 0) (s.cfg Setup.driftBand 0)) = true
    · have ho : s.outOfBand = true := by simp [State.outOfBand, hw, hx]
      rw [if_pos hx, ho, detect_anchorDrift _ (by exact hs)]
      split <;> rfl
    · have ho : s.outOfBand = false := by simp [State.outOfBand, hx]
      rw [if_neg hx]
      exact (hstay ho).symm
  · have ho : s.outOfBand = false := by simp [State.outOfBand, hw]
    rw [if_neg hw]
    exact (hstay ho).symm

/-! ## SETUP (R33, R189, R190) -/

/-- The effects of SETUP with its drift watch evaluated (R139). -/
def setupDone (b : List Byte) (s : State) : State := driftDecision (configured (setupOf b) s)

/-- The notice that a DRIFT at the acceptance asks for (R83, log 11). -/
def setupNotified (b : List Byte) (s : State) : State :=
  if (setupDone b s).table.drift then requestNotice (setupDone b s) else setupDone b s

theorem execSetup_accepted {b : List Byte} {s : State} (hp : s.portFree = true)
    (hr : s.seq.runState = .unconfigured) (h : setupRefusal b = none) :
    exec (.setup b) s = .next (finish s (setReply codeSetup b 0 0 [] (setupNotified b s))) := by
  have hlen : b.length ≤ 60 := by
    unfold setupRefusal at h
    split at h
    · cases h
    · omega
  have hn : setupRefused b s = none := by simp [setupRefused, State.configured, hr, h]
  have hv : setupVerdict b s = verdict (setupRefused b s) (setupNotified b s) [] := rfl
  refine congrArg Host.Outcome.next ?_
  rw [hv, hn]
  exact request_accepted hp hlen (setupNotified b s) []

theorem setupNotified_withoutNotice (b : List Byte) (s : State) :
    (setupNotified b s).withoutNotice = (setupDone b s).withoutNotice := by
  unfold setupNotified
  split
  · exact requestNotice_withoutNotice _
  · rfl

/-- A channel at SETUP: restarted with its new length, unless that is 8 (R6). -/
theorem configured_chan (g : Setup) (s : State) (c : ChannelName) :
    (configured g s).chan c = (s.chan c).configure (g.filterOf c) := by
  cases c <;> rfl

theorem configured_outOfBand (g : Setup) (s : State) :
    (configured g s).outOfBand =
      (g.progress == .locked && Test.out.holds
        (compareNat ((configured g s).filtered .load) g.lockedLoad g.driftBand)) := by
  have hw : (configured g s).driftWatched = (g.progress == .locked) := by
    simp [State.driftWatched, configured, Sequencer.configure]
  rw [State.outOfBand, hw]
  by_cases hl : g.progress = .locked
  · have hj : (configured g s).jack.lockedLoad.getD 0 = g.lockedLoad := by simp [configured, hl]
    rw [hj]
    rfl
  · have hb : (g.progress == .locked) = false := by simpa using hl
    rw [hb]
    rfl

/-- Where an accepted SETUP ends, but for a notice. -/
theorem setup_shape {b : List Byte} {s t : State} (hoff : s.drives = .off)
    (ht : finish s (setReply codeSetup b 0 0 [] (setupNotified b s)) = t) :
    t.withoutNotice =
      State.withoutNotice
        { configured (setupOf b) s with
          table := { (configured (setupOf b) s).table with drift := (configured (setupOf b) s).outOfBand }
          faults := { (configured (setupOf b) s).faults with seen := t.faults.seen }
          freeCount := t.freeCount, pending := s.pending
          port := (s.replied codeSetup b 0 0 []).port } := by
  have hnote := setupNotified_withoutNotice b s
  have hdrift : setupDone b s = _ := driftDecision_clear (s := configured (setupOf b) s) rfl rfl
  generalize setupNotified b s = u at hnote ht
  generalize setupDone b s = v at hnote hdrift
  generalize (driftDecision (configured (setupOf b) s)).faults.seen = seen at hdrift
  rw [hdrift] at hnote
  have hstage : u.seq.stage = .none := congrArg (fun w : State => w.seq.stage) hnote
  have hdr : u.drives = .off := (congrArg State.drives hnote :).trans hoff
  have hport : u.port = s.port := (congrArg State.port hnote :)
  have hfin := finish_stageless s (t := setReply codeSetup b 0 0 [] u) hstage hdr
  rw [ht] at hfin
  rw [hfin, ← setReply_port_of hport]
  exact congrArg (fun w : State =>
    State.withoutNotice
      { w with
        faults := { w.faults with seen := t.faults.seen }, freeCount := t.freeCount, pending := s.pending
        port := (setReply codeSetup b 0 0 [] u).port }) hnote

/-- No kind leaves the seen set at SETUP (R163, R175). -/
theorem setup_seen {b : List Byte} {s : State} {k : FaultKind} (hk : k ∈ s.faults.seen) :
    k ∈ (finish s (setReply codeSetup b 0 0 [] (setupNotified b s))).faults.seen := by
  refine finish_seen (t := setReply codeSetup b 0 0 [] (setupNotified b s)) ?_
  have hs : (setupNotified b s).faults = (setupDone b s).faults :=
    (congrArg State.faults (setupNotified_withoutNotice b s) :)
  rw [setReply_faults, hs]
  exact (driftDecision_work (configured (setupOf b) s)).seen k hk

/-- Settles O26: each part of the state is read off `setup_shape`. -/
theorem setupStoresTheConfiguration : Obligations.SetupStoresTheConfiguration := by
  intro b c k s hport hl hr hbody
  have hoff : s.drives = .off := State.drives_off hl (by simp [hr]) (by simp [hr]) (by simp [hr])
  refine ⟨_, execSetup_accepted hport hr hbody, ?_⟩
  have hseen : k ∈ s.faults.seen → k ∈ _ := setup_seen (b := b)
  generalize ht : finish s (setReply codeSetup b 0 0 [] (setupNotified b s)) = t at hseen ⊢
  have h := setup_shape hoff ht
  have hseq : t.seq = s.seq.configure (setupOf b) := (congrArg State.seq h :)
  have hchans : ∀ d, t.chan d = (configured (setupOf b) s).chan d := fun d =>
    (congrArg (fun u : State => u.chan d) h :)
  have hjack : t.jack = (configured (setupOf b) s).jack := (congrArg State.jack h :)
  have hdrift : t.table.drift = (configured (setupOf b) s).outOfBand :=
    (congrArg (fun u : State => u.table.drift) h :)
  refine ⟨by rw [hseq]; rfl, by rw [hseq]; rfl, by rw [hseq]; rfl, by rw [hseq]; rfl, fun hg => ?_, fun hg => ?_,
    by rw [hjack]; rfl, by rw [hjack]; rfl, (congrArg (fun u : State => u.faults.mask) h :),
    (congrArg (fun u : State => u.faults.pending) h :), (congrArg (fun u : State => u.faults.taken) h :), hseen,
    ⟨(congrArg (fun u : State => u.table.raiseTicks) h :), (congrArg (fun u : State => u.table.gateTimer) h :),
      (congrArg (fun u : State => u.table.entries) h :)⟩, ?_, ?_, fun hc => ?_, fun hc => ?_,
    (congrArg State.contacts h :), (congrArg (fun u : State => u.chans.gvCount) h :), (congrArg State.log h :),
    (congrArg State.port h :)⟩
  · rw [hseq]; simp [Sequencer.configure, hg, Cure.started]
  · rw [hseq]; rcases hg with hg | hg <;> simp [Sequencer.configure, hg]
  · have hload : t.filtered .load = (configured (setupOf b) s).filtered .load := congrArg Channel.value (hchans .load)
    rw [hdrift, configured_outOfBand, hload]
    simp
  · simp [State.ownFlags, hseq, Sequencer.configure]
  · rw [hchans, configured_chan, Channel.configure, if_neg hc]
    exact ⟨rfl, rfl, rfl, rfl⟩
  · rw [hchans, configured_chan, Channel.configure, if_pos hc]

end Sys2Proof.Machine
end

section
/-!
PROOF. The clocks at a notice tick: what the tick counts, what its work leaves of that, and the tick of a paused winch stage.
-/
namespace Sys2Proof.Machine

/-! ## What the rest of an event leaves of the clocks (R36 to R38) -/

/-- From `s` to `t` the neighbour entries stay; the clocks stay while the stage does; and with no GROUT stage active the cure
clock stays. -/
structure SameClocks (s t : State) : Prop where
  entries : t.table.entries = s.table.entries
  clocks :
    (t.seq.stage = s.seq.stage ∧ t.seq.jobClock = s.seq.jobClock ∧ t.seq.jobHalf = s.seq.jobHalf ∧
      t.seq.cure = s.seq.cure) ∨ t.seq.stage = .none
  cure : s.seq.stage ≠ .grout → t.seq.cure = s.seq.cure ∧ t.seq.stage ≠ .grout

theorem SameClocks.trans {s t u : State} (h : SameClocks s t) (k : SameClocks t u) : SameClocks s u where
  entries := k.entries.trans h.entries
  clocks := by
    rcases k.clocks with ⟨a, b, c, d⟩ | a
    · rcases h.clocks with ⟨e, f, g, i⟩ | e
      · exact .inl ⟨a.trans e, b.trans f, c.trans g, d.trans i⟩
      · exact .inr (a.trans e)
    · exact .inr a
  cure := fun hs => ⟨(k.cure (h.cure hs).2).1.trans (h.cure hs).1, (k.cure (h.cure hs).2).2⟩

theorem Carries.sameClocks {s t : State} (h : Carries s t) : SameClocks s t :=
  ⟨h.work.entries, h.work.clocks, h.calm.cure⟩

theorem SameClocks.of_eq {s t : State} (hq : t.seq = s.seq) (he : t.table.entries = s.table.entries) :
    SameClocks s t :=
  ⟨he, .inl ⟨by rw [hq], by rw [hq], by rw [hq], by rw [hq]⟩, fun h => ⟨by rw [hq], by rwa [hq]⟩⟩

theorem SameClocks.of_withoutNotice {s t : State} (h : t.withoutNotice = s.withoutNotice) : SameClocks s t :=
  .of_eq (congrArg State.seq h :) (congrArg (fun u : State => u.table.entries) h :)

/-- After its counts the tick leaves the clocks as the work of a stage does (R36, R38). -/
theorem noticeTick_sameClocks (s : State) : SameClocks (tickCounts s) (secure s (noticeTick s)) := by
  have htick : SameClocks (tickCounts s) (requestNotice (settle s (tickWork s.jobAdvances (tickCounts s)))) :=
    ((tickWork_carries _ _).trans (settle_carries s _)).sameClocks.trans
      (.of_withoutNotice (requestNotice_withoutNotice _))
  have hsecure : ∀ t, SameClocks t (secure s t) := fun t =>
    (enforceDrives_carries t).sameClocks.trans (.of_eq rfl rfl)
  refine SameClocks.trans ?_ (hsecure _)
  unfold noticeTick
  dsimp only
  split
  · exact (htick.trans ((Carries.mk (groutGate_work reach_work _) (groutGate_calm reach_calm _)).trans
      (settle_carries _ _)).sameClocks).trans (.of_withoutNotice (prompt_withoutNotice _ _))
  · exact htick

/-! ## What the tick counts (R37, R38, R79) -/

/-- The ageing of the entries moves no clock; the entries are the aged ones (R79). -/
theorem ageEntries_fields (s : State) :
    (ageEntries s).seq = s.seq ∧ (ageEntries s).table.entries = s.agedEntries := by
  have hlost : ∀ (gone : List Entry) (u : State),
      (gone.foldl (fun s e => detect .neighbourLost (.station e.station) s) u).seq = u.seq ∧
      (gone.foldl (fun s e => detect .neighbourLost (.station e.station) s) u).table.entries =
        u.table.entries := fun gone => by
    induction gone with
    | nil => exact fun u => ⟨rfl, rfl⟩
    | cons e rest ih =>
      intro u
      obtain ⟨hq, he⟩ := ih (detect .neighbourLost (.station e.station) u)
      exact ⟨hq.trans (detect_runState _ u rfl (by decide)), he.trans (detect_work _ (by simp)).entries⟩
  unfold ageEntries State.agedEntries
  split
  · exact ⟨rfl, rfl⟩
  · exact hlost _ _

theorem tickCounts_fields (s : State) :
    (tickCounts s).table.entries = s.agedEntries ∧ (tickCounts s).seq.stage = s.seq.stage ∧
    (tickCounts s).seq.cure = s.seq.cure.tick ∧
    (s.seq.stage ≠ .none →
      (tickCounts s).seq.jobHalf = !s.seq.jobHalf ∧
      (tickCounts s).seq.jobClock = if s.jobAdvances = true then s.seq.jobClock + 1 else s.seq.jobClock) := by
  obtain ⟨hq, he⟩ := ageEntries_fields s
  have hu : (countTicks (cureTick (ageEntries s))).seq = { s.seq with cure := s.seq.cure.tick } :=
    congrArg (fun q : Sequencer => { q with cure := q.cure.tick }) hq
  have hue : (countTicks (cureTick (ageEntries s))).table.entries = s.agedEntries := he
  unfold tickCounts
  generalize countTicks (cureTick (ageEntries s)) = u at hu hue
  have hj : u.jobAdvances = s.jobAdvances := by simp [State.jobAdvances, State.stageActive, hu]
  unfold jobTick
  split
  · exact ⟨hue, by simp [hu], by simp [hu], fun _ => by simp [hu, hj]⟩
  · rename_i h
    exact ⟨hue, by simp [hu], by simp [hu], fun hs => absurd (by simpa [State.stageActive, hu] using hs) h⟩

/-! ## The tick of a paused winch stage (R37, R178) -/

/-- The state as the tick counts it, where no entry leaves the table and no interval, claim or rest is counted. -/
def clockCounted (s : State) : State :=
  { s with
    table := { s.table with entries := s.agedEntries }
    seq := { s.seq with cure := s.seq.cure.tick, jobHalf := false, jobClock := s.seq.jobClock + 1 } }

/-- With no entry at its end the ageing ages the entries alone (R79). -/
theorem ageEntries_clear {s : State} (h : s.table.entries.all (fun e => decide (e.age < 9)) = true) :
    ageEntries s = { s with table := { s.table with entries := s.agedEntries } } := by
  have hgone : (s.table.entries.map Entry.older).filter (fun e => decide (10 ≤ e.age) && s.inSpan e) = [] := by
    refine List.filter_eq_nil_iff.mpr fun e he => ?_
    obtain ⟨d, hd, rfl⟩ := List.mem_map.mp he
    have := List.all_eq_true.mp h d hd
    simp only [decide_eq_true_eq] at this
    simp [Entry.older]
    omega
  unfold ageEntries State.agedEntries
  split
  · rfl
  · simp only [hgone]; rfl

/-- With no interval, no claim and no rest going on, the tick counts nothing of them (R86, R95 to R97). -/
theorem countTicks_idle {s : State} (hj : s.jack.phase = .none) (hg : s.grout.phase = .none)
    (hc : s.grout.claim = none) : countTicks s = s := by
  have hclaim : s.grout.claim.map (fun c : Claim => { c with ticks := c.ticks + 1 }) = s.grout.claim := by
    rw [hc]; rfl
  unfold countTicks
  rw [hclaim, hj, hg]
  rfl

theorem tickCounts_clear {s : State} (hs : s.seq.stage ≠ .none) (hj : s.jack.phase = .none)
    (hg : s.grout.phase = .none) (hc : s.grout.claim = none) (hadv : s.jobAdvances = true)
    (he : s.table.entries.all (fun e => decide (e.age < 9)) = true) : tickCounts s = clockCounted s := by
  have hhalf : s.seq.jobHalf = true := by
    simp only [State.jobAdvances, Bool.and_eq_true] at hadv; exact hadv.1.2
  have hidle : countTicks (cureTick (ageEntries s)) =
      { s with
        table := { s.table with entries := s.agedEntries }
        seq := { s.seq with cure := s.seq.cure.tick } } := by
    rw [ageEntries_clear he]
    exact countTicks_idle (s := cureTick { s with table := { s.table with entries := s.agedEntries } }) hj hg hc
  have hadv' : State.jobAdvances { s with
      table := { s.table with entries := s.agedEntries }
      seq := { s.seq with cure := s.seq.cure.tick } } = true := hadv
  unfold tickCounts jobTick
  rw [hidle, if_pos (by simpa [State.stageActive] using hs), hadv']
  simp [clockCounted, hhalf]

/-- In a paused winch stage neither a clock of the stage nor a gate acts (R42). -/
theorem workOfTick_pausedWinch {s : State} (hs : s.seq.stage = .winch) (hr : s.seq.runState = .paused)
    (advanced : Bool) : workOfTick advanced s = s := by
  have hstress : ∀ p, s.stressing p = false := fun p => by simp [State.stressing, hs]
  have hgrout : s.grouting = false := by simp [State.grouting, hs]
  have hclaim : claimPart s = s := by simp [claimPart, State.claimAtLimit, State.restOver, hs]
  have hraise : raisePart s = s := by simp [raisePart, hstress]
  have hgate : groutPart s = s := by simp [groutPart, State.groutIntentOver, hgrout, groutGate_other hgrout]
  have hwork : gateWork s = s := by rw [gateWork, hclaim, hraise, hgate]
  have hclocks : stageClocks s = s := by
    have hw : s.winching = false := by simp [State.winching, hr]
    simp only [stageClocks, hs, stallClock]
    split <;> simp [hw]
  simp [workOfTick, State.timeoutDue, hstress, hwork, hclocks]

/-- The periodic record touches the log and REFILLED marks (R178, R183). -/
theorem periodicRecord_shape (s : State) :
    periodicRecord s = { s with chans := (periodicRecord s).chans, log := (periodicRecord s).log } := by
  unfold periodicRecord
  split
  · unfold writeRecord consumeRefilled
    split <;> rfl
  · rfl

/-- The tick of a paused winch stage is its counts and the periodic record (R178). -/
theorem tickWork_pausedWinch {s : State} (hs : s.seq.stage = .winch) (hr : s.seq.runState = .paused) :
    tickWork true s = periodicRecord s := by
  have hrec : workOfTick true (periodicRecord s) = periodicRecord s :=
    workOfTick_pausedWinch (by rw [periodicRecord_shape]; exact hs) (by rw [periodicRecord_shape]; exact hr) _
  have hnow := workOfTick_pausedWinch hs hr true
  unfold tickWork
  rw [if_neg (by decide), hnow, if_pos (by simp [State.stageActive, hs]),
    eitherOrder_eq (by rw [hrec, hnow]), hrec]

/-! ## The commands of the tick (R37, R38) -/

theorem execJobClockAdvance_due {s : State} (h : s.jobAdvances = true) :
    exec .jobClockAdvance s = .next (secure s (noticeTick s)) :=
  congrArg Host.Outcome.next (by rw [occasion, if_pos h])

theorem execCureClockAdvance_due {s : State} (h : cureAdvances s = true) :
    exec .cureClockAdvance s = .next (secure s (noticeTick s)) :=
  congrArg Host.Outcome.next (by rw [occasion, if_pos h])

/-- Settles O42: the counts of the tick, what its work leaves of them, and the paused winch stage in full. -/
theorem clocksCountSeconds : Obligations.ClocksCountSeconds := by
  intro s hl
  obtain ⟨hentries, hstage, hcure, hjob⟩ := tickCounts_fields s
  have hkeep := noticeTick_sameClocks s
  refine ⟨fun hs hh hc => ?_, fun hs hr hj hg hcl hb hh hc => ?_, fun hrun hhalf => ?_⟩
  · have hadv : s.jobAdvances = true := by simp [State.jobAdvances, State.stageActive, hs, hh, Config.clockMax, hc]
    obtain ⟨hhalf, hclock⟩ := hjob hs
    rw [if_pos hadv] at hclock
    refine ⟨_, execJobClockAdvance_due hadv, hkeep.entries.trans hentries, fun ht => ?_⟩
    obtain ⟨k1, k2, k3, -⟩ := hkeep.clocks.resolve_right ht
    exact ⟨k1.trans hstage, k2.trans hclock, by rw [k3, hhalf, hh]; rfl⟩
  · have hadv : s.jobAdvances = true := by simp [State.jobAdvances, State.stageActive, hs, hh, Config.clockMax, hc]
    simp only [State.boundaryClear, Bool.and_eq_true] at hb
    have hcount := tickCounts_clear (by simp [hs]) hj hg hcl hadv hb.2
    have hshape := periodicRecord_shape (clockCounted s)
    have hlegal : (periodicRecord (clockCounted s)).drivesLegal = true := by rw [hshape]; exact hl
    have htick : noticeTick s = requestNotice (periodicRecord (clockCounted s)) := by
      unfold noticeTick
      rw [hadv, hcount, tickWork_pausedWinch (s := clockCounted s) hs hr,
        settle_same hlegal (by rw [hshape]; rfl) (by rw [hshape]; rfl), if_neg (by rw [hg]; decide)]
    rw [execJobClockAdvance_due hadv, htick]
    refine congrArg Host.Outcome.next (secure_of_legal ?_ ?_)
    · exact (congrArg State.drivesLegal (requestNotice_withoutNotice _) :).trans hlegal
    · exact (congrArg State.pending (requestNotice_withoutNotice _) :).trans (by rw [hshape]; rfl)
  · have hadv : cureAdvances s = true := by simp [cureAdvances, hrun, hhalf]
    refine ⟨_, execCureClockAdvance_due hadv, hkeep.entries.trans hentries, fun hg => ?_⟩
    have hkept : (secure s (noticeTick s)).seq.cure = (tickCounts s).seq.cure := by
      rcases hg with hg | hg
      · exact (hkeep.cure (by rw [hstage]; exact hg)).1
      · rcases hkeep.clocks with ⟨-, -, -, k⟩ | k
        · exact k
        · rw [hg] at k; cases k
    rw [hkept, hcure]
    simp [Cure.tick, hrun, hhalf]

end Sys2Proof.Machine
end

section
/-!
PROOF. ABORT: the stage given up, the lowering begun or ended at once, and the refusals.
-/
namespace Sys2Proof.Machine

/-- Parts of the field side that an update of the work leaves alone. -/
theorem SameField.of_parts {s t : State} (hc : t.chans = s.chans) (ht : t.table.entries = s.table.entries)
    (hl : t.line = s.line) (hp : t.port = s.port) (hg : t.seq.config = s.seq.config)
    (hm : t.faults.mask = s.faults.mask) : SameField s t where
  reading c := by cases c <;> simp only [State.chan, hc]
  gvCount := by rw [hc]
  gvOver := by rw [hc]
  entries := ht
  lineQueue := by rw [hl]
  lineState := by rw [hl]
  port := hp
  config := hg
  mask := hm

/-! ## The lowering as it begins (R49) -/

/-- The drives and the run state of a lowering's beginning. -/
def loweringBegun (s : State) : State :=
  { s with
    seq := { s.seq with runState := .aborting }
    drives := { s.drives with raise := false, seating := false, lower := true }
    jack := { s.jack with lowerSecond := false } }

/-- With JACK_HOME inactive the lower valve opens, in the second part where the load stands below the datum target (R49). -/
theorem startLowering_open {s : State} (hs : s.seq.stage = .stress) (hj : s.contacts.jackHome.active = false) :
    startLowering s =
      { s with
        seq := { s.seq with runState := .aborting }
        drives := { s.drives with raise := false, seating := false, lower := true }
        jack := { s.jack with lowerSecond := Test.short.holds (s.loadAgainst s.datumTarget) } } := by
  have hv : startLowering s = lowering (loweringBegun s) := rfl
  have hload : (loweringBegun s).loadAgainst (loweringBegun s).datumTarget = s.loadAgainst s.datumTarget := rfl
  rw [hv]
  unfold lowering
  rw [if_pos (by simp [loweringBegun, hs]), if_neg (by simp [loweringBegun, hj]), hload]
  cases Test.short.holds (s.loadAgainst s.datumTarget)
  · rfl
  · rfl

/-- With JACK_HOME active the lowering ends at once (R49). -/
theorem startLowering_home {s : State} (hs : s.seq.stage = .stress) (hj : s.contacts.jackHome.active = true) :
    startLowering s = endAbort (loweringBegun s) := by
  have hv : startLowering s = lowering (loweringBegun s) := rfl
  rw [hv]
  unfold lowering
  rw [if_pos (by simp [loweringBegun, hs]), if_pos (by simpa [loweringBegun] using hj)]

theorem endAbort_sameField (s : State) : SameField s (endAbort s) := by
  have hlog : SameField s (logEvent .stageEnd argAborted { s with drives := { s.drives with lower := false } }) :=
    (Work.after (s := s) (logEvent_work .stageEnd argAborted { s with drives := { s.drives with lower := false } })
      rfl).sameField
  have hphase := hlog.trans (setStepPhase_work .none _).sameField
  exact ⟨hphase.reading, hphase.gvCount, hphase.gvOver, hphase.entries, hphase.lineQueue, hphase.lineState,
    hphase.port, hphase.config, hphase.mask⟩

theorem startLowering_sameField (s : State) : SameField s (startLowering s) := by
  have hv : SameField s (loweringBegun s) := .of_parts rfl rfl rfl rfl rfl rfl
  exact hv.trans (lowering_work (loweringBegun s)).sameField

/-! ## The acceptance of ABORT (R47) -/

theorem abortAccepted_fields (s : State) :
    (abortAccepted s).seq = { s.seq with held := none } ∧ (abortAccepted s).drives = s.drives ∧
    (abortAccepted s).winch = s.winch ∧ (abortAccepted s).grout = s.grout ∧ (abortAccepted s).jack = s.jack ∧
    (abortAccepted s).eval = s.eval ∧ (abortAccepted s).contacts = s.contacts ∧
    (abortAccepted s).chans.drainOpen = s.chans.drainOpen := by
  simp [abortAccepted]

/-- The pending set empties, and no record of a taken fault stands (R47). -/
theorem abortAccepted_faults {s : State} (hst : s.standing = true) (ha : s.abortable = true) :
    (abortAccepted s).faults = { s.faults with pending := [], taken := none } := by
  have htaken : s.seq.runState ≠ .faulted → s.faults.taken = none := fun hf =>
    State.taken_none hst hf fun e => by simp [State.abortable, e] at ha
  by_cases hf : s.seq.runState = .faulted
  · simp [abortAccepted, hf]
  · simp [abortAccepted, hf, htaken hf]

theorem abortAccepted_sameField (s : State) : SameField s (abortAccepted s) := by
  refine SameField.trans (t := { s with
      seq := { s.seq with held := none }
      faults :=
        { s.faults with
          pending := []
          taken := if s.seq.runState = .faulted then none else s.faults.taken } }) ?_
    (logEvent_work .abort 0 _).sameField
  exact .of_parts rfl rfl rfl rfl rfl rfl

theorem execAbort_accepted {s : State} (hp : s.portFree = true) (ha : s.abortable = true) :
    exec (.abort []) s = .next (finish s (setReply codeAbort [] 0 0 [] (aborted s))) := by
  have hc : s.configured = true := by
    rw [State.configured, bne_iff_ne]
    intro e
    simp [State.abortable, e] at ha
  exact congrArg Host.Outcome.next (emptyRequest_accepted hp
    (by simp [abortRefused, firstFailing, needConfigured, hc, noBody, ha]) _)

/-! ## WINCH and GROUT given up (R48, R106, R116) -/

theorem abortWinch_fields {s : State} :
    (abortWinch s).seq = s.seq.stageLess ∧
    (abortWinch s).winch = s.winch.map (fun w => { w with outcome := .aborted }) ∧
    (abortWinch s).drives = { s.drives with winch := false } ∧ (abortWinch s).faults = s.faults := by
  simp [abortWinch]

theorem abortWinch_sameField (s : State) : SameField s (abortWinch s) := by
  have h := (Work.after (s := s) (logEvent_work .stageEnd argAborted
    (updateWinch (fun w => { w with outcome := .aborted }) (winchOff s))) rfl).sameField
  exact ⟨h.reading, h.gvCount, h.gvOver, h.entries, h.lineQueue, h.lineState, h.port, h.config, h.mask⟩

@[simp] theorem endClaim_claim (cause : Nat) (s : State) : (endClaim cause s).grout.claim = none := by
  unfold endClaim
  split
  · simp
  · rename_i h; simpa using h

theorem abortGrout_fields (s : State) :
    (abortGrout s).seq = s.seq.stageLess ∧
    (abortGrout s).grout.record = s.grout.record.map (fun r => { r with mark := .part }) ∧
    (abortGrout s).grout.claim = none ∧ (abortGrout s).grout.phase = .none ∧
    (abortGrout s).drives = { s.drives with grout := false } ∧
    (abortGrout s).chans.drainOpen = (s.drives.grout || s.chans.drainOpen) ∧
    (abortGrout s).faults = s.faults := by
  have hrec : (endClaim claimByAbort (closeGrout s)).grout.record = s.grout.record := by
    unfold endClaim; split <;> simp
  have hdr : (endClaim claimByAbort (closeGrout s)).drives = { s.drives with grout := false } := by
    unfold endClaim; split <;> simp
  have hdrain : (closeGrout s).chans.drainOpen = (s.drives.grout || s.chans.drainOpen) := by
    unfold closeGrout; split <;> simp [*]
  have hdrain' : (endClaim claimByAbort (closeGrout s)).chans.drainOpen = (closeGrout s).chans.drainOpen := by
    unfold endClaim
    split
    · rw [closeGrout_shut (s := closeGrout s) (by simp)]; simp
    · rfl
  simp [abortGrout, GroutControl.stageLess, updateGroutRecord, hrec, hdr, hdrain, hdrain']

theorem abortGrout_sameField (s : State) : SameField s (abortGrout s) := by
  have hclaim : Work s (endClaim claimByAbort (closeGrout s)) := .after (endClaim_work _ _) (closeGrout_core s)
  have h := (hclaim.trans (.after (logEvent_work .stageEnd argAborted
    (updateGroutRecord (fun r => { r with mark := .part }) (endClaim claimByAbort (closeGrout s)))) rfl)).sameField
  exact ⟨h.reading, h.gvCount, h.gvOver, h.entries, h.lineQueue, h.lineState, h.port, h.config, h.mask⟩

/-! ## STRESS given up (R49, R142, R160) -/

/-- The entry closed and the work of the phase ended, before the lowering begins (R142, R160). -/
def stressGivenUp (s : State) : State :=
  let t := leaveHold (closeEntry s)
  logEvent .phase StepPhase.rampDown.code
    { t with
      seq := { t.seq with abortMark := true }
      jack := { t.jack with phase := .rampDown, ramp := .cleared } }

theorem abortStress_eq (s : State) : abortStress s = startLowering (stressGivenUp s) := rfl

/-- The entry of the current step as ABORT closes it (R160). -/
def entryClosed (j : Jack) (e : StepEntry) : StepEntry :=
  if e.index = j.stepIndex then
    { e with
      outcome := if e.outcome = .inProgress ∨ e.outcome = .extending then .aborted else e.outcome
      actualHold := if j.phase = .hold then j.holdClock else e.actualHold }
  else e

theorem closeEntry_eq (s : State) :
    closeEntry s =
      { s with eval := { s.eval with results := s.eval.results.map (entryClosed s.jack), peak := none } } := by
  have h : (fun e : StepEntry => if e.index = s.jack.stepIndex then
      { e.setOutcome .aborted with
        actualHold := if s.jack.phase = .hold then s.jack.holdClock else e.actualHold } else e) =
      entryClosed s.jack := by
    funext e
    unfold entryClosed StepEntry.setOutcome
    split
    · split <;> rfl
    · rfl
  simp only [closeEntry, updateEntry, h]

@[simp] theorem leaveHold_jack (s : State) :
    (leaveHold s).jack = { s.jack with holdClock := 0, holdLength := none, topUp := false } := rfl

theorem stressGivenUp_fields (s : State) :
    (stressGivenUp s).seq = { s.seq with abortMark := true } ∧
    (stressGivenUp s).jack =
      { s.jack with
        holdClock := 0, holdLength := none, topUp := false, phase := .rampDown, ramp := .cleared } ∧
    (stressGivenUp s).drives = { s.drives with raise := false } ∧
    (stressGivenUp s).eval =
      { s.eval with results := s.eval.results.map (entryClosed s.jack), peak := none } ∧
    (stressGivenUp s).contacts = s.contacts ∧ (stressGivenUp s).faults = s.faults := by
  simp [stressGivenUp, closeEntry_eq]

theorem stressGivenUp_sameField (s : State) : SameField s (stressGivenUp s) := by
  have h : SameField s { leaveHold (closeEntry s) with
      seq := { (leaveHold (closeEntry s)).seq with abortMark := true }
      jack := { (leaveHold (closeEntry s)).jack with phase := .rampDown, ramp := .cleared } } :=
    .of_parts rfl rfl rfl rfl rfl rfl
  exact h.trans (logEvent_work _ _ _).sameField

/-- From `s` to `u` ABORT of a STRESS stage has come to the lowering, which is to begin in `u` (R47, R49, R160). -/
structure ToLowering (s u : State) : Prop where
  field : SameField s u
  seq : u.seq = { s.seq with held := none, abortMark := true }
  contacts : u.contacts = s.contacts
  faults : u.faults = (abortAccepted s).faults
  grout : u.drives.grout = s.drives.grout
  winch : u.drives.winch = s.drives.winch
  index : u.jack.stepIndex = s.jack.stepIndex
  schedule : u.jack.schedule = s.jack.schedule
  summary : u.eval.summary = s.eval.summary
  entries : u.eval.results.map StepEntry.index = s.eval.results.map StepEntry.index
  given : s.seq.abortMark = false →
    u.jack.phase = .rampDown ∧ u.jack.topUp = false ∧ u.eval.peak = none ∧
    u.eval.results = s.eval.results.map (entryClosed s.jack)

theorem entryClosed_index (j : Jack) (l : List StepEntry) :
    (l.map (entryClosed j)).map StepEntry.index = l.map StepEntry.index := by
  rw [List.map_map]
  refine List.map_congr_left fun e _ => ?_
  simp only [Function.comp_apply, entryClosed]
  split <;> rfl

theorem aborted_toLowering {s : State} (hs : s.seq.stage = .stress) :
    ∃ u, aborted s = startLowering u ∧ ToLowering s u := by
  obtain ⟨hseq, hdr, -, -, hjack, heval, hcon, -⟩ := abortAccepted_fields s
  have hf := abortAccepted_sameField s
  by_cases ha : s.seq.runState = .paused ∧ s.seq.abortMark = true
  · refine ⟨abortAccepted s, by simp [aborted, giveUp, hseq, hs, ha], hf, ?_, hcon, rfl, by rw [hdr], by rw [hdr],
      by rw [hjack], by rw [hjack], by rw [heval], by rw [heval], fun hn => by simp [ha.2] at hn⟩
    rw [hseq, ← ha.2]
  · obtain ⟨gseq, gjack, gdr, geval, gcon, gflt⟩ := stressGivenUp_fields (abortAccepted s)
    refine ⟨stressGivenUp (abortAccepted s), ?_, hf.trans (stressGivenUp_sameField _), by rw [gseq, hseq],
      gcon.trans hcon, gflt, by rw [gdr, hdr], by rw [gdr, hdr], by rw [gjack, hjack], by rw [gjack, hjack],
      by rw [geval, heval], ?_, fun _ => ?_⟩
    · simp only [aborted, giveUp, hseq, hs]
      rw [if_neg ha, abortStress_eq]
    · rw [geval, heval]; exact entryClosed_index _ _
    · rw [gjack, geval, heval, hjack]; exact ⟨rfl, rfl, rfl, rfl⟩

/-! ## ABORT (R47 to R49) -/

/-- An accepted ABORT that leaves state `v`, with no overload and no stroke due. -/
theorem abort_answered {s v : State} (hport : s.portFree = true) (hq : s.watchQuiet = true)
    (ha : s.abortable = true) (hv : aborted s = v) (hl : v.drivesLegal = true) (hf : SameField s v) :
    ∃ t, exec (.abort []) s = .next t ∧ Answered s codeAbort [] v t := by
  subst hv
  exact ⟨_, execAbort_accepted hport ha, answered_quiet hl (hf.watchQuiet.trans hq) hf.port⟩

/-- Where ABORT is accepted in a WINCH or GROUT stage (R47). -/
theorem abortable_of_run {s : State}
    (hr : s.seq.runState = .running ∨ s.seq.runState = .paused ∨ s.seq.runState = .faulted)
    (hs : s.seq.stage ≠ .stress) : s.abortable = true := by
  have hlock : s.lockOff = false := by simp [State.lockOff, hs]
  rcases hr with hr | hr | hr <;> simp [State.abortable, hr, hlock]

theorem abort_winch {s : State} (hport : s.portFree = true) (hl : s.drivesLegal = true)
    (hq : s.watchQuiet = true) (hst : s.standing = true)
    (hr : s.seq.runState = .running ∨ s.seq.runState = .paused ∨ s.seq.runState = .faulted)
    (hs : s.seq.stage = .winch) :
    ∃ t, exec (.abort []) s = .next t ∧ t.seq.stage = .none ∧ t.seq.runState = .idle ∧
      t.seq.jobClock = 0 ∧ t.seq.held = none ∧ t.seq.progress = s.seq.progress ∧
      t.winch = s.winch.map (fun w => { w with outcome := .aborted }) ∧ t.drives = .off ∧
      t.faults = { s.faults with pending := [], taken := none } ∧
      t.port = (s.replied codeAbort [] 0 0 []).port := by
  have ha := abortable_of_run hr (by simp [hs])
  obtain ⟨hseq, hdr, hwinch, -⟩ := abortAccepted_fields s
  obtain ⟨gseq, gwinch, gdr, gflt⟩ := abortWinch_fields (s := abortAccepted s)
  have hd : (abortWinch (abortAccepted s)).drives = .off := by
    rw [gdr, hdr, State.drives_of_winch hl hs]; rfl
  obtain ⟨t, ht, h⟩ := abort_answered hport hq ha (v := abortWinch (abortAccepted s))
    (by simp [aborted, giveUp, hseq, hs]) (State.drivesLegal_of_off hd)
    ((abortAccepted_sameField s).trans (abortWinch_sameField _))
  refine ⟨t, ht, ?_⟩
  rw [h.seq, h.winch, h.drives, h.faults, gseq, gwinch, gflt, hd, hwinch, hseq, abortAccepted_faults hst ha]
  exact ⟨rfl, rfl, rfl, rfl, rfl, rfl, rfl, rfl, h.port⟩

theorem abort_grout {s : State} (hport : s.portFree = true) (hl : s.drivesLegal = true)
    (hq : s.watchQuiet = true) (hst : s.standing = true)
    (hr : s.seq.runState = .running ∨ s.seq.runState = .paused ∨ s.seq.runState = .faulted)
    (hs : s.seq.stage = .grout) :
    ∃ t, exec (.abort []) s = .next t ∧ t.seq.stage = .none ∧ t.seq.runState = .idle ∧
      t.seq.jobClock = 0 ∧ t.seq.held = none ∧ t.seq.progress = s.seq.progress ∧
      t.seq.cure = s.seq.cure ∧
      t.grout.record = s.grout.record.map (fun r => { r with mark := .part }) ∧
      t.grout.claim = none ∧ t.grout.phase = .none ∧ t.drives = .off ∧
      t.chans.drainOpen = (s.drives.grout || s.chans.drainOpen) ∧
      t.faults = { s.faults with pending := [], taken := none } ∧
      t.port = (s.replied codeAbort [] 0 0 []).port := by
  have ha := abortable_of_run hr (by simp [hs])
  obtain ⟨hseq, hdr, -, hgrout, -, -, -, hdrain⟩ := abortAccepted_fields s
  obtain ⟨gseq, grec, gclaim, gphase, gdr, gdrain, gflt⟩ := abortGrout_fields (abortAccepted s)
  have hd : (abortGrout (abortAccepted s)).drives = .off := by
    rw [gdr, hdr, State.drives_of_grout hl hs]; rfl
  obtain ⟨t, ht, h⟩ := abort_answered hport hq ha (v := abortGrout (abortAccepted s))
    (by simp [aborted, giveUp, hseq, hs]) (State.drivesLegal_of_off hd)
    ((abortAccepted_sameField s).trans (abortGrout_sameField _))
  refine ⟨t, ht, ?_⟩
  rw [h.seq, h.grout, h.drives, h.chans, h.faults, gseq, grec, gclaim, gphase, gdrain, gflt, hd, hgrout, hdr,
    hdrain, hseq, abortAccepted_faults hst ha]
  exact ⟨rfl, rfl, rfl, rfl, rfl, rfl, rfl, rfl, rfl, rfl, rfl, rfl, h.port⟩

/-- ABORT of a STRESS stage with JACK_HOME inactive: the lowering begins (R49). -/
theorem abort_lowers {s : State} (hport : s.portFree = true) (hl : s.drivesLegal = true)
    (hq : s.watchQuiet = true) (hst : s.standing = true) (ha : s.abortable = true)
    (hs : s.seq.stage = .stress) (hj : s.contacts.jackHome.active = false) :
    ∃ t, exec (.abort []) s = .next t ∧ t.seq.stage = .stress ∧ t.seq.runState = .aborting ∧
      t.seq.abortMark = true ∧ t.seq.held = none ∧ t.seq.progress = s.seq.progress ∧
      t.drives = { Drives.off with lower := true } ∧ t.jack.stepIndex = s.jack.stepIndex ∧
      (s.seq.abortMark = false → t.jack.phase = .rampDown ∧ t.jack.topUp = false ∧ t.eval.peak = none ∧
        t.eval.results = s.eval.results.map (entryClosed s.jack)) ∧
      t.jack.lowerSecond = Test.short.holds (s.loadAgainst s.datumTarget) ∧
      t.faults = { s.faults with pending := [], taken := none } ∧
      t.port = (s.replied codeAbort [] 0 0 []).port := by
  obtain ⟨u, hu, hlow⟩ := aborted_toLowering hs
  have hus : u.seq.stage = .stress := by rw [hlow.seq]; exact hs
  have hopen := startLowering_open hus (by rw [hlow.contacts]; exact hj)
  have hoff := State.drives_of_stress hl hs
  have hd : (startLowering u).drives = { Drives.off with lower := true } := by
    rw [hopen]
    simp only [hlow.grout, hlow.winch]
    rw [hoff]
    rfl
  have hlegal : (startLowering u).drivesLegal = true :=
    State.drivesLegal_of_lower hd fun _ => by simp [hopen, State.lowerAllowed, hus]
  obtain ⟨t, ht, h⟩ := abort_answered hport hq ha hu hlegal (hlow.field.trans (startLowering_sameField u))
  have hload : u.loadAgainst u.datumTarget = s.loadAgainst s.datumTarget := by
    simp only [State.loadAgainst, State.datumTarget, State.cfg, hlow.field.filtered, hlow.field.config,
      hlow.schedule]
  refine ⟨t, ht, ?_⟩
  rw [h.seq, h.drives, h.jack, h.eval, h.faults, hd, hopen]
  exact ⟨hus, rfl, by rw [hlow.seq], by rw [hlow.seq], by rw [hlow.seq], rfl, hlow.index, hlow.given,
    congrArg Test.short.holds hload, hlow.faults.trans (abortAccepted_faults hst ha), h.port⟩

/-- ABORT of a STRESS stage with JACK_HOME active: the lowering and the stage end at once (R49, R143). -/
theorem abort_home {s : State} (hport : s.portFree = true) (hl : s.drivesLegal = true)
    (hq : s.watchQuiet = true) (hst : s.standing = true) (ha : s.abortable = true)
    (hs : s.seq.stage = .stress) (hj : s.contacts.jackHome.active = true) :
    ∃ t, exec (.abort []) s = .next t ∧ t.seq.stage = .none ∧ t.seq.runState = .idle ∧
      t.seq.jobClock = 0 ∧ t.seq.held = none ∧ t.seq.abortMark = false ∧
      t.seq.progress = s.seq.progress ∧ t.drives = .off ∧
      t.eval.summary = { s.eval.summary with jobStatus := .aborted } ∧
      t.eval.results.map StepEntry.index = s.eval.results.map StepEntry.index ∧
      (t.jack.lockedLoad = none ∧ t.jack.schedule = [] ∧ t.jack.stepIndex = 0 ∧ t.jack.phase = .none) ∧
      t.faults = { s.faults with pending := [], taken := none } ∧
      t.port = (s.replied codeAbort [] 0 0 []).port := by
  obtain ⟨u, hu, hlow⟩ := aborted_toLowering hs
  have hus : u.seq.stage = .stress := by rw [hlow.seq]; exact hs
  have hhome := startLowering_home hus (by rw [hlow.contacts]; exact hj)
  obtain ⟨gseq, gjack, gdr, gsum, gres, gflt⟩ := endAbort_fields (loweringBegun u)
  rw [← hhome] at gseq gjack gdr gsum gres gflt
  have hoff := State.drives_of_stress hl hs
  have hd : (startLowering u).drives = .off := by
    rw [gdr]
    simp only [loweringBegun, hlow.grout, hlow.winch]
    rw [hoff]
    rfl
  obtain ⟨t, ht, h⟩ := abort_answered hport hq ha hu (State.drivesLegal_of_off hd)
    (hlow.field.trans (startLowering_sameField u))
  refine ⟨t, ht, ?_⟩
  rw [h.seq, h.drives, h.jack, h.eval, h.faults, hd, gseq, gjack, gsum, gres, gflt]
  have hflt := hlow.faults.trans (abortAccepted_faults hst ha)
  refine ⟨rfl, rfl, rfl, rfl, rfl, (congrArg Sequencer.progress hlow.seq :), rfl, ?_, hlow.entries, ⟨rfl, rfl, rfl, rfl⟩,
    ?_, h.port⟩
  · exact congrArg (fun j : JobSummary => { j with jobStatus := .aborted }) hlow.summary
  · exact congrArg (fun f : FaultUnit => { f with pending := [] }) hflt

/-- Settles O34: one lemma for each stage, the two ways of a lowering, and the check that refuses. -/
theorem abortGivesTheStageUp : Obligations.AbortGivesTheStageUp := by
  intro s hport hl hq hst
  refine ⟨abort_winch hport hl hq hst, abort_grout hport hl hq hst, fun hr hs hj => ?_, fun hr hs hj => ?_,
    fun hr => ?_⟩
  · have ha : s.abortable = true := by
      rcases hr with ⟨hr | hr, ho⟩ | hr <;> simp [State.abortable, *]
    exact abort_lowers hport hl hq hst ha hs hj
  · have ha : s.abortable = true := by
      rcases hr with ⟨hr | hr, ho | ⟨hp, hm⟩⟩ | hr <;> simp_all [State.abortable]
    exact abort_home hport hl hq hst ha hs hj
  · have hc : s.configured = true ∧ s.abortable = false := by
      rcases hr with hr | hr | hr | ⟨hr | hr, ho, hm⟩ <;> simp [State.configured, State.abortable, *]
    exact congrArg Host.Outcome.next (emptyRequest_refused hport hl (why := (.wrongState, 0))
      (by simp [abortRefused, firstFailing, needConfigured, hc]) _)

end Sys2Proof.Machine
end

section
/-!
PROOF. RESUME in PAUSED with nothing due: how the work of each phase is taken up (R44).
-/
namespace Sys2Proof.Machine

/-! ## The station as RESUME finds it (R43, R44) -/

/-- RESUME in the log, and the run state RUNNING. -/
def resumeEntered (s : State) : State := setRunState .running (logEvent .resume 0 s)

theorem resumeEntered_sameField (s : State) : SameField s (resumeEntered s) :=
  SameField.trans (logEvent_work .resume 0 s).sameField (.of_parts rfl rfl rfl rfl rfl rfl)

theorem resumeEntered_fields (s : State) :
    (resumeEntered s).seq = { s.seq with runState := .running } ∧ (resumeEntered s).drives = s.drives ∧
    (resumeEntered s).winch = s.winch ∧ (resumeEntered s).grout = s.grout ∧ (resumeEntered s).jack = s.jack ∧
    (resumeEntered s).faults = s.faults ∧ (resumeEntered s).contacts = s.contacts ∧
    (resumeEntered s).table = s.table ∧ (resumeEntered s).eval = s.eval := by
  simp [resumeEntered]

/-- With the abort mark clear and nothing due an accepted RESUME takes up the work (R44, R137, R138). -/
theorem resumed_paused {s : State} (hr : s.seq.runState = .paused) (ha : s.seq.abortMark = false)
    (hq : s.watchQuiet = true) : resumed s = takeUpWork (resumeEntered s) := by
  have hquiet : (resumeEntered s).watchQuiet = true := (resumeEntered_sameField s).watchQuiet.trans hq
  have hn : s.seq.runState ≠ .stopped := by simp [hr]
  have hmark : (logEvent .resume 0 s).seq.abortMark = false := by simpa using ha
  unfold resumed
  simp only [if_neg hn]
  unfold resumePaused
  rw [if_neg (by rw [hmark]; decide)]
  exact besideKinds_quiet (watchAsked_quiet hquiet) _

/-- With the abort mark set the lowering begins again (R44, R49). -/
theorem resumed_lowering {s : State} (hr : s.seq.runState = .paused) (ha : s.seq.abortMark = true) :
    resumed s = startLowering (logEvent .resume 0 s) := by
  have hn : s.seq.runState ≠ .stopped := by simp [hr]
  have hmark : (logEvent .resume 0 s).seq.abortMark = true := by simpa using ha
  unfold resumed
  simp only [if_neg hn]
  unfold resumePaused
  rw [if_pos hmark]

theorem takeUpWork_free {s : State} (hh : s.seq.held = none) :
    takeUpWork (resumeEntered s) = resumeWork (resumeEntered s) := by
  obtain ⟨hseq, -⟩ := resumeEntered_fields s
  unfold takeUpWork
  rw [if_pos (by rw [hseq])]
  simp [hseq, hh]

theorem takeUpWork_held {s : State} {b : Boundary} (hh : s.seq.held = some b) :
    takeUpWork (resumeEntered s) = passHeld b (resumeEntered s) := by
  obtain ⟨hseq, -⟩ := resumeEntered_fields s
  unfold takeUpWork
  rw [if_pos (by rw [hseq])]
  simp [hseq, hh]

/-- In PAUSED no drive is on but the raise valve of a hold (R53). -/
theorem State.drives_of_paused {s : State} (h : s.drivesLegal = true) (hr : s.seq.runState = .paused)
    (hp : s.seq.stage = .stress → s.jack.phase ≠ .hold) : s.drives = .off := by
  have hraise : s.raiseAllowed = false := by
    by_cases hs : s.seq.stage = .stress
    · simp [State.raiseAllowed, hr, hp hs]
    · simp [State.raiseAllowed, hs]
  obtain ⟨h1, h2, h3, h4, h5⟩ := State.drives_shut h
  exact Drives.ext_lower (h1 hraise) (h2 (by simp [State.lowerAllowed, hr])) (h3 (by simp [State.seatingAllowed, hr]))
    (h4 (by simp [State.groutAllowed, hr])) (h5 (by simp [State.winchAllowed, hr]))

/-! ## Grout control taken up (R94, R98, R110, R112) -/

/-- CLEAR is true on a value that is valid and not over (R20). -/
theorem Test.over_of_clear {c : Condition} (h : Test.clear.holds c = true) :
    c ≠ .void ∧ Test.overTest.holds c = false := by
  cases c <;> simp_all [Test.holds]

/-- OVER is true on a value that is valid and not clear (R20). -/
theorem Test.clear_of_over {c : Condition} (h : Test.overTest.holds c = true) :
    c ≠ .void ∧ Test.clear.holds c = false := by
  cases c <;> simp_all [Test.holds]

/-- A pressure within its limit leaves the grout valve open (R110). -/
theorem throttleDecision_open {reach : Boundary → State → State} {s : State} {r : GroutRecord}
    (hr : s.grout.record = some r) (hg : s.grouting = true) (hd : s.grout.phase = .draw)
    (hc : s.grout.claim.isSome = true)
    (hx : Test.clear.holds (compareNat (s.filtered .gp) r.limit 0) = true) :
    throttleDecision reach s = if s.drives.grout then s else openGrout s := by
  obtain ⟨hv, ho⟩ := Test.over_of_clear hx
  unfold throttleDecision
  simp only [hr, hg, hd, hc, beq_self_eq_true, Bool.and_self, if_true]
  exact unaware_false _ _ s hv ho

/-- The grout gate on main 0 passes into a claim (R98). -/
theorem groutGate_alone {s : State} (hg : s.grouting = true) (hw : s.grout.phase = .wait)
    (hm : s.cfg Setup.main 0 = 0) (hp : s.faults.pending = []) :
    groutGate reach s =
      throttleDecision (reachWith (proceed 31)) (startClaim { s with seq := { s.seq with held := none } }) := by
  unfold groutGate
  simp only [hg, hw, hm, beq_self_eq_true, Bool.and_self, if_true]
  rw [reach, reachWith_pass hp]
  rfl

theorem State.drawers_congr {s t : State} (h : SameField s t) : t.drawers = s.drawers := by
  have hd : t.isDrawer = s.isDrawer := funext fun e => by simp only [State.isDrawer, State.cfg, h.config]
  simp only [State.drawers, hd, h.entries]

theorem State.cfg_congr {s t : State} (h : SameField s t) {α : Type} (f : Setup → α) (d : α) :
    t.cfg f d = s.cfg f d := by
  simp only [State.cfg, h.config]

/-! ## The lock approach taken up (R125) -/

/-- The approach made (R125). -/
def approachMade (s : State) : State := { s with jack := { s.jack with approach := .made } }

/-- What the pending approach does with a load that stands so against the step target (R125). -/
def approachTaken (s : State) : Condition → State
  | .void => s
  | .below => raiseGate reach (approachMade s)
  | .above => reach .approachAbove (approachMade s)
  | .within => reach .approachWithin (approachMade s)

theorem lockApproach_pending {s : State} (h : s.stressing .raiseWait = true)
    (ha : s.jack.approach = .pending) :
    raiseWaitWork reach s = approachTaken s (s.loadAgainst s.stepTarget) := by
  unfold raiseWaitWork lockApproach
  rw [if_pos ha, if_pos (by simp [h, ha])]
  dsimp only
  cases s.loadAgainst s.stepTarget <;> rfl

/-- A load over the step target keeps the lower valve open (R129). -/
theorem unloadStop_over {reach : Boundary → State → State} {s : State} (h : s.stressing .rampDown = true)
    (hx : Test.overTest.holds (s.loadAgainst s.stepTarget) = true) :
    unloadStop reach s = { s with drives := { s.drives with lower := true } } := by
  obtain ⟨hv, hc⟩ := Test.clear_of_over hx
  unfold unloadStop
  rw [if_pos h]
  exact unaware_false _ _ s hv hc

/-- SEATING under way with SEAT inactive (R133). -/
theorem startSeating_on {reach : Boundary → State → State} {s : State} (h : s.contacts.seat.active = false) :
    startSeating reach s =
      { s with
        jack := { s.jack with lockOffTimer := 0 }, drives := { s.drives with seating := true } } := by
  unfold startSeating
  dsimp only
  rw [if_neg (by simp [h])]

/-- RELEASE under way with JACK_HOME inactive (R134). -/
theorem startRelease_on {reach : Boundary → State → State} {s : State} (h : s.contacts.jackHome.active = false) :
    startRelease reach s =
      { s with
        jack := { s.jack with lockOffTimer := 0 }, drives := { s.drives with lower := true } } := by
  unfold startRelease
  dsimp only
  rw [if_neg (by simp [h])]

/-! ## The work of each phase (R44) -/

/-- What RESUME takes up of a phase: RUNNING, with the drives in their rows, and the parts `p` of the work. -/
def TakenUp (s : State) (p : State → Prop) : Prop :=
  (resumeWork (resumeEntered s)).drivesLegal = true ∧
  (resumeWork (resumeEntered s)).seq.runState = .running ∧ p (resumeWork (resumeEntered s))

theorem takenUp_winch {s : State} {w : WinchRecord} (hl : s.drivesLegal = true)
    (hr : s.seq.runState = .paused) (hs : s.seq.stage = .winch) (hw : s.winch = some w)
    (hx : Test.short.holds (compareNat (s.filtered .wl) w.target 0) = true)
    (hy : Test.overTest.holds (compareNat (s.filtered .wt) w.snag 0) = false) :
    TakenUp s fun v => v.drives = { Drives.off with winch := true } ∧
      v.winch = some { w with stallRef := s.filtered .wl, stallTimer := 0 } := by
  obtain ⟨hseq, hdr, hwr, -⟩ := resumeEntered_fields s
  have hf := resumeEntered_sameField s
  have hoff := State.drives_of_paused hl hr (by simp [hs])
  have hwork : resumeWork (resumeEntered s) =
      { resumeEntered s with
        drives := { Drives.off with winch := true }
        winch := some { w with stallRef := s.filtered .wl, stallTimer := 0 } } := by
    have hw' : (resumeEntered s).winch = some w := hwr.trans hw
    have hstage : resumeWork (resumeEntered s) = winchDecisions reach (resumeEntered s) := by
      simp [resumeWork, hseq, hs]
    rw [hstage, winchDecisions_clear hw' (by rw [hf.filtered]; exact hy),
      lengthDecision_short hw' (by simp [State.winching, hseq, hs]) (by rw [hf.filtered]; exact hx),
      winchOn_shut (hdr.trans hoff) hw' (hf.filtered .wl)]
  rw [TakenUp, hwork]
  exact ⟨by simp [State.drivesLegal, State.winchAllowed, Drives.off, hseq, hs], by rw [hseq], rfl, rfl⟩

/-- RESUME in a phase whose work needs nothing taken up (R44). -/
theorem takenUp_still {s : State} (hl : s.drivesLegal = true) (hr : s.seq.runState = .paused)
    (hw : resumeWork (resumeEntered s) = resumeEntered s) : TakenUp s fun v => v = resumeEntered s := by
  obtain ⟨hseq, hdr, -, -, hjack, -⟩ := resumeEntered_fields s
  rw [TakenUp, hw]
  refine ⟨?_, by rw [hseq], rfl⟩
  by_cases hh : s.seq.stage = .stress ∧ s.jack.phase = .hold
  · have hd := State.drives_of_stress hl hh.1
    have hd' : s.drives = { Drives.off with raise := s.drives.raise } := by
      refine hd.trans ?_
      simp [State.raiseAllowed, State.lowerAllowed, State.seatingAllowed, hr, hh, Drives.off, show
        (RunState.paused == RunState.running) = false from rfl, show (RunState.paused == RunState.aborting) = false from rfl]
    rw [State.drivesLegal, hdr, hd']
    simp [State.raiseAllowed, hseq, hjack, hh, Drives.off]
  · exact State.drivesLegal_of_off (hdr.trans (State.drives_of_paused hl hr fun hs hp => hh ⟨hs, hp⟩))

theorem takenUp_draw {s : State} {r : GroutRecord} (hl : s.drivesLegal = true)
    (hr : s.seq.runState = .paused) (hs : s.seq.stage = .grout) (hp : s.grout.phase = .draw)
    (hc : s.grout.claim.isSome = true) (hrec : s.grout.record = some r)
    (hx : Test.clear.holds (compareNat (s.filtered .gp) r.limit 0) = true) :
    TakenUp s fun v => v.grout = s.grout ∧ v.drives = { Drives.off with grout := true } := by
  obtain ⟨hseq, hdr, -, hgr, -⟩ := resumeEntered_fields s
  have hoff := State.drives_of_paused hl hr (by simp [hs])
  have hwork : resumeWork (resumeEntered s) = openGrout (resumeEntered s) := by
    have hstage : resumeWork (resumeEntered s) = throttleDecision reach (resumeEntered s) := by
      simp [resumeWork, hseq, hs, hgr, hp]
    rw [hstage, throttleDecision_open (by rw [hgr]; exact hrec) (by simp [State.grouting, hseq, hs])
      (by rw [hgr]; exact hp) (by rw [hgr]; exact hc) (by rw [(resumeEntered_sameField s).filtered]; exact hx),
      if_neg (by rw [hdr, hoff]; decide)]
  have hd : (openGrout (resumeEntered s)).drives = { Drives.off with grout := true } := by
    rw [openGrout_drives, hdr, hoff]
  rw [TakenUp, hwork]
  refine ⟨?_, by simp [hseq], by simp [hgr], hd⟩
  rw [State.drivesLegal, hd]
  simp [State.groutAllowed, hseq, hs, hgr, hp, hc, Drives.off]

theorem takenUp_wait {s : State} (hl : s.drivesLegal = true) (hr : s.seq.runState = .paused)
    (hs : s.seq.stage = .grout) (hp : s.grout.phase = .wait) (hc : s.grout.claim = none)
    (hn : s.faults.pending = []) (hm : s.cfg Setup.main 0 ≠ 0) :
    TakenUp s fun v => v.grout.claim = none ∧ v.drives = .off ∧
      v.grout.phase = if s.drawers < s.cfg Setup.concurrency 0 then .intent else .wait := by
  obtain ⟨hseq, hdr, -, hgr, -, hflt, -⟩ := resumeEntered_fields s
  have hf := resumeEntered_sameField s
  have hoff := State.drives_of_paused hl hr (by simp [hs])
  have hstage : resumeWork (resumeEntered s) = groutGate reach (resumeEntered s) := by
    simp [resumeWork, hseq, hs, hgr, hp]
  rw [TakenUp, hstage, groutGate_shared (by simp [State.grouting, hseq, hs]) (by rw [hgr]; exact hp)
    (by rw [State.cfg_congr hf]; exact hm) (by rw [hflt]; exact hn), State.drawers_congr hf, State.cfg_congr hf]
  split
  · exact ⟨State.drivesLegal_of_off (hdr.trans hoff), by rw [hseq], by rw [hgr]; exact hc, hdr.trans hoff, rfl⟩
  · exact ⟨State.drivesLegal_of_off (hdr.trans hoff), by rw [hseq], by rw [hgr]; exact hc, hdr.trans hoff,
      by rw [hgr]; exact hp⟩

theorem takenUp_alone {s : State} {r : GroutRecord} (hl : s.drivesLegal = true)
    (hr : s.seq.runState = .paused) (hs : s.seq.stage = .grout) (hp : s.grout.phase = .wait)
    (hn : s.faults.pending = []) (hm : s.cfg Setup.main 0 = 0) (hrec : s.grout.record = some r)
    (hx : Test.clear.holds (compareNat (s.filtered .gp) r.limit 0) = true) :
    TakenUp s fun v => v.grout.phase = .draw ∧ v.grout.claim = some { ticks := 0, throttles := 0 } ∧
      v.drives = { Drives.off with grout := true } := by
  obtain ⟨hseq, hdr, -, hgr, -, hflt, -⟩ := resumeEntered_fields s
  have hf := resumeEntered_sameField s
  have hoff := State.drives_of_paused hl hr (by simp [hs])
  have hstage : resumeWork (resumeEntered s) = groutGate reach (resumeEntered s) := by
    simp [resumeWork, hseq, hs, hgr, hp]
  generalize hu : startClaim { resumeEntered s with seq := { (resumeEntered s).seq with held := none } } = u
  have huq : u.seq = { s.seq with runState := .running, held := none } := by rw [← hu, startClaim_seq, hseq]
  have hug : u.grout = { s.grout with
      record := some { r with claimsMade := min (r.claimsMade + 1) 255 }
      phase := .draw, claim := some { ticks := 0, throttles := 0 } } := by
    rw [← hu, startClaim_grout]; simp only [hgr, hrec]; rfl
  have hud : u.drives = .off := by rw [← hu, startClaim_drives]; exact hdr.trans hoff
  have huf : u.filtered .gp = s.filtered .gp := by
    rw [← hu, (startClaim_work _).sameField.filtered]
    exact hf.filtered .gp
  have hwork : resumeWork (resumeEntered s) = openGrout u := by
    rw [hstage, groutGate_alone (by simp [State.grouting, hseq, hs]) (by rw [hgr]; exact hp)
      (by rw [State.cfg_congr hf]; exact hm) (by rw [hflt]; exact hn), hu,
      throttleDecision_open (by rw [hug]) (by simp [State.grouting, huq, hs]) (by rw [hug]) (by rw [hug]; rfl)
        (by rw [huf]; exact hx), if_neg (by rw [hud]; decide)]
  have hd : (openGrout u).drives = { Drives.off with grout := true } := by rw [openGrout_drives, hud]
  rw [TakenUp, hwork]
  refine ⟨?_, by simp [huq], by simp [hug], by simp [hug], hd⟩
  rw [State.drivesLegal, hd]
  simp [State.groutAllowed, huq, hug, hs, Drives.off]

theorem takenUp_reopened {s : State} {r : GroutRecord} (hl : s.drivesLegal = true)
    (hr : s.seq.runState = .paused) (hs : s.seq.stage = .grout) (hp : s.grout.phase = .throttled)
    (hn : s.faults.pending = []) (hc : s.grout.claim.isSome = true) (hrec : s.grout.record = some r)
    (hx : Test.short.holds (compareNat (s.filtered .gp) r.reopen 0) = true)
    (hy : Test.clear.holds (compareNat (s.filtered .gp) r.limit 0) = true) :
    TakenUp s fun v => v.grout = { s.grout with phase := .draw } ∧
      v.drives = { Drives.off with grout := true } := by
  obtain ⟨hseq, hdr, -, hgr, -, hflt, -⟩ := resumeEntered_fields s
  have hf := resumeEntered_sameField s
  have hoff := State.drives_of_paused hl hr (by simp [hs])
  generalize hu : ({ openGrout (resumeEntered s) with
    seq := { (resumeEntered s).seq with held := none }
    grout := { (resumeEntered s).grout with phase := .draw } } : State) = u
  have huq : u.seq = { s.seq with runState := .running, held := none } := by rw [← hu]; simp only [hseq]
  have hug : u.grout = { s.grout with phase := .draw } := by rw [← hu]; simp only [hgr]
  have hud : u.drives = { Drives.off with grout := true } := by
    rw [← hu]; simp only [openGrout_drives, hdr, hoff]
  have huf : u.filtered .gp = s.filtered .gp := by rw [← hu]; exact hf.filtered .gp
  have hwork : resumeWork (resumeEntered s) = u := by
    have hstage : resumeWork (resumeEntered s) = reopenDecision reach (resumeEntered s) := by
      simp [resumeWork, hseq, hs, hgr, hp]
    have hreopen : reopenDecision reach (resumeEntered s) = reach .reopened (openGrout (resumeEntered s)) := by
      unfold reopenDecision
      rw [hgr, hrec]
      simp only [hp, hc, hf.filtered, hx, State.grouting, hseq, hs, beq_self_eq_true, Bool.and_self, if_true]
    have hpass : reach .reopened (openGrout (resumeEntered s)) = throttleDecision (reachWith (proceed 31)) u := by
      rw [reach, reachWith_pass (by simpa [hflt] using hn), ← hu]
      rfl
    rw [hstage, hreopen, hpass, throttleDecision_open (by rw [hug]; exact hrec) (by simp [State.grouting, huq, hs])
      (by rw [hug]) (by rw [hug]; exact hc) (by rw [huf]; exact hy), if_pos (by rw [hud])]
  rw [TakenUp, hwork]
  refine ⟨?_, by rw [huq], hug, hud⟩
  rw [State.drivesLegal, hud]
  simp [State.groutAllowed, huq, hug, hs, hc, Drives.off]

theorem takenUp_throttled {s : State} {r : GroutRecord} (hs : s.seq.stage = .grout)
    (hp : s.grout.phase = .throttled) (hrec : s.grout.record = some r)
    (hx : Test.short.holds (compareNat (s.filtered .gp) r.reopen 0) = false) :
    resumeWork (resumeEntered s) = resumeEntered s := by
  obtain ⟨hseq, -, -, hgr, -⟩ := resumeEntered_fields s
  have hstage : resumeWork (resumeEntered s) = reopenDecision reach (resumeEntered s) := by
    simp [resumeWork, hseq, hs, hgr, hp]
  rw [hstage]
  unfold reopenDecision
  rw [hgr, hrec]
  simp only [(resumeEntered_sameField s).filtered, hx, Bool.and_false, Bool.false_eq_true, if_false]

end Sys2Proof.Machine
end

section
/-!
PROOF. RESUME in PAUSED with nothing due: the work of a STRESS stage taken up, the lowering begun again, and every row together
(R44).
-/
namespace Sys2Proof.Machine

/-! ## SEATING on into RELEASE and SETTLE (R133, R134) -/

theorem startRelease_table (n : Nat) {s : State} (hn : s.faults.pending = []) :
    (startRelease (reachWith (proceed (n + 1))) s).table = s.table := by
  by_cases hj : s.contacts.jackHome.active = true
  · unfold startRelease
    dsimp only
    rw [if_pos hj, reachWith_pass (by exact hn)]
    exact setStepPhase_table _ _
  · rw [startRelease_on (by simpa using hj)]

theorem proceed_seatingEnd_table (n : Nat) {s : State} (hn : s.faults.pending = []) :
    (proceed (n + 2) .seatingEnd s).table = s.table :=
  (startRelease_table n (s := setStepPhase .release { s with seq := { s.seq with held := none } })
    (by simpa using hn)).trans (setStepPhase_table _ _)

/-- SEATING from drives that are off stays RUNNING with the drives in their rows, wherever SEAT and JACK_HOME stand (R133,
R134). -/
theorem startSeating_running (n : Nat) {s : State} (hs : s.seq.stage = .stress) (hr : s.seq.runState = .running)
    (hp : s.jack.phase = .seating) (hn : s.faults.pending = []) (hd : s.drives = .off) :
    (startSeating (reachWith (proceed (n + 2))) s).drivesLegal = true ∧
    (startSeating (reachWith (proceed (n + 2))) s).seq.runState = .running ∧
    (startSeating (reachWith (proceed (n + 2))) s).table = s.table := by
  by_cases hc : s.contacts.seat.active = true
  · generalize hu : ({ s with
      drives := { s.drives with seating := false }
      jack := { s.jack with lockOffTimer := 0 } } : State) = u
    have hun : u.faults.pending = [] := by rw [← hu]; exact hn
    have hpass : startSeating (reachWith (proceed (n + 2))) s = proceed (n + 2) .seatingEnd u := by
      unfold startSeating
      dsimp only
      rw [if_pos hc, reachWith_pass (by exact hn), ← hu]
    obtain ⟨⟨hq, hk, -⟩, hdr⟩ := proceed_seatingEnd n hun
    rw [hpass]
    refine ⟨State.drivesLegal_of_lower (l := !u.contacts.jackHome.active) ?_ fun hl => ?_, by rw [hq, ← hu]; exact hr,
      (proceed_seatingEnd_table n hun).trans (by rw [← hu])⟩
    · rw [hdr, ← hu, hd]; rfl
    · have hj : u.contacts.jackHome.active = false := by simpa using hl
      rw [State.lowerAllowed, hq, hk, hj, ← hu]
      simp [hs, hr]
  · rw [startSeating_on (by simpa using hc)]
    refine ⟨?_, hr, rfl⟩
    simp [State.drivesLegal, State.seatingAllowed, hd, hs, hr, hp, Drives.off]

/-! ## The work of RAISE_WAIT (R85, R125) -/

section
variable {s : State}

theorem TakenUp.mono {p q : State → Prop} (h : TakenUp s p) (hpq : ∀ v, p v → q v) : TakenUp s q :=
  ⟨h.1, h.2.1, hpq _ h.2.2⟩

/-- The load against the step target reads the configuration, the filtered LOAD and the schedule (R126). -/
theorem loadAgainst_stepTarget {t : State} (h : SameField s t) (hj : t.jack.schedule = s.jack.schedule)
    (hi : t.jack.stepIndex = s.jack.stepIndex) : t.loadAgainst t.stepTarget = s.loadAgainst s.stepTarget := by
  simp only [State.loadAgainst, State.stepTarget, State.currentStep, hj, hi, State.cfg_congr h, h.filtered]

theorem resumeEntered_load :
    (resumeEntered s).loadAgainst (resumeEntered s).stepTarget = s.loadAgainst s.stepTarget :=
  loadAgainst_stepTarget (resumeEntered_sameField s) (by simp [resumeEntered]) (by simp [resumeEntered])

/-- What the pending approach does with the load as it stands (R125). -/
theorem resumeWork_approach (hs : s.seq.stage = .stress) (hp : s.jack.phase = .raiseWait) (ha : s.jack.approach = .pending) :
    resumeWork (resumeEntered s) =
      approachTaken (resumeEntered s) (s.loadAgainst s.stepTarget) := by
  obtain ⟨hseq, -, -, -, hjack, -⟩ := resumeEntered_fields s
  have hwork : resumeWork (resumeEntered s) = raiseWaitWork reach (resumeEntered s) := by
    simp [resumeWork, hseq, hs, hjack, hp]
  rw [hwork, lockApproach_pending (by simp [State.stressing, hseq, hs, hjack, hp]) (by rw [hjack]; exact ha),
    resumeEntered_load]

theorem takenUp_void (hl : s.drivesLegal = true) (hr : s.seq.runState = .paused)
    (hs : s.seq.stage = .stress) (hp : s.jack.phase = .raiseWait)
    (ha : s.jack.approach = .pending)
    (hx : s.loadAgainst s.stepTarget = .void) :
    TakenUp s fun v => v.table.gateTimer = s.table.gateTimer ∧ v.jack = s.jack ∧ v.drives = .off := by
  obtain ⟨-, hdr, -, -, hjack, -, -, htab, -⟩ := resumeEntered_fields s
  refine (takenUp_still hl hr ?_).mono fun v hv => ?_
  · rw [resumeWork_approach hs hp ha, hx]
    rfl
  · rw [hv, htab, hjack, hdr]
    exact ⟨rfl, rfl, State.drives_of_paused hl hr (by simp [hp])⟩

/-- A phase of GROUT whose work needs nothing taken up (R44). -/
theorem takenUp_groutStill (hl : s.drivesLegal = true) (hr : s.seq.runState = .paused)
    (hs : s.seq.stage = .grout) (hw : resumeWork (resumeEntered s) = resumeEntered s) :
    TakenUp s fun v => v.grout = s.grout ∧ v.drives = .off := by
  obtain ⟨-, hdr, -, hgr, -⟩ := resumeEntered_fields s
  refine (takenUp_still hl hr hw).mono fun v hv => ?_
  rw [hv, hgr, hdr]
  exact ⟨rfl, State.drives_of_paused hl hr (by simp [hs])⟩

/-- What the raise gate leaves of RAISE_WAIT, from a state with the drives off. -/
theorem Gated.legal {u v : State} (h : Gated u v) (hd : u.drives = .off) :
    v.drivesLegal = true ∧ v.seq.runState = u.seq.runState ∧ v.drives = .off := by
  have hoff := h.drives.trans hd
  refine ⟨State.drivesLegal_of_off hoff, ?_, hoff⟩
  rw [h.seq]

/-- One drive of the jack on in its row, with the lock-off timer as the phase takes it up. -/
theorem takenUp_driven {d : Drives} {j : Jack}
    (hw : resumeWork (resumeEntered s) = { resumeEntered s with jack := j, drives := d })
    (hd : State.drivesLegal { resumeEntered s with jack := j, drives := d } = true) :
    TakenUp s fun v => v.jack = j ∧ v.drives = d := by
  obtain ⟨hseq, -⟩ := resumeEntered_fields s
  rw [TakenUp, hw]
  exact ⟨hd, by rw [hseq], rfl, rfl⟩

end

section
variable {s : State} (hl : s.drivesLegal = true) (hr : s.seq.runState = .paused) (hs : s.seq.stage = .stress)
  (hn : s.faults.pending = [])
include hl hr hs hn

/-- With no approach pending the gate is evaluated at once (R85). -/
theorem takenUp_gate (hp : s.jack.phase = .raiseWait) (ha : s.jack.approach ≠ .pending) :
    TakenUp s fun v => v.table.gateTimer = s.table.gateTimer ∧
      v.jack = { s.jack with phase := if v.raiseConditions = true then .raiseIntent else .raiseWait } ∧
      v.drives = .off := by
  obtain ⟨hseq, hdr, -, -, hjack, hflt, -, htab, -⟩ := resumeEntered_fields s
  have hoff := hdr.trans (State.drives_of_paused hl hr (by simp [hp]))
  have hwork : resumeWork (resumeEntered s) = raiseGate reach (resumeEntered s) := by
    simp [resumeWork, hseq, hs, hjack, hp, raiseWaitWork, ha]
  have hg : Gated (resumeEntered s) (raiseGate reach (resumeEntered s)) :=
    raiseGate_gated 31 (by rw [hseq]; exact hs) (by rw [hjack]; exact hp) (by rw [hjack]; exact ha) (by rw [hflt, hn])
  obtain ⟨hlegal, hrun, hd⟩ := hg.legal hoff
  rw [TakenUp, hwork]
  exact ⟨hlegal, by rw [hrun, hseq], by rw [hg.gateTimer, htab], hg.jack.trans (by rw [hjack]), hd⟩

theorem takenUp_below (hp : s.jack.phase = .raiseWait) (ha : s.jack.approach = .pending)
    (hx : s.loadAgainst s.stepTarget = .below) :
    TakenUp s fun v => v.table.gateTimer = s.table.gateTimer ∧
      v.jack =
        { s.jack with
          approach := .made
          phase := if v.raiseConditions = true then .raiseIntent else .raiseWait } ∧
      v.drives = .off := by
  obtain ⟨hseq, hdr, -, -, hjack, hflt, -, htab, -⟩ := resumeEntered_fields s
  have hoff : (approachMade (resumeEntered s)).drives = .off :=
    hdr.trans (State.drives_of_paused hl hr (by simp [hp]))
  have hg : Gated (approachMade (resumeEntered s)) (raiseGate reach (approachMade (resumeEntered s))) :=
    raiseGate_gated 31 (by simp [approachMade, hseq, hs]) (by simp [approachMade, hjack, hp]) (by simp [approachMade])
      (by simp [approachMade, hflt, hn])
  obtain ⟨hlegal, hrun, hd⟩ := hg.legal hoff
  rw [TakenUp, resumeWork_approach hs hp ha, hx, approachTaken]
  exact ⟨hlegal, by rw [hrun]; simp [approachMade, hseq], by rw [hg.gateTimer]; simp [approachMade, htab],
    hg.jack.trans (by simp only [approachMade, hjack]), hd⟩

theorem takenUp_above (hp : s.jack.phase = .raiseWait) (ha : s.jack.approach = .pending)
    (hx : s.loadAgainst s.stepTarget = .above) :
    TakenUp s fun v => v.table.gateTimer = s.table.gateTimer ∧
      v.jack = { s.jack with approach := .made, phase := .rampDown } ∧
      v.drives = { Drives.off with lower := true } := by
  obtain ⟨hseq, hdr, -, -, hjack, hflt, -, htab, -⟩ := resumeEntered_fields s
  generalize hu : setStepPhase .rampDown { approachMade (resumeEntered s) with
    seq := { (approachMade (resumeEntered s)).seq with held := none } } = u
  have huq : u.seq = { s.seq with runState := .running, held := none } := by
    rw [← hu]; simp [approachMade, hseq]
  have huj : u.jack = { s.jack with approach := .made, phase := .rampDown } := by
    rw [← hu]; simp [approachMade, hjack]
  have hud : u.drives = .off := by
    rw [← hu, setStepPhase_drives]
    exact hdr.trans (State.drives_of_paused hl hr (by simp [hp]))
  have hload : u.loadAgainst u.stepTarget = .above := by
    rw [loadAgainst_stepTarget (s := resumeEntered s) (t := u) ?_ (by rw [huj, hjack]) (by rw [huj, hjack]),
      resumeEntered_load, hx]
    rw [← hu]
    exact SameField.trans (t := { approachMade (resumeEntered s) with
        seq := { (approachMade (resumeEntered s)).seq with held := none } })
      (.of_parts rfl rfl rfl rfl rfl rfl) (setStepPhase_work _ _).sameField
  have hwork : resumeWork (resumeEntered s) = { u with drives := { u.drives with lower := true } } := by
    have hpass : reach .approachAbove (approachMade (resumeEntered s)) = unloadStop (reachWith (proceed 31)) u := by
      rw [reach, reachWith_pass (by simp [approachMade, hflt, hn]), ← hu]
      rfl
    rw [resumeWork_approach hs hp ha, hx, approachTaken, hpass,
      unloadStop_over (by simp [State.stressing, huq, huj, hs]) (by rw [hload]; rfl)]
  rw [TakenUp, hwork, hud]
  refine ⟨?_, by rw [huq], ?_, huj, rfl⟩
  · simp [State.drivesLegal, State.lowerAllowed, Drives.off, huq, huj, hs]
  · rw [← htab, ← hu, setStepPhase_table]; rfl

theorem takenUp_within (hp : s.jack.phase = .raiseWait) (ha : s.jack.approach = .pending)
    (hx : s.loadAgainst s.stepTarget = .within) :
    TakenUp s fun v => v.table.gateTimer = s.table.gateTimer ∧
      (s.contacts.seat.active = false →
        v.jack = { s.jack with approach := .made, phase := .seating, lockOffTimer := 0 } ∧
        v.drives = { Drives.off with seating := true }) := by
  obtain ⟨hseq, hdr, -, -, hjack, hflt, hcon, htab, -⟩ := resumeEntered_fields s
  generalize hw : setStepPhase .seating { approachMade (resumeEntered s) with
    seq := { (approachMade (resumeEntered s)).seq with held := none } } = w
  generalize hu : updateEntry (fun e => if e.reached.isNone then { e with reached := w.filtered .load } else e) w = u
  have huq : u.seq = { s.seq with runState := .running, held := none } := by
    rw [← hu, ← hw]; simp [updateEntry, approachMade, hseq]
  have huj : u.jack = { s.jack with approach := .made, phase := .seating } := by
    rw [← hu, ← hw]; simp [updateEntry, approachMade, hjack]
  have hud : u.drives = .off := by
    rw [← hu, ← hw]
    simp only [updateEntry, setStepPhase_drives]
    exact hdr.trans (State.drives_of_paused hl hr (by simp [hp]))
  have huf : u.faults.pending = [] := by
    rw [← hu, ← hw]
    simp [updateEntry, approachMade, hflt, hn]
  have huc : u.contacts = s.contacts := by
    rw [← hu, ← hw]
    simp [updateEntry, approachMade, hcon]
  have hut : u.table = s.table := by
    rw [← hu, ← hw]
    simp [updateEntry, approachMade, htab]
  have hwork : resumeWork (resumeEntered s) = startSeating (reachWith (proceed 31)) u := by
    have hpass : reach .approachWithin (approachMade (resumeEntered s)) = startSeating (reachWith (proceed 31)) u := by
      rw [reach, reachWith_pass (by simp [approachMade, hflt, hn]), ← hu, ← hw]
      rfl
    rw [resumeWork_approach hs hp ha, hx, approachTaken, hpass]
  obtain ⟨hlegal, hrun, htable⟩ := startSeating_running 29 (s := u) (by rw [huq]; exact hs) (by rw [huq])
    (by rw [huj]) huf hud
  rw [TakenUp, hwork]
  refine ⟨hlegal, hrun, by rw [htable, hut], fun hc => ?_⟩
  rw [startSeating_on (by rw [huc]; exact hc), huj, hud]
  exact ⟨rfl, rfl⟩

/-- In RAISE_WAIT the work is taken up RUNNING, and the gate timer goes on (R44, R92). -/
theorem takenUp_raiseWait (hp : s.jack.phase = .raiseWait) :
    TakenUp s fun v => v.table.gateTimer = s.table.gateTimer := by
  by_cases ha : s.jack.approach = .pending
  · cases hx : s.loadAgainst s.stepTarget with
    | void => exact (takenUp_void hl hr hs hp ha hx).mono fun _ h => h.1
    | below => exact (takenUp_below hl hr hs hn hp ha hx).mono fun _ h => h.1
    | above => exact (takenUp_above hl hr hs hn hp ha hx).mono fun _ h => h.1
    | within => exact (takenUp_within hl hr hs hn hp ha hx).mono fun _ h => h.1
  · exact (takenUp_gate hl hr hs hn hp ha).mono fun _ h => h.1

/-! ## The other phases of STRESS (R44) -/

/-- A ramp that PAUSE stopped goes back to its gate (R44). -/
theorem takenUp_rampUp (hp : s.jack.phase = .rampUp) (ha : s.jack.approach ≠ .pending) :
    TakenUp s fun v => v.drives = .off ∧ v.table.gateTimer = 0 ∧
      v.jack.phase = if v.raiseConditions = true then .raiseIntent else .raiseWait := by
  obtain ⟨hseq, hdr, -, -, hjack, hflt, -⟩ := resumeEntered_fields s
  generalize hu : resetGateTimer (setStepPhase .raiseWait (resumeEntered s)) = u
  have hwork : resumeWork (resumeEntered s) = raiseGate reach u := by
    rw [← hu]
    simp [resumeWork, hseq, hs, hjack, hp]
  have huq : u.seq = { s.seq with runState := .running } := by rw [← hu]; simp [resetGateTimer, hseq]
  have huj : u.jack = { s.jack with phase := .raiseWait } := by rw [← hu]; simp [resetGateTimer, hjack]
  have hud : u.drives = .off := by
    rw [← hu]
    simp only [resetGateTimer, setStepPhase_drives]
    exact hdr.trans (State.drives_of_paused hl hr (by simp [hp]))
  have hg : Gated u (raiseGate reach u) :=
    raiseGate_gated 31 (by rw [huq]; exact hs) (by rw [huj]) (by rw [huj]; exact ha)
      (by rw [← hu]; simp [resetGateTimer, hflt, hn])
  obtain ⟨hlegal, hrun, hd⟩ := hg.legal hud
  rw [TakenUp, hwork]
  refine ⟨hlegal, by rw [hrun, huq], hd, ?_, congrArg Jack.phase hg.jack⟩
  rw [hg.gateTimer, ← hu]
  rfl

end

section
variable {s : State} (hl : s.drivesLegal = true) (hr : s.seq.runState = .paused) (hs : s.seq.stage = .stress)
include hl hr hs

/-- A hold keeps its work, with a top-up as it stands (R44, R131). -/
theorem takenUp_hold (hp : s.jack.phase = .hold) :
    TakenUp s fun v => v.jack = s.jack ∧ v.drives = s.drives := by
  obtain ⟨hseq, hdr, -, -, hjack, -⟩ := resumeEntered_fields s
  refine (takenUp_still hl hr ?_).mono fun v hv => ?_
  · simp [resumeWork, hseq, hs, hjack, hp]
  · rw [hv, hjack, hdr]
    exact ⟨rfl, rfl⟩

theorem takenUp_rampDown (hp : s.jack.phase = .rampDown)
    (hx : Test.overTest.holds (s.loadAgainst s.stepTarget) = true) :
    TakenUp s fun v => v.jack = s.jack ∧ v.drives = { Drives.off with lower := true } := by
  obtain ⟨hseq, hdr, -, -, hjack, -⟩ := resumeEntered_fields s
  have hoff := hdr.trans (State.drives_of_paused hl hr (by simp [hp]))
  refine takenUp_driven ?_ (by simp [State.drivesLegal, State.lowerAllowed, Drives.off, hseq, hs, hp])
  have hstage : resumeWork (resumeEntered s) = unloadStop reach (resumeEntered s) := by
    simp [resumeWork, hseq, hs, hjack, hp]
  rw [hstage, unloadStop_over (by simp [State.stressing, hseq, hs, hjack, hp]) (by rw [resumeEntered_load]; exact hx),
    hoff, ← hjack]

theorem takenUp_seating (hp : s.jack.phase = .seating) (hc : s.contacts.seat.active = false) :
    TakenUp s fun v => v.jack = { s.jack with lockOffTimer := 0 } ∧
      v.drives = { Drives.off with seating := true } := by
  obtain ⟨hseq, hdr, -, -, hjack, -, hcon, -⟩ := resumeEntered_fields s
  have hoff := hdr.trans (State.drives_of_paused hl hr (by simp [hp]))
  refine takenUp_driven ?_ (by simp [State.drivesLegal, State.seatingAllowed, Drives.off, hseq, hs, hp])
  have hstage : resumeWork (resumeEntered s) = startSeating reach (resumeEntered s) := by
    simp [resumeWork, hseq, hs, hjack, hp]
  rw [hstage, startSeating_on (by rw [hcon]; exact hc), hoff, hjack]

theorem takenUp_release (hp : s.jack.phase = .release) (hc : s.contacts.jackHome.active = false) :
    TakenUp s fun v => v.jack = { s.jack with lockOffTimer := 0 } ∧
      v.drives = { Drives.off with lower := true } := by
  obtain ⟨hseq, hdr, -, -, hjack, -, hcon, -⟩ := resumeEntered_fields s
  have hoff := hdr.trans (State.drives_of_paused hl hr (by simp [hp]))
  refine takenUp_driven ?_ (by simp [State.drivesLegal, State.lowerAllowed, Drives.off, hseq, hs, hp])
  have hstage : resumeWork (resumeEntered s) = startRelease reach (resumeEntered s) := by
    simp [resumeWork, hseq, hs, hjack, hp]
  rw [hstage, startRelease_on (by rw [hcon]; exact hc), hoff, hjack]

theorem takenUp_settle (hp : s.jack.phase = .settle) :
    TakenUp s fun v => v.jack = { s.jack with lockOffTimer := 0 } ∧ v.drives = .off := by
  obtain ⟨hseq, hdr, -, -, hjack, -⟩ := resumeEntered_fields s
  have hoff := hdr.trans (State.drives_of_paused hl hr (by simp [hp]))
  refine takenUp_driven ?_ (State.drivesLegal_of_off rfl)
  have hstage : resumeWork (resumeEntered s) = startSettle (resumeEntered s) := by
    simp [resumeWork, hseq, hs, hjack, hp]
  rw [hstage, ← hoff, ← hjack]
  rfl

end

/-! ## RESUME in PAUSED (R44) -/

section
variable {s : State} (hr : s.seq.runState = .paused) (hq : s.watchQuiet = true) (hh : s.seq.held = none)
include hr hq hh

theorem resumed_work (ha : s.seq.abortMark = false) : resumed s = resumeWork (resumeEntered s) :=
  (resumed_paused hr ha hq).trans (takeUpWork_free hh)

/-- An accepted RESUME leaves the field side and the contacts. -/
theorem resumed_field : SameField s (resumed s) ∧ (resumed s).contacts = s.contacts := by
  cases ha : s.seq.abortMark with
  | false =>
    obtain ⟨-, -, -, -, -, -, hcon, -⟩ := resumeEntered_fields s
    have hw := resumeWork_work (resumeEntered s)
    rw [resumed_work hr hq hh ha]
    exact ⟨(resumeEntered_sameField s).trans hw.sameField, hw.contacts.trans hcon⟩
  | true =>
    have hcon : (startLowering (logEvent .resume 0 s)).contacts = (logEvent .resume 0 s).contacts :=
      (lowering_work (loweringBegun (logEvent .resume 0 s))).contacts
    rw [resumed_lowering hr ha]
    exact ⟨(logEvent_work .resume 0 s).sameField.trans (startLowering_sameField _),
      hcon.trans (logEvent_work .resume 0 s).contacts⟩

/-- RESUME is answered with the work as its phase takes it up. -/
theorem TakenUp.answered {p : State → Prop} (h : TakenUp s p) (ha : s.seq.abortMark = false) :
    ∃ v, Answered s codeResume [] v (finish s (setReply codeResume [] 0 0 [] (resumed s))) ∧
      v.seq.runState = .running ∧ p v := by
  obtain ⟨hf, -⟩ := resumed_field hr hq hh
  rw [resumed_work hr hq hh ha] at hf ⊢
  exact ⟨_, answered_quiet h.1 (hf.watchQuiet.trans hq) hf.port, h.2⟩

/-- A row of GROUT that is given by the grout control and the drives. -/
theorem TakenUp.grout_answered {g : GroutControl} {d : Drives}
    (h : TakenUp s fun v => v.grout = g ∧ v.drives = d) (ha : s.seq.abortMark = false) :
    (finish s (setReply codeResume [] 0 0 [] (resumed s))).seq.runState = .running ∧
    (finish s (setReply codeResume [] 0 0 [] (resumed s))).grout = g ∧
    (finish s (setReply codeResume [] 0 0 [] (resumed s))).drives = d := by
  obtain ⟨v, k, hv⟩ := h.answered hr hq hh ha
  rw [k.seq, k.grout, k.drives]
  exact hv

/-- A row of STRESS that is given by the jack and the drives. -/
theorem TakenUp.jack_answered {j : Jack} {d : Drives} (h : TakenUp s fun v => v.jack = j ∧ v.drives = d)
    (ha : s.seq.abortMark = false) :
    (finish s (setReply codeResume [] 0 0 [] (resumed s))).seq.runState = .running ∧
    (finish s (setReply codeResume [] 0 0 [] (resumed s))).jack = j ∧
    (finish s (setReply codeResume [] 0 0 [] (resumed s))).drives = d := by
  obtain ⟨v, k, hv⟩ := h.answered hr hq hh ha
  rw [k.seq, k.jack, k.drives]
  exact hv

end

/-- With the abort mark set and JACK_HOME inactive RESUME opens the lower valve again (R44, R49). -/
theorem resume_lowers {s : State} (hl : s.drivesLegal = true) (hr : s.seq.runState = .paused)
    (hq : s.watchQuiet = true) (hh : s.seq.held = none) (ha : s.seq.abortMark = true) (hs : s.seq.stage = .stress)
    (hj : s.contacts.jackHome.active = false) :
    (finish s (setReply codeResume [] 0 0 [] (resumed s))).seq.runState = .aborting ∧
    (finish s (setReply codeResume [] 0 0 [] (resumed s))).drives = { Drives.off with lower := true } := by
  obtain ⟨hf, -⟩ := resumed_field hr hq hh
  have hopen : resumed s = _ := (resumed_lowering hr ha).trans
    (startLowering_open (s := logEvent .resume 0 s) (by simpa using hs) (by simpa using hj))
  have hd : (resumed s).drives = { Drives.off with lower := true } := by
    rw [hopen]
    simp only [logEvent_drives]
    rw [State.drives_of_stress hl hs]
    rfl
  have hlegal : (resumed s).drivesLegal = true :=
    State.drivesLegal_of_lower hd fun _ => by simp [hopen, State.lowerAllowed, hs]
  have h : Answered s codeResume [] (resumed s) _ := answered_quiet hlegal (hf.watchQuiet.trans hq) hf.port
  rw [h.seq, h.drives, hd, hopen]
  exact ⟨rfl, rfl⟩

/-- With JACK_HOME active the lowering ends at once, and the stage with it (R44, R49, R143). -/
theorem resume_home {s : State} (hl : s.drivesLegal = true) (hr : s.seq.runState = .paused)
    (hq : s.watchQuiet = true) (hh : s.seq.held = none) (ha : s.seq.abortMark = true) (hs : s.seq.stage = .stress)
    (hj : s.contacts.jackHome.active = true) {t : State}
    (ht : finish s (setReply codeResume [] 0 0 [] (resumed s)) = t) :
    t.seq.runState = .idle ∧ t.seq.stage = .none ∧ t.seq.abortMark = false ∧
      t.eval.summary.jobStatus = .aborted ∧ t.jack.lockedLoad = none ∧ t.jack.schedule = [] ∧ t.drives = .off := by
  obtain ⟨hf, -⟩ := resumed_field hr hq hh
  have hhome : resumed s = endAbort (loweringBegun (logEvent .resume 0 s)) := (resumed_lowering hr ha).trans
    (startLowering_home (s := logEvent .resume 0 s) (by simpa using hs) (by simpa using hj))
  obtain ⟨gseq, gjack, gdr, gsum, -⟩ := endAbort_fields (loweringBegun (logEvent .resume 0 s))
  rw [← hhome] at gseq gjack gdr gsum
  have hd : (resumed s).drives = .off := by
    rw [gdr]
    simp only [loweringBegun, logEvent_drives]
    rw [State.drives_of_stress hl hs]
    rfl
  have h : Answered s codeResume [] (resumed s) t := ht ▸
    answered_quiet (State.drivesLegal_of_off hd) (hf.watchQuiet.trans hq) hf.port
  rw [h.seq, h.eval, h.jack, h.drives, hd, gseq, gjack, gsum]
  exact ⟨rfl, rfl, rfl, rfl, rfl, rfl, rfl⟩

/-- Settles O32: a lemma for each row of R44, and the two ways of the lowering. -/
theorem resumeTakesUpTheWork : Obligations.ResumeTakesUpTheWork := by
  intro s hport hl hq _ hn hr he hline hh
  obtain ⟨hf, hcon⟩ := resumed_field hr hq hh
  have hfin := finish_sameField s (setReply codeResume [] 0 0 [] (resumed s))
  have grout := fun {g d} (h : TakenUp s fun v => v.grout = g ∧ v.drives = d) => h.grout_answered hr hq hh
  have jack := fun {j d} (h : TakenUp s fun v => v.jack = j ∧ v.drives = d) => h.jack_answered hr hq hh
  have other := fun {p} (h : TakenUp s p) => h.answered hr hq hh
  have hports := answered_port hf.port codeResume []
  have hhome := fun ha hs hj => resume_home hl hr hq hh ha hs hj rfl
  have hlowers := fun ha hs hj => resume_lowers hl hr hq hh ha hs hj
  have hcontacts := (finish_contacts s (setReply codeResume [] 0 0 [] (resumed s))).trans hcon
  have hentries := hfin.entries.trans hf.entries
  have hmask := hfin.mask.trans hf.mask
  refine ⟨_, execResume_accepted hport (.inl hr) he hline, hports, hcontacts, hentries, hmask, ?_⟩
  generalize finish s (setReply codeResume [] 0 0 [] (resumed s)) = t at *
  refine ⟨fun ha hs hx hy hw => ?_, fun ha hs hp hc hrec hx => ?_, fun ha hs hp hc => ⟨fun hm => ?_,
    fun hm hrec hx => ?_⟩, fun ha hs hp hc hrec => ?_, fun ha hs hp => ?_, fun ha hs hp => ?_,
    fun ha hs hp hx => ?_, fun ha hs hp => jack (takenUp_hold hl hr hs hp) ha,
    fun ha hs hp hx => jack (takenUp_rampDown hl hr hs hp hx) ha,
    fun ha hs hp hc => jack (takenUp_seating hl hr hs hp hc) ha,
    fun ha hs hp hc => jack (takenUp_release hl hr hs hp hc) ha,
    fun ha hs hp => jack (takenUp_settle hl hr hs hp) ha, hlowers, hhome⟩
  · obtain ⟨w, hw⟩ := Option.isSome_iff_exists.mp hw
    obtain ⟨v, k, hrun, hd, hwinch⟩ :=
      other (takenUp_winch hl hr hs hw (by simpa [hw] using hx) (by simpa [hw] using hy)) ha
    rw [k.seq, k.drives, k.winch, hd, hwinch]
    exact ⟨hrun, rfl, rfl, rfl⟩
  · obtain ⟨r, hrec⟩ := Option.isSome_iff_exists.mp hrec
    exact grout (takenUp_draw hl hr hs hp hc hrec (by simpa [hrec] using hx)) ha
  · obtain ⟨v, k, hv⟩ := other (takenUp_wait hl hr hs hp hc hn hm) ha
    rw [k.seq, k.grout, k.drives]
    exact hv
  · obtain ⟨r, hrec⟩ := Option.isSome_iff_exists.mp hrec
    obtain ⟨v, k, hv⟩ := other (takenUp_alone hl hr hs hp hn hm hrec (by simpa [hrec] using hx)) ha
    rw [k.seq, k.grout, k.drives]
    exact hv
  · obtain ⟨r, hrec⟩ := Option.isSome_iff_exists.mp hrec
    exact ⟨fun hx hy => grout (takenUp_reopened hl hr hs hp hn hc hrec (by simpa [hrec] using hx)
        (by simpa [hrec] using hy)) ha,
      fun hx => grout (takenUp_groutStill hl hr hs (takenUp_throttled hs hp hrec (by simpa [hrec] using hx))) ha⟩
  · obtain ⟨v, k, hrun, htimer⟩ := other (takenUp_raiseWait hl hr hs hn hp) ha
    refine ⟨k.seq ▸ hrun, k.gateTimer.trans htimer, fun hx => ?_, fun hx hy => ?_, fun hx hy => ?_, fun hx hy => ?_,
      fun hx hy hc => ?_⟩
    · obtain ⟨v, k, -, -, hv⟩ := other (takenUp_gate hl hr hs hn hp hx) ha
      rw [k.jack, k.drives, k.raiseConditions]
      exact hv
    · exact (jack ((takenUp_void hl hr hs hp hx hy).mono fun _ h => h.2) ha).2
    · obtain ⟨v, k, -, -, hv⟩ := other (takenUp_below hl hr hs hn hp hx hy) ha
      rw [k.jack, k.drives, k.raiseConditions]
      exact hv
    · exact (jack ((takenUp_above hl hr hs hn hp hx hy).mono fun _ h => h.2) ha).2
    · obtain ⟨v, k, -, -, hv⟩ := other (takenUp_within hl hr hs hn hp hx hy) ha
      rw [k.jack, k.drives]
      exact hv hc
  · exact grout (takenUp_groutStill hl hr hs (by simp [resumeWork, hs, resumeEntered, hp])) ha
  · obtain ⟨v, k, hv⟩ := other (takenUp_rampUp hl hr hs hn hp hx) ha
    rw [k.seq, k.gateTimer, k.jack, k.drives, k.raiseConditions]
    exact hv

end Sys2Proof.Machine
end

section
/-!
PROOF. RESUME in PAUSED with a boundary held: taken again while kinds are pending, else passed (R40, R93, R115).
-/
namespace Sys2Proof.Machine

/-! ## The close with the drives put back into their rows (R53) -/

@[simp] theorem enforceDrives_winch (s : State) : (enforceDrives s).winch = s.winch := by
  unfold enforceDrives; dsimp only; split <;> simp

@[simp] theorem enforceDrives_eval (s : State) : (enforceDrives s).eval = s.eval := by
  unfold enforceDrives; dsimp only; split <;> simp

@[simp] theorem enforceDrives_table (s : State) : (enforceDrives s).table = s.table := by
  unfold enforceDrives; dsimp only; split <;> simp

theorem enforceDrives_raiseConditions (s : State) : (enforceDrives s).raiseConditions = s.raiseConditions :=
  raiseConditions_congr (enforceDrives_work s).sameField (by simp) (by simp) (by simp)

/-- The close of an event puts its drives back first. -/
theorem finish_enforceDrives (s t : State) : finish s (enforceDrives t) = finish s t := by
  have h : enforceDrives (enforceDrives t) = enforceDrives t := enforceDrives_of_legal (enforceDrives_legal t)
  simp only [finish, settle, h]

theorem closeGrout_setReply (code : Byte) (body : List Byte) (t : State) :
    closeGrout (setReply code body 0 0 [] t) = setReply code body 0 0 [] (closeGrout t) := by
  have hgrout : (setReply code body 0 0 [] t).drives.grout = t.drives.grout := rfl
  unfold closeGrout
  rw [hgrout]
  cases t.drives.grout <;> rfl

theorem enforceDrives_setReply (code : Byte) (body : List Byte) (t : State) :
    enforceDrives (setReply code body 0 0 [] t) = setReply code body 0 0 [] (enforceDrives t) := by
  have hallowed : (setReply code body 0 0 [] t).groutAllowed = t.groutAllowed := rfl
  unfold enforceDrives
  rw [hallowed]
  cases t.groutAllowed
  · simp only [Bool.false_eq_true, if_false, closeGrout_setReply]
    rfl
  · rfl

/-- A request that leaves the overload and stroke decisions false is answered with its effects, the drives put back into their
rows. -/
theorem answered_enforced {s t : State} {code : Byte} {body : List Byte} (hq : t.watchQuiet = true)
    (hp : t.port = s.port) :
    Answered s code body (enforceDrives t) (finish s (setReply code body 0 0 [] t)) := by
  have hw := enforceDrives_work t
  rw [← finish_enforceDrives, enforceDrives_setReply]
  exact answered_quiet (enforceDrives_legal t) (hw.sameField.watchQuiet.trans hq) (hw.port.trans hp)

/-! ## A held boundary looked at once more (R40, R167) -/

/-- RESUME in PAUSED with boundary `b` held, and no overload and no stroke due. -/
structure HeldAt (b : Boundary) (s : State) : Prop where
  standing : s.standing = true
  run : s.seq.runState = .paused
  mark : s.seq.abortMark = false
  quiet : s.watchQuiet = true
  held : s.seq.held = some b

theorem stage_of_paused {s : State} (hst : s.standing = true) (hr : s.seq.runState = .paused) : s.seq.stage ≠ .none := by
  obtain ⟨-, hsound, -⟩ := State.standing_iff.mp hst
  intro hs
  simp [State.stageSound, hr, hs] at hsound

section
variable {b : Boundary} {s : State} (h : HeldAt b s)
include h

theorem resumed_held : resumed s = passHeld b (resumeEntered s) :=
  (resumed_paused h.run h.mark h.quiet).trans (takeUpWork_held h.held)

/-- With nothing pending the held boundary is passed. -/
theorem resumed_passes (hn : s.faults.pending = []) :
    resumed s = proceed chainBound (resumedBoundary b) (resumeEntered s) := by
  obtain ⟨-, -, -, -, -, hflt, -⟩ := resumeEntered_fields s
  rw [resumed_held h, passHeld, reachWith_pass (by rw [hflt, hn])]

theorem resumed_held_sameField : SameField s (resumed s) := by
  obtain ⟨hseq, -⟩ := resumeEntered_fields s
  rw [resumed_held h]
  exact (resumeEntered_sameField s).trans
    (passHeld_work (by rw [hseq]; exact stage_of_paused h.standing h.run) (by rw [hseq])).sameField

/-- RESUME is answered with the held boundary passed. -/
theorem resumed_held_answered {v : State} (hv : resumed s = v) :
    Answered s codeResume [] (enforceDrives v) (finish s (setReply codeResume [] 0 0 [] (resumed s))) := by
  have hf := resumed_held_sameField h
  rw [hv] at hf ⊢
  exact answered_enforced (hf.watchQuiet.trans h.quiet) hf.port

/-- With kinds pending the first is taken, and the same boundary stays held. -/
theorem resume_takes (hn : s.faults.pending ≠ []) {t : State}
    (ht : finish s (setReply codeResume [] 0 0 [] (resumed s)) = t) :
    t.seq = { s.seq with runState := .faulted } ∧ t.faults.pending = [] ∧
      t.faults.taken.map TakenFault.kind = s.faults.pending.head?.map Prod.fst ∧ t.drives = .off := by
  obtain ⟨hseq, -, -, -, -, hflt, -⟩ := resumeEntered_fields s
  cases hpend : s.faults.pending with
  | nil => exact absurd hpend hn
  | cons x rest =>
    obtain ⟨kind, detail⟩ := x
    have hk : kind ≠ .wallStop := by
      rintro rfl
      have := pending_priority (State.pendingSound_of_standing h.standing) (by rw [hpend]; exact List.mem_cons_self)
      simp [FaultKind.priority] at this
    obtain ⟨gseq, gkind, -, gpend, -⟩ := reachWith_taken (s := resumeEntered s) (by rw [hflt, hpend]) hk
      (fun b s => proceed chainBound (resumedBoundary b) s) b
    have k := resumed_held_answered h rfl
    rw [ht, resumed_held h, passHeld] at k
    have hrun := congrArg Sequencer.runState gseq
    have hoff : (enforceDrives (reachWith (fun b s => proceed chainBound (resumedBoundary b) s) b
        (resumeEntered s))).drives = .off :=
      State.drives_off (enforceDrives_legal _) (by simp [hrun]) (by simp [hrun]) (by simp [hrun])
    rw [k.seq, k.faults, k.drives, hoff, enforceDrives_seq, enforceDrives_faults, gseq, gkind, gpend, hseq, ← h.held]
    exact ⟨rfl, rfl, rfl, rfl⟩

end

/-! ## The raise gate and the grout gate inside a passed boundary (R85, R94) -/

/-- In RAISE_WAIT and RAISE_INTENT every drive is off (R53). -/
theorem State.drives_at_gate {s : State} (h : s.drivesLegal = true) (hs : s.seq.stage = .stress)
    (hr : s.seq.runState = .running) (hp : s.jack.phase = .raiseIntent ∨ s.jack.phase = .raiseWait) :
    s.drives = .off := by
  rw [State.drives_of_stress h hs]
  rcases hp with hp | hp <;>
    simp [State.raiseAllowed, State.lowerAllowed, State.seatingAllowed, hr, hp, Drives.off]

/-- Outside DRAW every drive of a GROUT stage is off (R53). -/
theorem State.drives_beside_draw {s : State} (h : s.drivesLegal = true) (hs : s.seq.stage = .grout)
    (hp : s.grout.phase ≠ .draw) : s.drives = .off := by
  rw [State.drives_of_grout h hs]
  simp [State.groutAllowed, hp, Drives.off]

theorem Gated.phase {u v : State} (h : Gated u v) :
    v.jack.phase = .raiseIntent ∨ v.jack.phase = .raiseWait := by
  rw [h.jack]
  dsimp only
  split
  · exact .inl rfl
  · exact .inr rfl

/-- What the raise gate of a passed boundary leaves, once the drives are in their rows. -/
theorem Gated.enforced {u v : State} (h : Gated u v) (hs : u.seq.stage = .stress) (hr : u.seq.runState = .running) :
    (enforceDrives v).drives = .off := by
  have hq := h.seq
  exact State.drives_at_gate (enforceDrives_legal v) (by rw [enforceDrives_seq, hq]; exact hs)
    (by rw [enforceDrives_seq, hq]; exact hr) (by rw [enforceDrives_jack]; exact h.phase)

/-- The grout gate on a shared main, inside a passed boundary (R94). -/
theorem groutGate_main (n : Nat) {s : State} (hg : s.grouting = true) (hw : s.grout.phase = .wait)
    (hm : s.cfg Setup.main 0 ≠ 0) (hp : s.faults.pending = []) :
    groutGate (reachWith (proceed (n + 1))) s =
      if s.drawers < s.cfg Setup.concurrency 0 then
        { s with
          seq := { s.seq with held := none }
          grout := { s.grout with phase := .intent, intentTicks := 0 } }
      else s := by
  unfold groutGate
  simp only [hg, hw, hm, beq_self_eq_true, Bool.and_self, if_true, if_false]
  split
  · rw [reachWith_pass hp]
    rfl
  · rfl

/-! ## Held boundaries passed (R36, R40, R92, R93, R115) -/

/-- RESUME with nothing pending, before the held boundary is passed. -/
def heldReleased (s : State) : State :=
  { resumeEntered s with seq := { (resumeEntered s).seq with held := none } }

theorem heldReleased_fields (s : State) :
    (heldReleased s).seq = { s.seq with runState := .running, held := none } ∧
    (heldReleased s).drives = s.drives ∧ (heldReleased s).winch = s.winch ∧ (heldReleased s).grout = s.grout ∧
    (heldReleased s).jack = s.jack ∧ (heldReleased s).faults = s.faults ∧ (heldReleased s).table = s.table ∧
    (heldReleased s).eval = s.eval := by
  simp [heldReleased, resumeEntered]

theorem heldReleased_sameField (s : State) : SameField s (heldReleased s) :=
  (resumeEntered_sameField s).trans (.of_parts rfl rfl rfl rfl rfl rfl)

/-- A held boundary of the raise gate passes to the gate in RAISE_WAIT (R92, R93). -/
theorem gate_passed {b : Boundary} {s : State} (ha : s.jack.approach ≠ .pending)
    (hb : b ∈ [.raiseWaitEnd, .raiseIntentEnd, .withdrawn, .turnedBack, .gateTimeout])
    (hw : b = .gateTimeout → s.jack.phase = .raiseWait) :
    ∃ u, proceed chainBound (resumedBoundary b) (resumeEntered s) = raiseGate (reachWith (proceed 31)) u ∧
      u.seq = { s.seq with runState := .running, held := none } ∧ u.jack = { s.jack with phase := .raiseWait } ∧
      u.table.gateTimer = (if b = .turnedBack ∨ b = .gateTimeout then 0 else s.table.gateTimer) ∧
      u.faults = s.faults := by
  obtain ⟨hseq, -, -, -, hjack, hflt, htab, -⟩ := heldReleased_fields s
  have wait : (setStepPhase .raiseWait (heldReleased s)).seq = { s.seq with runState := .running, held := none } ∧
      (setStepPhase .raiseWait (heldReleased s)).jack = { s.jack with phase := .raiseWait } ∧
      (setStepPhase .raiseWait (heldReleased s)).table.gateTimer = s.table.gateTimer ∧
      (setStepPhase .raiseWait (heldReleased s)).faults = s.faults := by
    simp [hseq, hjack, hflt, htab]
  obtain ⟨wseq, wjack, wtimer, wflt⟩ := wait
  simp only [List.mem_cons, List.not_mem_nil, or_false] at hb
  rcases hb with rfl | rfl | rfl | rfl | rfl
  · exact ⟨_, rfl, wseq, wjack, wtimer, wflt⟩
  · exact ⟨_, rfl, wseq, wjack, wtimer, wflt⟩
  · exact ⟨_, rfl, wseq, wjack, wtimer, wflt⟩
  · exact ⟨resetGateTimer (setStepPhase .raiseWait (heldReleased s)), rfl, wseq, wjack, rfl, wflt⟩
  · have hwork : proceed chainBound .gateTimeout (resumeEntered s) =
        raiseWaitWork (reachWith (proceed 31)) (resetGateTimer (heldReleased s)) := rfl
    refine ⟨resetGateTimer (heldReleased s), hwork.trans (if_neg ?_), hseq, ?_, rfl, hflt⟩
    · simpa [resetGateTimer, hjack] using ha
    · simp only [resetGateTimer, hjack, ← hw rfl]

/-- The drift decisions of a station with no stage change the flag and the kinds seen (R139, R164). -/
theorem driftDecision_stageless {s : State} (hs : s.seq.stage = .none) :
    (driftDecision s).seq = s.seq ∧ (driftDecision s).jack = s.jack ∧ (driftDecision s).eval = s.eval ∧
    (driftDecision s).faults.taken = s.faults.taken := by
  unfold driftDecision
  dsimp only
  split
  · split
    · split
      · exact ⟨rfl, rfl, rfl, rfl⟩
      · exact ⟨rfl, rfl, rfl, rfl⟩
    · split
      · rw [detect_anchorDrift _ (by exact hs)]
        split
        · exact ⟨rfl, rfl, rfl, rfl⟩
        · exact ⟨rfl, rfl, rfl, rfl⟩
      · exact ⟨rfl, rfl, rfl, rfl⟩
  · exact ⟨rfl, rfl, rfl, rfl⟩

/-- A GROUT stage ends with its record marked and the cure clock started (R36, R38, R113, R114). -/
theorem proceed_stageEnd_grout_fields (refused : Bool) {s : State} (h : s.seq.stage = .grout) :
    (proceed chainBound (.stageEnd refused) s).seq =
      { s.seq.stageLess with progress := .grouted, cure := Cure.started 0 } ∧
    (proceed chainBound (.stageEnd refused) s).grout =
      { s.grout.stageLess with
        record := s.grout.record.map fun r => { r with mark := if refused then .refused else .complete } } ∧
    (proceed chainBound (.stageEnd refused) s).faults = s.faults := by
  have hp : proceed chainBound (.stageEnd refused) s = endStage refused { s with seq := { s.seq with held := none } } :=
    rfl
  rw [hp]
  refine ⟨?_, ?_, ?_⟩ <;> simp [endStage, h, Sequencer.stageLess, GroutControl.stageLess, updateGroutRecord]

/-- A STRESS stage ends with the anchor locked and its schedule discarded (R36, R119, R136). -/
theorem proceed_stageEnd_stress_fields (refused : Bool) {s : State} (h : s.seq.stage = .stress) :
    (proceed chainBound (.stageEnd refused) s).seq = { s.seq.stageLess with progress := .locked } ∧
    (proceed chainBound (.stageEnd refused) s).jack = s.jack.stageLess ∧
    (proceed chainBound (.stageEnd refused) s).eval.summary.jobStatus = .complete ∧
    (proceed chainBound (.stageEnd refused) s).faults.taken = s.faults.taken := by
  have hp : proceed chainBound (.stageEnd refused) s =
      endStage refused { s with seq := { s.seq with held := none } } := rfl
  rw [hp]
  refine ⟨?_, ?_, ?_, ?_⟩ <;>
    simp [endStage, h, driftDecision_stageless, Sequencer.stageLess, Jack.stageLess, updateSummary]

section
variable {b : Boundary} {s t : State} (h : HeldAt b s) (hn : s.faults.pending = [])
  (ht : finish s (setReply codeResume [] 0 0 [] (resumed s)) = t)
include h hn ht

/-- RESUME is answered with what passing the held boundary leaves. -/
theorem passed_answered {v : State} (hv : proceed chainBound (resumedBoundary b) (resumeEntered s) = v) :
    Answered s codeResume [] (enforceDrives v) t :=
  ht ▸ resumed_held_answered h ((resumed_passes h hn).trans hv)

/-- A held boundary that is passed into RAISE_WAIT has its gate evaluated afresh (R93). -/
theorem passed_raiseGate {u : State}
    (hv : proceed chainBound (resumedBoundary b) (resumeEntered s) = raiseGate (reachWith (proceed 31)) u)
    (hs : s.seq.stage = .stress) (hq : u.seq = { s.seq with runState := .running, held := none })
    (hp : u.jack.phase = .raiseWait) (ha : u.jack.approach ≠ .pending) (hf : u.faults = s.faults) :
    t.seq = { s.seq with runState := .running, held := none } ∧
    t.jack = { u.jack with phase := if t.raiseConditions = true then .raiseIntent else .raiseWait } ∧
    t.table.gateTimer = u.table.gateTimer ∧ t.drives = .off ∧ t.faults = s.faults := by
  have hg : Gated u (raiseGate (reachWith (proceed 31)) u) :=
    raiseGate_gated 30 (by rw [hq]; exact hs) hp ha (by rw [hf, hn])
  have hoff := hg.enforced (by rw [hq]; exact hs) (by rw [hq])
  have k := passed_answered h hn ht hv
  rw [k.seq, k.jack, k.gateTimer, k.drives, k.faults, k.raiseConditions, enforceDrives_raiseConditions,
    enforceDrives_seq, enforceDrives_jack, enforceDrives_table, enforceDrives_faults, hoff, hg.faults, hg.gateTimer]
  refine ⟨?_, hg.jack, rfl, rfl, hf⟩
  rw [hg.seq, hg.held (by rw [hq]), hq]

/-- A held hold end is passed into the next step, a LOAD step (R124, R130). -/
theorem passed_holdEnd (hs : s.seq.stage = .stress) (hb : b = .holdEnd)
    (hk : (s.jack.schedule[s.jack.stepIndex]?).map ScheduleStep.kind = some .load) :
    t.seq.runState = .running ∧ t.jack.stepIndex = s.jack.stepIndex + 1 ∧
      t.jack.phase = (if t.raiseConditions = true then .raiseIntent else .raiseWait) ∧
      t.jack.holdClock = 0 ∧ t.jack.holdLength = none ∧ t.drives = .off := by
  obtain ⟨hseq, hdr, -, -, hjack, hflt, -⟩ := heldReleased_fields s
  obtain ⟨x, hx, hload⟩ := Option.map_eq_some_iff.mp hk
  obtain ⟨gseq, gjack, -, gflt, -⟩ := stepEntered_fields (s.jack.stepIndex + 1) x (leaveHold (heldReleased s))
  have hv : proceed chainBound (resumedBoundary b) (resumeEntered s) =
      raiseGate (reachWith (proceed 31)) (stepEntered (s.jack.stepIndex + 1) x (leaveHold (heldReleased s))) := by
    have hstep := beginStep_load (reach := reachWith (proceed 31)) (s := leaveHold (heldReleased s))
      (i := s.jack.stepIndex) (by rw [leaveHold_jack, hjack]; exact hx) hload
    have hpass : proceed chainBound .holdEnd (resumeEntered s) =
        beginStep (reachWith (proceed 31)) ((leaveHold (heldReleased s)).jack.stepIndex + 1)
          (leaveHold (heldReleased s)) := rfl
    rw [hb, ← hstep]
    exact hpass.trans (by rw [leaveHold_jack, hjack])
  obtain ⟨kseq, kjack, -, kdr, -⟩ := passed_raiseGate h hn ht hv hs (gseq.trans hseq) (by rw [gjack])
    (by rw [gjack]; simp) (gflt.trans hflt)
  rw [gjack, leaveHold_jack] at kjack
  rw [kseq, kdr]
  refine ⟨rfl, ?_, ?_, ?_, ?_, rfl⟩ <;> rw [kjack]

/-- A held boundary of the raise gate is passed into RAISE_WAIT; only a gate timeout or a ramp turned back sets the gate timer
to 0 (R92, R93). -/
theorem passed_gate (hs : s.seq.stage = .stress) (ha : s.jack.approach ≠ .pending)
    (hb : b ∈ [.raiseWaitEnd, .raiseIntentEnd, .withdrawn, .turnedBack, .gateTimeout])
    (hw : b = .gateTimeout → s.jack.phase = .raiseWait) :
    t.seq = { s.seq with runState := .running, held := none } ∧
      t.jack = { s.jack with phase := if t.raiseConditions = true then .raiseIntent else .raiseWait } ∧
      t.table.gateTimer = (if b = .turnedBack ∨ b = .gateTimeout then 0 else s.table.gateTimer) ∧
      t.drives = .off ∧ t.faults = s.faults := by
  obtain ⟨u, hv, gseq, gjack, gtimer, gflt⟩ := gate_passed ha hb hw
  obtain ⟨kseq, kjack, ktimer, kdr, kflt⟩ := passed_raiseGate h hn ht hv hs gseq (by rw [gjack])
    (by rw [gjack]; exact ha) gflt
  rw [gjack] at kjack
  exact ⟨kseq, kjack, ktimer.trans gtimer, kdr, kflt⟩

/-- A held boundary of grout control is passed into GROUT_WAIT, and its gate is evaluated afresh (R93, R115). -/
theorem passed_grout (hs : s.seq.stage = .grout) (hc : s.grout.claim = none) (hm : s.cfg Setup.main 0 ≠ 0)
    (hb : b ∈ [.groutWaitEnd, .groutWaitDraw, .groutIntentEnd, .gaveWay, .throttled, .reopened, .refusal, .restEnd]) :
    t.seq = { s.seq with runState := .running, held := none } ∧
      t.grout.phase = (if t.drawers < s.cfg Setup.concurrency 0 then .intent else .wait) ∧
      t.grout.claim = none ∧ t.grout.record = s.grout.record ∧ t.drives = .off ∧ t.faults = s.faults := by
  obtain ⟨hseq, -, -, hgr, -, hflt, -⟩ := heldReleased_fields s
  have hpass : proceed chainBound (resumedBoundary b) (resumeEntered s) =
      groutGate (reachWith (proceed 31)) (setGroutPhase .wait (heldReleased s)) := by
    simp only [List.mem_cons, List.not_mem_nil, or_false] at hb
    rcases hb with rfl | rfl | rfl | rfl | rfl | rfl | rfl | rfl <;> rfl
  have hf : SameField s (setGroutPhase .wait (heldReleased s)) :=
    (heldReleased_sameField s).trans (.of_parts rfl rfl rfl rfl rfl rfl)
  generalize hu : setGroutPhase .wait (heldReleased s) = u at hpass hf
  have huq : u.seq = { s.seq with runState := .running, held := none } := by rw [← hu]; exact hseq
  have hug : u.grout = { s.grout with phase := .wait } := by rw [← hu, ← hgr]; rfl
  have huf : u.faults = s.faults := by rw [← hu]; exact hflt
  have hgate := groutGate_main 30 (s := u) (by simp [State.grouting, huq, hs]) (by rw [hug])
    (by rw [State.cfg_congr hf]; exact hm) (by rw [huf, hn])
  rw [State.cfg_congr hf] at hgate
  have k := passed_answered h hn ht (hpass.trans hgate)
  have hdrawers : t.drawers = u.drawers := by
    rw [k.drawers, State.drawers_congr (enforceDrives_work _).sameField]
    split <;> rfl
  have hoff : t.drives = .off := by
    rw [k.drives]
    refine State.drives_beside_draw (enforceDrives_legal _) ?_ ?_
    · rw [enforceDrives_seq]; split <;> simp [huq, hs]
    · rw [enforceDrives_grout]; split <;> simp [hug]
  rw [hdrawers, hoff, k.seq, k.grout, k.faults, enforceDrives_seq, enforceDrives_grout, enforceDrives_faults]
  split
  · exact ⟨by rw [huq], rfl, by rw [hug]; exact hc, by rw [hug], rfl, huf⟩
  · exact ⟨by rw [huq], by rw [hug], by rw [hug]; exact hc, by rw [hug], rfl, huf⟩

/-- A held claim limit is passed into REST (R112). -/
theorem passed_claimLimit (hs : s.seq.stage = .grout) (hb : b = .claimLimit) :
    t.seq = { s.seq with runState := .running, held := none } ∧
      t.grout = { s.grout with phase := .rest, restTicks := 0 } ∧ t.drives = .off ∧ t.faults = s.faults := by
  obtain ⟨hseq, -, -, hgr, -, hflt, -⟩ := heldReleased_fields s
  have hv : proceed chainBound (resumedBoundary b) (resumeEntered s) =
      { heldReleased s with grout := { (heldReleased s).grout with phase := .rest, restTicks := 0 } } := by
    rw [hb]; rfl
  have k := passed_answered h hn ht hv
  have hoff : t.drives = .off := by
    rw [k.drives]
    exact State.drives_beside_draw (enforceDrives_legal _) (by simp [hseq, hs]) (by simp)
  rw [hoff, k.seq, k.grout, k.faults, enforceDrives_seq, enforceDrives_grout, enforceDrives_faults, hseq, hgr]
  exact ⟨rfl, rfl, rfl, hflt⟩

end

/-! ## A held stage end passed (R36, R40) -/

/-- From `s` to `t` the stage has ended, with the progress one place forward (R36). -/
structure StageEnded (s t : State) : Prop where
  stage : t.seq.stage = .none
  run : t.seq.runState = .idle
  held : t.seq.held = none
  clock : t.seq.jobClock = 0
  progress : t.seq.progress = s.seq.progress.forward
  drives : t.drives = .off
  taken : t.faults.taken = s.faults.taken

section
variable {refused : Bool} {s t : State} (h : HeldAt (.stageEnd refused) s) (hn : s.faults.pending = [])
  (ht : finish s (setReply codeResume [] 0 0 [] (resumed s)) = t)
include h hn ht

theorem passed_stageEnd {v : State} {c : Cure} (hv : proceed chainBound (.stageEnd refused) (resumeEntered s) = v)
    (hq : v.seq = { s.seq.stageLess with progress := s.seq.progress.forward, cure := c })
    (hf : v.faults.taken = s.faults.taken) :
    Answered s codeResume [] (enforceDrives v) t ∧ StageEnded s t := by
  have k := passed_answered h hn ht hv
  have hrun : v.seq.runState = .idle := by rw [hq]; rfl
  have hoff : (enforceDrives v).drives = .off :=
    State.drives_off (enforceDrives_legal v) (by simp [hrun]) (by simp [hrun]) (by simp [hrun])
  have kseq := k.seq.trans ((enforceDrives_seq v).trans hq)
  refine ⟨k, ?_, ?_, ?_, ?_, ?_, k.drives.trans hoff, by rw [k.faults, enforceDrives_faults, hf]⟩ <;> rw [kseq] <;> rfl

theorem passed_winchEnd (hs : s.seq.stage = .winch) :
    StageEnded s t ∧ t.winch = s.winch.map fun w => { w with outcome := .complete } := by
  obtain ⟨hseq, -, hwinch, -, -, hflt, -⟩ := resumeEntered_fields s
  obtain ⟨gseq, gwinch, -, gflt⟩ := proceed_stageEnd_winch_fields refused (s := resumeEntered s)
    (by rw [hseq]; exact hs)
  obtain ⟨-, hsound, -⟩ := State.standing_iff.mp h.standing
  obtain ⟨k, e⟩ := passed_stageEnd h hn ht (c := s.seq.cure) rfl
    (by rw [gseq, hseq, (progress_of_stage hsound).1 hs]; rfl) (by rw [gflt, hflt])
  exact ⟨e, by rw [k.winch, enforceDrives_winch, gwinch, hwinch]⟩

theorem passed_groutEnd (hs : s.seq.stage = .grout) :
    StageEnded s t ∧ t.seq.cure = Cure.started 0 ∧ t.grout.phase = .none ∧ t.grout.claim = none ∧
      t.grout.record =
        s.grout.record.map fun r => { r with mark := if refused then .refused else .complete } := by
  obtain ⟨hseq, -, -, hgr, -, hflt, -⟩ := resumeEntered_fields s
  obtain ⟨gseq, ggr, gflt⟩ := proceed_stageEnd_grout_fields refused (s := resumeEntered s) (by rw [hseq]; exact hs)
  obtain ⟨-, hsound, -⟩ := State.standing_iff.mp h.standing
  obtain ⟨k, e⟩ := passed_stageEnd h hn ht (c := Cure.started 0) rfl
    (by rw [gseq, hseq, (progress_of_stage hsound).2.1 hs]; rfl) (by rw [gflt, hflt])
  rw [k.seq, k.grout, enforceDrives_seq, enforceDrives_grout, gseq, ggr, hgr]
  exact ⟨e, rfl, rfl, rfl, rfl⟩

theorem passed_stressEnd (hs : s.seq.stage = .stress) :
    StageEnded s t ∧ t.eval.summary.jobStatus = .complete ∧ t.jack = s.jack.stageLess ∧
      t.ownFlags.locked = true := by
  obtain ⟨hseq, -, -, -, hjack, hflt, -⟩ := resumeEntered_fields s
  obtain ⟨gseq, gjack, gsum, gflt⟩ := proceed_stageEnd_stress_fields refused (s := resumeEntered s)
    (by rw [hseq]; exact hs)
  obtain ⟨-, hsound, -⟩ := State.standing_iff.mp h.standing
  have hprogress := (progress_of_stage hsound).2.2 hs
  obtain ⟨k, e⟩ := passed_stageEnd h hn ht (c := s.seq.cure) rfl
    (by rw [gseq, hseq, hprogress]; rfl) (by rw [gflt, hflt])
  have hlocked : t.ownFlags.locked = true := by
    simp [State.ownFlags, e.progress, hprogress, Progress.forward]
  exact ⟨e, by rw [k.eval, enforceDrives_eval, gsum], by rw [k.jack, enforceDrives_jack, gjack, hjack], hlocked⟩

end

/-- Settles O33: the boundary taken again by `resume_takes`, and a lemma for each kind of boundary that is passed. -/
theorem heldBoundaryIsPassedOnResume : Obligations.HeldBoundaryIsPassedOnResume := by
  intro b s hport _ hq hst hr ha he hline hh
  have hexec := execResume_accepted hport (.inl hr) he hline
  have h : HeldAt b s := ⟨hst, hr, ha, hq, hh⟩
  refine ⟨fun hn => ⟨_, hexec, resume_takes h hn rfl⟩,
    fun hn hs hb hk => ⟨_, hexec, passed_holdEnd h hn rfl hs hb hk⟩,
    fun hn hs hp hb hw => ⟨_, hexec, passed_gate h hn rfl hs hp hb hw⟩,
    fun hn hs hc hm hb => ⟨_, hexec, passed_grout h hn rfl hs hc hm hb⟩,
    fun hn hs hb _ => ⟨_, hexec, passed_claimLimit h hn rfl hs hb⟩, fun hn hb => ⟨_, hexec, ?_⟩⟩
  obtain ⟨refused, rfl⟩ : ∃ refused, b = .stageEnd refused := hb.elim (fun e => ⟨_, e⟩) fun e => ⟨_, e.1⟩
  have winch := passed_winchEnd h hn rfl
  have grout := passed_groutEnd h hn rfl
  have stress := passed_stressEnd h hn rfl
  generalize finish s (setReply codeResume [] 0 0 [] (resumed s)) = t at winch grout stress ⊢
  have ended : StageEnded s t := by
    cases hs : s.seq.stage with
    | none => exact absurd hs (stage_of_paused hst hr)
    | winch => exact (winch hs).1
    | grout => exact (grout hs).1
    | stress => exact (stress hs).1
  refine ⟨ended.stage, ended.run, ended.held, ended.clock, ended.progress, ended.drives, ended.taken,
    fun hs => (winch hs).2, fun hs => ?_, fun hs => ?_⟩
  · obtain ⟨-, hcure, hphase, hclaim, hrecord⟩ := grout hs
    exact ⟨hcure, hphase, hclaim, by simpa using hrecord⟩
  · obtain ⟨-, hstatus, hjack, hlocked⟩ := stress hs
    rw [hjack]
    exact ⟨hstatus, rfl, rfl, rfl, rfl, hlocked⟩

end Sys2Proof.Machine
end

section
/-!
PROOF. One bit time of the wall line, part by part: what is read, what the attempt, the frame and the line state make of it, and
what each part leaves alone.
-/
namespace Sys2Proof.Machine

/-! ## LINE_FAULT (R164) -/

/-- The fault unit after a detection of LINE_FAULT, with a stage active or not (R164). -/
def FaultUnit.lineFaulted (d : Detail) (active : Bool) (f : FaultUnit) : FaultUnit :=
  { f with
    seen := insertKind .lineFault f.seen
    pending :=
      if active && !f.mask.contains .lineFault then insertPending .lineFault d f.pending else f.pending }

/-- LINE_FAULT is seen, and pending where it is unmasked and a stage is active (R164). -/
theorem detect_lineFault (d : Detail) (s : State) :
    detect .lineFault d s = { s with faults := s.faults.lineFaulted d s.stageActive } := by
  have hm : FaultKind.lineFault.maskable = true := rfl
  unfold detect FaultUnit.lineFaulted
  cases ha : s.stageActive <;> cases hk : s.faults.mask.contains .lineFault <;>
    simp_all [State.masked, State.stageActive, seeKind, pendKind]

/-! ## The close of a row (R53) -/

section
variable (s t : State)

@[simp] theorem secure_line : (secure s t).line = t.line := (enforceDrives_work t).line
@[simp] theorem secure_contacts : (secure s t).contacts = t.contacts := (enforceDrives_work t).contacts
@[simp] theorem secure_port : (secure s t).port = t.port := (enforceDrives_work t).port
@[simp] theorem secure_seq : (secure s t).seq = t.seq := enforceDrives_seq t
@[simp] theorem secure_faults : (secure s t).faults = t.faults := enforceDrives_faults t
@[simp] theorem secure_table : (secure s t).table = t.table := enforceDrives_table t

end

/-- A row of the wall line ends with its last bit time (log 40). -/
theorem exec_lineRow {row : List BitTime → Instr}
    (hrow : ∀ bits s, exec (row bits) s = .next (secure s (lineEvent bits s))) {pre : List BitTime}
    {s u : State} (hu : u = bitTimes pre s) (b : BitTime) :
    exec (row (pre ++ [b])) s = .next (secure s (bitTime u b)) := by
  rw [hrow, lineEvent_last, hu]

/-! ## The parts of a bit time -/

/-- What is read in a bit time, with the attempt due at it begun (R54, R63). -/
def State.heard (b : BitTime) (s : State) : BitReading := readBit b (beginAttempt s)

/-- The station once the bit time has been read: runs, line state and receiver, and the break drive counted (R54, R56, R58,
R68). -/
def bitHeard (b : BitTime) (s : State) : State :=
  countBreakDrive
    { beginAttempt s with
      line := { monitorBit (s.readsDominant b) (beginAttempt s).line with receiver := (s.heard b).receiver } }

/-- The station once the attempt has met the bit time (R63 to R67). -/
def bitTried (b : BitTime) (s : State) : State := actOnAttempt (s.heard b).attempt (bitHeard b s)

/-- The station once the frame being assembled has met the bit time, too (R59, R60). -/
def bitActed (b : BitTime) (s : State) : State :=
  actOnFrame ((s.heard b).attempt == .succeeds) (s.heard b).frame (bitTried b s)

/-- The beginning of an attempt touches the slot only (R63). -/
theorem beginAttempt_shape (s : State) :
    beginAttempt s = { s with line := { s.line with slot := (beginAttempt s).line.slot } } := by
  unfold beginAttempt; split <;> rfl

theorem bitWork_eq (b : BitTime) (s : State) :
    bitWork b s = actOnLineState s.line.state (bitActed b s) := by
  have h : (beginAttempt s).line.state = s.line.state := by rw [beginAttempt_shape]
  rw [← h]; rfl

/-- Without a due attempt nothing begins. -/
theorem beginAttempt_none {s : State} (h : s.attemptBegins = false) : beginAttempt s = s := by
  simp [beginAttempt, h]

/-! ## What is read -/

/-- The count of driven bit times touches the break drive and its figure (R68). -/
theorem countBreakDrive_shape (s : State) :
    countBreakDrive s =
      { s with
        line :=
          { s.line with
            breakDrive := (countBreakDrive s).line.breakDrive
            breakBits := (countBreakDrive s).line.breakBits } } := by
  unfold countBreakDrive endBreakDrive
  split
  · split <;> rfl
  · rfl

/-- The reading of a bit time moves the runs, the line state, the receiver, the break drive, and the status of a notice whose
attempt begins (R54, R56, R58, R63, R68). -/
theorem bitHeard_shape (b : BitTime) (s : State) :
    bitHeard b s =
      { s with
        line :=
          { monitorBit (s.readsDominant b) s.line with
            slot := (beginAttempt s).line.slot
            receiver := (s.heard b).receiver
            breakDrive := (bitHeard b s).line.breakDrive
            breakBits := (bitHeard b s).line.breakBits } } := by
  generalize hd : (bitHeard b s).line.breakDrive = d
  generalize hn : (bitHeard b s).line.breakBits = n
  unfold bitHeard at hd hn ⊢
  rw [countBreakDrive_shape, hd, hn, beginAttempt_shape]
  cases s.readsDominant b <;> rfl

/-- The break drive ends with ESTOP inactive and 66 bit times given (R68). -/
theorem bitHeard_endsBreak (b : BitTime) {s : State} (he : s.contacts.estop.active = false)
    (hn : 65 ≤ s.line.breakBits) : (bitHeard b s).line.breakDrive = false := by
  have hcount : Config.breakDriveMin ≤ min (s.line.breakBits + 1) Config.breakDriveMin := by
    simp only [Config.breakDriveMin]; omega
  have hs : ∀ u : State, u.contacts = s.contacts → u.line.breakBits = s.line.breakBits →
      (countBreakDrive u).line.breakDrive = false := by
    intro u hc hb
    unfold countBreakDrive endBreakDrive
    split
    · split
      · rfl
      · simp_all
    · simp_all
  refine hs _ ?_ ?_
  · rw [beginAttempt_shape]
  · cases s.readsDominant b <;> rw [beginAttempt_shape] <;> rfl

section
variable (b : BitTime) (s : State)

@[simp] theorem bitHeard_seq : (bitHeard b s).seq = s.seq := by rw [bitHeard_shape]
@[simp] theorem bitHeard_faults : (bitHeard b s).faults = s.faults := by rw [bitHeard_shape]
@[simp] theorem bitHeard_table : (bitHeard b s).table = s.table := by rw [bitHeard_shape]
@[simp] theorem bitHeard_port : (bitHeard b s).port = s.port := by rw [bitHeard_shape]
@[simp] theorem bitHeard_contacts : (bitHeard b s).contacts = s.contacts := by rw [bitHeard_shape]
@[simp] theorem bitHeard_receiver : (bitHeard b s).line.receiver = (s.heard b).receiver := by
  rw [bitHeard_shape]
@[simp] theorem bitHeard_slot : (bitHeard b s).line.slot = (beginAttempt s).line.slot := by
  rw [bitHeard_shape]
@[simp] theorem bitHeard_assembling : (bitHeard b s).line.assembling = s.line.assembling := by
  rw [bitHeard_shape]; cases s.readsDominant b <;> rfl
@[simp] theorem bitHeard_queue : (bitHeard b s).line.queue = s.line.queue := by
  rw [bitHeard_shape]; cases s.readsDominant b <;> rfl
@[simp] theorem bitHeard_applying : (bitHeard b s).line.applying = s.line.applying := by
  rw [bitHeard_shape]; cases s.readsDominant b <;> rfl
@[simp] theorem bitHeard_followOn : (bitHeard b s).line.followOn = s.line.followOn := by
  rw [bitHeard_shape]; cases s.readsDominant b <;> rfl
@[simp] theorem bitHeard_lossCount : (bitHeard b s).line.lossCount = s.line.lossCount := by
  rw [bitHeard_shape]; cases s.readsDominant b <;> rfl

end

/-- The runs and the line state after a bit time (R56). -/
def Line.runs (l : Line) : LineState × Nat × Nat := (l.state, l.domRun, l.recRun)

/-- A dominant bit time takes IDLE to BUSY, and BUSY to BREAK at a dominant run of 33 (R56). -/
theorem nextLineState_dominant (state : LineState) (run : Nat) :
    nextLineState state (min (run + 1) 100) 0 =
      if state = .idle ∨ (state = .busy ∧ run < 32) then .busy else .broken := by
  have hbreak : Config.breakRun ≤ min (run + 1) 100 ↔ ¬ run < 32 := by simp only [Config.breakRun]; omega
  cases state with
  | idle => simp [nextLineState]
  | busy =>
    simp only [nextLineState, hbreak]
    by_cases h : run < 32 <;> simp [h, Config.idleRun]
  | broken => simp [nextLineState, Config.idleRun]

/-- A recessive bit time takes any state to IDLE at a recessive run of 12, and leaves it short of that (R56). -/
theorem nextLineState_recessive (state : LineState) (run : Nat) :
    nextLineState state 0 (min (run + 1) 100) = if 11 ≤ run then .idle else state := by
  have hidle : Config.idleRun ≤ min (run + 1) 100 ↔ 11 ≤ run := by simp only [Config.idleRun]; omega
  cases state <;> simp [nextLineState, hidle, Config.breakRun]

section
variable {b : BitTime} {s : State}

/-- A dominant bit time lengthens the dominant run and ends the recessive one (R56). -/
theorem bitHeard_dominant (h : s.readsDominant b = true) :
    (bitHeard b s).line.runs =
      (if s.line.state = .idle ∨ (s.line.state = .busy ∧ s.line.domRun < 32) then .busy else .broken,
        min (s.line.domRun + 1) 100, 0) := by
  rw [← nextLineState_dominant, bitHeard_shape, h]; rfl

/-- A recessive bit time lengthens the recessive run and ends the dominant one (R56). -/
theorem bitHeard_recessive (h : s.readsDominant b = false) :
    (bitHeard b s).line.runs =
      (if 11 ≤ s.line.recRun then .idle else s.line.state, 0, min (s.line.recRun + 1) 100) := by
  rw [← nextLineState_recessive, bitHeard_shape, h]; rfl

theorem bitHeard_state_dominant (h : s.readsDominant b = true) :
    (bitHeard b s).line.state =
      if s.line.state = .idle ∨ (s.line.state = .busy ∧ s.line.domRun < 32) then .busy else .broken :=
  congrArg Prod.fst (bitHeard_dominant h)

theorem bitHeard_state_recessive (h : s.readsDominant b = false) :
    (bitHeard b s).line.state = if 11 ≤ s.line.recRun then .idle else s.line.state :=
  congrArg Prod.fst (bitHeard_recessive h)

end

/-! ## What the attempt leaves alone -/

/-- The state but for what an attempt writes: a notice, and LINE_FAULT (R62, R66). -/
def State.withoutAttempt (s : State) : State :=
  { s.withoutNotice with faults := { s.faults with seen := [], pending := [] } }

theorem withoutAttempt_of_notice {s t : State} (h : t.withoutNotice = s.withoutNotice) :
    t.withoutAttempt = s.withoutAttempt :=
  (congrArg (fun u : State => { u with faults := { u.faults with seen := [], pending := [] } }) h :)

theorem actOnAttempt_withoutAttempt (a : AttemptStep) (s : State) :
    (actOnAttempt a s).withoutAttempt = s.withoutAttempt := by
  have hfollow : ∀ u, (followOnNotice u).withoutAttempt = u.withoutAttempt := fun u =>
    withoutAttempt_of_notice (followOnNotice_withoutNotice u)
  cases a with
  | none => rfl
  | goesOn => rfl
  | succeeds => exact (hfollow _).trans rfl
  | lost =>
    refine (hfollow _).trans ?_
    split
    · rw [detect_lineFault]; rfl
    · rfl

section
variable (b : BitTime) (s : State)

theorem bitTried_withoutAttempt : (bitTried b s).withoutAttempt = (bitHeard b s).withoutAttempt :=
  actOnAttempt_withoutAttempt _ _

@[simp] theorem bitTried_runs : (bitTried b s).line.runs = (bitHeard b s).line.runs :=
  congrArg (fun u => u.line.runs) (bitTried_withoutAttempt b s)
@[simp] theorem bitTried_receiver : (bitTried b s).line.receiver = (s.heard b).receiver :=
  (congrArg (fun u => u.line.receiver) (bitTried_withoutAttempt b s)).trans (bitHeard_receiver b s)
@[simp] theorem bitTried_assembling : (bitTried b s).line.assembling = s.line.assembling :=
  (congrArg (fun u => u.line.assembling) (bitTried_withoutAttempt b s)).trans (bitHeard_assembling b s)
@[simp] theorem bitTried_queue : (bitTried b s).line.queue = s.line.queue :=
  (congrArg (fun u => u.line.queue) (bitTried_withoutAttempt b s)).trans (bitHeard_queue b s)
@[simp] theorem bitTried_applying : (bitTried b s).line.applying = s.line.applying :=
  (congrArg (fun u => u.line.applying) (bitTried_withoutAttempt b s)).trans (bitHeard_applying b s)
@[simp] theorem bitTried_seq : (bitTried b s).seq = s.seq :=
  (congrArg State.seq (bitTried_withoutAttempt b s)).trans (bitHeard_seq b s)
@[simp] theorem bitTried_contacts : (bitTried b s).contacts = s.contacts :=
  (congrArg State.contacts (bitTried_withoutAttempt b s)).trans (bitHeard_contacts b s)
@[simp] theorem bitTried_port : (bitTried b s).port = s.port :=
  (congrArg State.port (bitTried_withoutAttempt b s)).trans (bitHeard_port b s)
@[simp] theorem bitTried_entries : (bitTried b s).table.entries = s.table.entries :=
  (congrArg (fun u => u.table.entries) (bitTried_withoutAttempt b s)).trans
    (congrArg Table.entries (bitHeard_table b s))
@[simp] theorem bitTried_taken : (bitTried b s).faults.taken = s.faults.taken :=
  (congrArg (fun u => u.faults.taken) (bitTried_withoutAttempt b s)).trans
    (congrArg FaultUnit.taken (bitHeard_faults b s))
@[simp] theorem bitTried_breakDrive : (bitTried b s).line.breakDrive = (bitHeard b s).line.breakDrive :=
  congrArg (fun u => u.line.breakDrive) (bitTried_withoutAttempt b s)

end

/-! ## What the frame leaves alone -/

/-- The state but for what a frame writes: the assembly, the queue, the application, and LINE_FAULT (R59 to R61). -/
def State.withoutFrame (s : State) : State :=
  { s with
    line := { s.line with assembling := none, queue := [], applying := none }
    faults := { s.faults with seen := [], pending := [] } }

theorem beginApplying_withoutFrame (s : State) : (beginApplying s).withoutFrame = s.withoutFrame := by
  unfold beginApplying; split <;> rfl

theorem receiveFrame_withoutFrame (own : Bool) (f : List Byte) (s : State) :
    (receiveFrame own f s).withoutFrame = s.withoutFrame := by
  unfold receiveFrame
  split_ifs
  · rfl
  · rfl
  · rw [detect_lineFault]; rfl
  · rw [detect_lineFault]; rfl
  · exact (beginApplying_withoutFrame _).trans rfl

theorem actOnFrame_withoutFrame (own : Bool) (f : FrameStep) (s : State) :
    (actOnFrame own f s).withoutFrame = s.withoutFrame := by
  cases f with
  | completed bytes => exact (receiveFrame_withoutFrame own bytes _).trans rfl
  | unchanged => rfl
  | began a => rfl
  | joined a => rfl
  | discarded next => rfl

/-- A frame takes no kind out of the seen set (R163). -/
theorem actOnFrame_seen (own : Bool) (f : FrameStep) {s : State} {k : FaultKind} (h : k ∈ s.faults.seen) :
    k ∈ (actOnFrame own f s).faults.seen := by
  have hfault : ∀ d (u : State), u.faults = s.faults → k ∈ (detect .lineFault d u).faults.seen :=
    fun d u hu => (detect_work (s := u) d (by simp)).seen k (hu ▸ h)
  cases f with
  | completed bytes =>
    unfold actOnFrame receiveFrame
    dsimp only
    split_ifs
    · exact h
    · exact h
    · exact hfault _ _ rfl
    · exact hfault _ _ rfl
    · unfold beginApplying; split <;> exact h
  | unchanged => exact h
  | began a => exact h
  | joined a => exact h
  | discarded next => exact h

/-- The frame of the station's own successful attempt ends its assembly and does nothing else (R60). -/
theorem actOnFrame_own (f : FrameStep) (s : State) : ∃ a, actOnFrame true f s = setAssembling a s := by
  cases f with
  | completed bytes => exact ⟨none, by simp [actOnFrame, receiveFrame]⟩
  | unchanged => exact ⟨s.line.assembling, rfl⟩
  | began a => exact ⟨some a, rfl⟩
  | joined a => exact ⟨some a, rfl⟩
  | discarded next => exact ⟨next, rfl⟩

section
variable (b : BitTime) (s : State)

theorem bitActed_withoutFrame : (bitActed b s).withoutFrame = (bitTried b s).withoutFrame :=
  actOnFrame_withoutFrame _ _ _

@[simp] theorem bitActed_runs : (bitActed b s).line.runs = (bitHeard b s).line.runs :=
  (congrArg (fun u => u.line.runs) (bitActed_withoutFrame b s)).trans (bitTried_runs b s)
@[simp] theorem bitActed_state : (bitActed b s).line.state = (bitHeard b s).line.state :=
  congrArg Prod.fst (bitActed_runs b s)
@[simp] theorem bitActed_receiver : (bitActed b s).line.receiver = (s.heard b).receiver :=
  (congrArg (fun u => u.line.receiver) (bitActed_withoutFrame b s)).trans (bitTried_receiver b s)
@[simp] theorem bitActed_slot : (bitActed b s).line.slot = (bitTried b s).line.slot :=
  congrArg (fun u => u.line.slot) (bitActed_withoutFrame b s)
@[simp] theorem bitActed_followOn : (bitActed b s).line.followOn = (bitTried b s).line.followOn :=
  congrArg (fun u => u.line.followOn) (bitActed_withoutFrame b s)
@[simp] theorem bitActed_lossCount : (bitActed b s).line.lossCount = (bitTried b s).line.lossCount :=
  congrArg (fun u => u.line.lossCount) (bitActed_withoutFrame b s)
@[simp] theorem bitActed_table : (bitActed b s).table = (bitTried b s).table :=
  congrArg (fun u => u.table) (bitActed_withoutFrame b s)
@[simp] theorem bitActed_seq : (bitActed b s).seq = s.seq :=
  (congrArg State.seq (bitActed_withoutFrame b s)).trans (bitTried_seq b s)
@[simp] theorem bitActed_contacts : (bitActed b s).contacts = s.contacts :=
  (congrArg State.contacts (bitActed_withoutFrame b s)).trans (bitTried_contacts b s)
@[simp] theorem bitActed_port : (bitActed b s).port = s.port :=
  (congrArg State.port (bitActed_withoutFrame b s)).trans (bitTried_port b s)
@[simp] theorem bitActed_taken : (bitActed b s).faults.taken = s.faults.taken :=
  (congrArg (fun u => u.faults.taken) (bitActed_withoutFrame b s)).trans (bitTried_taken b s)
@[simp] theorem bitActed_breakDrive : (bitActed b s).line.breakDrive = (bitHeard b s).line.breakDrive :=
  (congrArg (fun u => u.line.breakDrive) (bitActed_withoutFrame b s)).trans (bitTried_breakDrive b s)

end

/-! ## Bit times that do not enter BREAK -/

/-- The bit time does not enter BREAK (R56). -/
def StaysUp (b : BitTime) (s : State) : Prop :=
  (bitHeard b s).line.state = .broken → s.line.state = .broken

/-- With a recessive bit time, or a dominant run that ends below 33, the line does not enter BREAK (R56). -/
theorem staysUp_of_run {b : BitTime} {s : State} (h : s.readsDominant b = true → s.line.domRun < 32) :
    StaysUp b s := by
  intro hbroken
  cases hd : s.readsDominant b with
  | true =>
    rw [bitHeard_state_dominant hd] at hbroken
    cases hs : s.line.state <;> simp_all
  | false =>
    rw [bitHeard_state_recessive hd] at hbroken
    split at hbroken <;> simp_all

/-- From IDLE the line goes to BUSY first (R56). -/
theorem staysUp_of_idle (b : BitTime) {s : State} (h : s.line.state = .idle) : StaysUp b s := by
  intro hbroken
  cases hd : s.readsDominant b with
  | true => simp [bitHeard_state_dominant hd, h] at hbroken
  | false => simp [bitHeard_state_recessive hd, h] at hbroken

/-- A bit time that does not enter BREAK ends a partial frame where it enters IDLE, and is the attempt and the frame
otherwise (R59). -/
theorem bitTime_staysUp {b : BitTime} {s : State} (h : StaysUp b s) :
    bitTime s b =
      if s.line.state ≠ .idle ∧ (bitHeard b s).line.state = .idle then setAssembling none (bitActed b s)
      else bitActed b s := by
  have hwork : bitWork b s =
      if s.line.state ≠ .idle ∧ (bitHeard b s).line.state = .idle then setAssembling none (bitActed b s)
      else bitActed b s := by
    rw [bitWork_eq, actOnLineState, bitActed_state, if_neg fun e => e.1 (h e.2)]
  have hseq : (bitWork b s).seq = s.seq := by
    rw [hwork]; split
    · exact bitActed_seq b s
    · exact bitActed_seq b s
  have hbit : bitTime s b = bitWork b s := by simp [bitTime, hseq]
  rw [hbit, hwork]

/-- Whether it enters IDLE or not, such a bit time is the attempt and the frame, but for the assembly. -/
theorem bitTime_staysUp_assembling {b : BitTime} {s : State} (h : StaysUp b s) :
    ∃ a, bitTime s b = setAssembling a (bitActed b s) := by
  rw [bitTime_staysUp h]
  split
  · exact ⟨none, rfl⟩
  · exact ⟨(bitActed b s).line.assembling, rfl⟩

end Sys2Proof.Machine
end

section
/-!
PROOF. Characters and the frames they make.
-/
namespace Sys2Proof.Machine

/-! ## The stop bit of a character (R58, R59) -/

/-- What the receiver makes of the eleventh bit of a character (R58). -/
def receivedAtStop (bits : List Bool) (dominant noisy : Bool) : Received :=
  if dominant then .framingError
  else .character (byteOf ((bits.drop 1).take 8)) (bits.getD 9 false) noisy

/-- At a stop bit the receiver is done with the character, and what it made of it meets the frame being assembled (R58). -/
theorem heard_stop {bits : List Bool} {noisy : Bool} {s : State} (b : BitTime)
    (hr : s.line.receiver = .character bits noisy) (hlen : bits.length = 10) :
    (s.heard b).receiver = (if s.readsDominant b then .awaitRecessive else .waiting) ∧
    (s.heard b).frame = frameStep s.line.assembling
      (receivedAtStop bits (s.readsDominant b) (noisy || s.readsNoisy b)) := by
  have hr' : (beginAttempt s).line.receiver = .character bits noisy := by rw [beginAttempt_shape]; exact hr
  have ha : (beginAttempt s).line.assembling = s.line.assembling := by rw [beginAttempt_shape]
  have hd : majority (lineSamples (beginAttempt s).ownBit b) = s.readsDominant b := rfl
  have hn : disagree (lineSamples (beginAttempt s).ownBit b) = s.readsNoisy b := rfl
  simp only [State.heard, readBit, receiveBit, receivedAtStop, hr', ha, hd, hn, hlen]
  cases s.readsDominant b <;> simp

/-- In BUSY a bit time that reaches neither run brings what the attempt and the frame bring (R56). -/
theorem bitTime_busy {b : BitTime} {s : State} (hs : s.line.state = .busy)
    (hd : s.readsDominant b = true → s.line.domRun < 32)
    (hr : s.readsDominant b = false → s.line.recRun < 11) : bitTime s b = bitActed b s := by
  rw [bitTime_staysUp (staysUp_of_run hd), if_neg]
  rintro ⟨-, hidle⟩
  cases h : s.readsDominant b with
  | true => simp [bitHeard_state_dominant h, hs, hd h] at hidle
  | false => simp [bitHeard_state_recessive h, hs, Nat.not_le.mpr (hr h)] at hidle

/-! ## What the frame being assembled makes of a character (R59) -/

section
variable {f : Assembly} {c : Byte} {noisy : Bool}

theorem frameStep_third_noisy (h : 3 ≤ f.noisy + noisy.toNat) :
    frameStep (some f) (.character c false noisy) = .discarded none := by
  simp [frameStep, h]

theorem frameStep_joins (h : f.noisy + noisy.toNat < 3) (hl : f.bytes.length < 14) :
    frameStep (some f) (.character c false noisy) =
      .joined { bytes := f.bytes ++ [c], noisy := f.noisy + noisy.toNat } := by
  have hlast : f.bytes.length + 1 ≠ Config.noticeBytes := by simp only [Config.noticeBytes]; omega
  simp [frameStep, Nat.not_le.mpr h, hlast]

theorem frameStep_completes (h : f.noisy + noisy.toNat < 3) (hl : f.bytes.length = 14) :
    frameStep (some f) (.character c false noisy) = .completed (f.bytes ++ [c]) := by
  simp [frameStep, Nat.not_le.mpr h, hl, Config.noticeBytes]

end

/-- Settles O54: each case of the frame that a stop bit meets is the row of `frameStep` for it. -/
theorem charactersAssembleFrames : Obligations.CharactersAssembleFrames := by
  intro pre b bits noisy f s u hu hbusy hrec hlen
  obtain ⟨hreceiver, hframe⟩ := heard_stop b hrec hlen
  refine ⟨fun hd hrun => ?_, fun hd hrun hf => ?_⟩
  · have hbit := bitTime_busy hbusy (b := b) (by simp [hd]) fun _ => hrun
    rw [hd] at hreceiver
    simp only [hd, receivedAtStop, Bool.false_eq_true, if_false] at hreceiver hframe
    have hwaiting : (secure s (bitTime u b)).line.receiver = .waiting := by simp [hbit, hreceiver]
    have formed := exec_lineRow (row := .characterFormed) (fun _ _ => rfl) hu b
    refine ⟨fun hm => ?_, fun hm hf => rfl, fun hm hf => ?_, fun hm hf hn hlt => ?_, fun hm hf hn => ?_⟩
    · refine ⟨_, formed, hwaiting, ?_⟩
      rw [hm] at hframe
      cases ha : u.line.assembling <;> rw [ha] at hframe <;>
        simp [hbit, bitActed, hframe, frameStep, actOnFrame]
    · rw [hm, hf] at hframe
      refine ⟨_, formed, hwaiting, ?_⟩
      simp [hbit, bitActed, hframe, hf, frameStep, actOnFrame]
    · rw [hm, hf, frameStep_joins hn hlt] at hframe
      refine ⟨_, formed, hwaiting, ?_⟩
      simp [hbit, bitActed, hframe, actOnFrame]
    · rw [hm, hf, frameStep_third_noisy hn] at hframe
      refine ⟨_, exec_lineRow (row := .frameDiscard) (fun _ _ => rfl) hu b, hwaiting, ?_⟩
      simp [hbit, bitActed, hframe, actOnFrame]
  · have hbit := bitTime_busy hbusy (b := b) (fun _ => hrun) (by simp [hd])
    refine ⟨_, exec_lineRow (row := .frameDiscard) (fun _ _ => rfl) hu b, ?_⟩
    simp [hbit, hreceiver, bitActed, hframe, hd, hf, receivedAtStop, frameStep, actOnFrame]

end Sys2Proof.Machine
end

section
/-!
PROOF. Completed frames and the receive queue.
-/
namespace Sys2Proof.Machine

/-! ## A completed frame, case by case (R60, R61, R72) -/

section
variable {f : List Byte} {s : State}

/-- Before SETUP a completed frame is discarded (R60, R72). -/
theorem receiveFrame_unconfigured (hc : s.seq.config = none) : receiveFrame false f s = s := by
  simp [receiveFrame, hc]

/-- A frame with a bad check is a LINE_FAULT (R60). -/
theorem receiveFrame_badCheck (hc : s.seq.config.isSome = true) (hcrc : crcBytes (f.take 13) ≠ f.drop 13) :
    receiveFrame false f s = detect .lineFault .check s := by
  simp [receiveFrame, Option.isSome_iff_ne_none.mp hc, hcrc]

/-- A frame that meets a full queue is a LINE_FAULT (R60). -/
theorem receiveFrame_overrun (hc : s.seq.config.isSome = true) (hcrc : crcBytes (f.take 13) = f.drop 13)
    (hq : 4 ≤ s.line.queue.length) : receiveFrame false f s = detect .lineFault .overrun s := by
  simp [receiveFrame, Option.isSome_iff_ne_none.mp hc, hcrc, Config.queueSize, hq]

/-- Any other frame joins the queue (R60, R61). -/
theorem receiveFrame_joins (hc : s.seq.config.isSome = true) (hcrc : crcBytes (f.take 13) = f.drop 13)
    (hq : s.line.queue.length < 4) :
    receiveFrame false f s =
      beginApplying { s with line := { s.line with queue := s.line.queue ++ [f] } } := by
  simp [receiveFrame, Option.isSome_iff_ne_none.mp hc, hcrc, Config.queueSize, Nat.not_le.mpr hq]

end

/-- The application that stands once the table has looked at the queue: the one in progress, or the head's (R61). -/
theorem beginApplying_eq (s : State) :
    beginApplying s =
      { s with
        line :=
          { s.line with
            applying := s.line.applying <|> s.line.queue.head?.map fun x => { frame := x, counted := true } } } := by
  unfold beginApplying
  split
  · rename_i ha hq
    simp [ha, hq]
  · rename_i h
    have hkeep : (s.line.applying <|> s.line.queue.head?.map fun x => { frame := x, counted := true }) =
        s.line.applying := by
      cases ha : s.line.applying with
      | some a => rfl
      | none =>
        cases hq : s.line.queue with
        | nil => rfl
        | cons x rest => exact (h x rest ha hq).elim
    rw [hkeep]

/-- A completed frame leaves the assembly as it stands. -/
theorem receiveFrame_assembling (own : Bool) (f : List Byte) (s : State) :
    (receiveFrame own f s).line.assembling = s.line.assembling := by
  unfold receiveFrame
  split_ifs
  · rfl
  · rfl
  · rw [detect_lineFault]
  · rw [detect_lineFault]
  · rw [beginApplying_eq]

/-! ## The bit time that completes a frame of another station -/

/-- A station that drives nothing has no attempt that a bit time could meet (R63). -/
theorem attemptStep_silent (slot : Option Slot) (dominant : Bool) :
    attemptStep slot none dominant = .none := by
  unfold attemptStep; split <;> simp_all

/-- Where the station drives nothing, the bit time acts by its frame alone. -/
theorem bitTried_silent (b : BitTime) {s : State} (h : (beginAttempt s).ownBit = none) :
    (s.heard b).attempt = .none ∧ bitTried b s = bitHeard b s := by
  have ha : (s.heard b).attempt = .none := by
    simp only [State.heard, readBit, h]
    exact attemptStep_silent _ _
  exact ⟨ha, by rw [bitTried, ha, actOnAttempt]⟩

/-- Off IDLE no attempt begins (R63). -/
theorem beginAttempt_offIdle {s : State} (h : s.line.state ≠ .idle) : beginAttempt s = s :=
  beginAttempt_none (by simp [State.attemptBegins, h])

/-- The stop bit that completes another station's frame brings the frame to the receive queue (R60). -/
theorem bitTime_completes {b : BitTime} {bits : List Bool} {noisy : Bool} {f : Assembly} {u : State}
    (hbusy : u.line.state = .busy) (hrun : u.line.recRun < 11)
    (hrec : u.line.receiver = .character bits noisy) (hlen : bits.length = 10)
    (hm : bits.getD 9 false = false) (hd : u.readsDominant b = false)
    (hown : (beginAttempt u).ownBit = none) (hf : u.line.assembling = some f) (hl : f.bytes.length = 14)
    (hn : f.noisy + (noisy || u.readsNoisy b).toNat < 3) :
    bitTime u b =
      receiveFrame false (f.bytes ++ [byteOf ((bits.drop 1).take 8)]) (setAssembling none (bitHeard b u)) := by
  obtain ⟨-, hframe⟩ := heard_stop b hrec hlen
  obtain ⟨ha, htried⟩ := bitTried_silent b hown
  simp only [hd, receivedAtStop, Bool.false_eq_true, if_false] at hframe
  rw [hm, hf, frameStep_completes hn hl] at hframe
  rw [bitTime_busy hbusy (by simp [hd]) fun _ => hrun, bitActed, hframe, ha, htried]
  rfl

/-- Settles O55: each case of R60 is the row of `receiveFrame` for it, on a station as the stop bit has been read. -/
theorem completedFramesJoinTheQueue : Obligations.CompletedFramesJoinTheQueue := by
  intro pre b bits noisy f frame s u hu hbusy hrun hrec hlen hm hd hown hf hl hn hframe
  have hbit := bitTime_completes hbusy hrun hrec hlen hm hd hown hf hl hn
  rw [← hframe] at hbit
  refine ⟨_, exec_lineRow (row := .frameComplete) (fun _ _ => rfl) hu b, ?_⟩
  have hreceiver : (u.heard b).receiver = .waiting := by simp [(heard_stop b hrec hlen).1, hd]
  have hslot : (beginAttempt u).line.slot = u.line.slot := by rw [beginAttempt_offIdle (by simp [hbusy])]
  simp only [secure_line, secure_table, secure_seq, secure_faults, hbit]
  have hrest := receiveFrame_withoutFrame false frame (setAssembling none (bitHeard b u))
  refine ⟨receiveFrame_assembling _ _ _, ?_, ?_, ?_, ?_, fun hc => ?_, fun hc hcrc => ?_, fun hc hcrc hq => ?_,
    fun hc hcrc hq => ?_⟩
  · exact (congrArg (fun v => v.line.receiver) hrest).trans ((bitHeard_receiver b u).trans hreceiver)
  · exact (congrArg (fun v => v.line.slot) hrest).trans ((bitHeard_slot b u).trans hslot)
  · exact (congrArg State.table hrest).trans (bitHeard_table b u)
  · exact (congrArg State.seq hrest).trans (bitHeard_seq b u)
  · rw [receiveFrame_unconfigured (by simpa using hc)]
    simp
  · rw [receiveFrame_badCheck (by simpa using hc) hcrc]
    simp [detect_lineFault, State.stageActive, FaultUnit.lineFaulted, mem_insertKind]
  · rw [receiveFrame_overrun (by simpa using hc) hcrc (by simpa using hq)]
    simp [detect_lineFault, State.stageActive, FaultUnit.lineFaulted, mem_insertKind]
  · rw [receiveFrame_joins (by simpa using hc) hcrc (by simpa using hq), beginApplying_eq]
    refine ⟨by simp, by simp, fun ha => ?_, fun ha => by simp [ha]⟩
    obtain ⟨a, ha⟩ := Option.isSome_iff_exists.mp ha
    simp [ha]

end Sys2Proof.Machine
end

section
/-!
PROOF. Sending attempts: how they begin, and how they end.
-/
namespace Sys2Proof.Machine

/-! ## The attempt that meets a bit time (R63 to R65) -/

/-- A waiting notice on an idle line, and a back-off that has run out, begin their attempt (R63, R64). -/
theorem beginAttempt_due {s : State} {n : Slot} (hdrive : s.line.breakDrive = false)
    (hslot : s.line.slot = some n) (hidle : s.line.state = .idle)
    (hdue : n.status = .waiting ∨
      (n.status = .backoff ∧ backoffRun (s.cfg Setup.station 0) ≤ s.line.recRun)) :
    beginAttempt s = { s with line := { s.line with slot := some { n with status := .sending 0 } } } := by
  obtain ⟨frame, status, retry⟩ := n
  have hbegins : s.attemptBegins = true := by
    obtain h | ⟨h, hrun⟩ := hdue <;> subst h
    · simp [State.attemptBegins, hdrive, hslot, hidle]
    · simp [State.attemptBegins, hdrive, hslot, hidle, hrun]
  simp [beginAttempt, hbegins, hslot]

/-- A notice that is being sent begins no attempt. -/
theorem beginAttempt_sending {s : State} {n : Slot} {k : Nat} (hslot : s.line.slot = some n)
    (hs : n.status = .sending k) : beginAttempt s = s := by
  obtain ⟨frame, status, retry⟩ := n
  subst hs
  exact beginAttempt_none (by simp [State.attemptBegins, hslot])

/-- The readback of a bit of the notice (R64, R65). -/
theorem attemptStep_sending {n : Slot} {k : Nat} (hs : n.status = .sending k) (bit dominant : Bool) :
    attemptStep (some n) (some bit) dominant =
      if bit ≠ dominant then .lost else if k + 1 = 165 then .succeeds else .goesOn := by
  obtain ⟨frame, status, retry⟩ := n
  subst hs
  rfl

/-- A station that sends drives the bit at the notice's place (R63). -/
theorem ownBit_sending {s : State} {n : Slot} {k : Nat} (hdrive : s.line.breakDrive = false)
    (hslot : s.line.slot = some n) (hs : n.status = .sending k) : s.ownBit = some (frameBit n.frame k) := by
  obtain ⟨frame, status, retry⟩ := n
  subst hs
  simp [State.ownBit, hdrive, hslot]

/-- What the readback makes of an attempt in progress (R64, R65). -/
theorem heard_attempt {b : BitTime} {s : State} {n : Slot} {k : Nat}
    (hdrive : (beginAttempt s).line.breakDrive = false) (hslot : (beginAttempt s).line.slot = some n)
    (hs : n.status = .sending k) :
    (s.heard b).attempt =
      if frameBit n.frame k ≠ s.readsDominant b then .lost
      else if k + 1 = 165 then .succeeds else .goesOn := by
  simp only [State.heard, readBit, State.readsDominant, ownBit_sending hdrive hslot hs, hslot]
  exact attemptStep_sending hs _ _

/-! ## The first bit of an attempt (R55, R63) -/

/-- Every frame begins with a dominant start bit (R55). -/
theorem frameBit_start (frame : List Byte) : frameBit frame 0 = true := rfl

/-- Every frame ends with a recessive stop bit (R55). -/
theorem frameBit_stop (frame : List Byte) : frameBit frame 164 = false := rfl

/-- A due attempt has its start bit read back at its first bit time, unless the own driver fails (R63). -/
theorem bitTime_begins {b : BitTime} {s : State} {n : Slot} (hdrive : s.line.breakDrive = false)
    (hslot : s.line.slot = some n) (hidle : s.line.state = .idle) (hb : b.driverFails = false)
    (hdue : n.status = .waiting ∨
      (n.status = .backoff ∧ backoffRun (s.cfg Setup.station 0) ≤ s.line.recRun)) :
    (bitTime s b).line.state = .busy ∧
    (bitTime s b).line.slot = some { n with status := .sending 1 } ∧
    (bitTime s b).line.lossCount = s.line.lossCount := by
  have hbegin := beginAttempt_due hdrive hslot hidle hdue
  have hdrive' : (beginAttempt s).line.breakDrive = false := by rw [hbegin]; exact hdrive
  have hslot' : (beginAttempt s).line.slot = some { n with status := .sending 0 } := by rw [hbegin]
  have hdominant : s.readsDominant b = true := by
    simp [State.readsDominant, ownBit_sending hdrive' hslot' rfl, frameBit_start, lineSamples, hb, majority]
  have hgoes : (s.heard b).attempt = .goesOn := by
    rw [heard_attempt hdrive' hslot' rfl, hdominant]; rfl
  rw [bitTime_staysUp (staysUp_of_idle b hidle), if_neg (by simp [hidle])]
  refine ⟨?_, ?_, ?_⟩
  · rw [bitActed_state, bitHeard_state_dominant hdominant, if_pos (.inl hidle)]
  · simp [bitTried, hgoes, actOnAttempt, hslot']
  · simp [bitTried, hgoes, actOnAttempt]

/-! ## The follow-on notice (R62, R66) -/

/-- Without a follow-on mark nothing follows an attempt. -/
theorem followOnNotice_none {s : State} (h : s.line.followOn = false) : followOnNotice s = s := by
  simp [followOnNotice, h]

/-- No attempt leaves a follow-on mark behind it (R62). -/
theorem followOnNotice_followOn (s : State) : (followOnNotice s).line.followOn = false := by
  unfold followOnNotice
  split
  · rfl
  · simp_all

/-- The status of a follow-on notice (R62, log 18). -/
def followOnStatus (slot : Option Slot) : SlotStatus :=
  if slot.map Slot.status = some .backoff then .backoff else .waiting

/-- A follow-on notice stands where the attempt has left the slot, with a loss count and a sequence of its own (R62, R66,
R83). -/
theorem followOnNotice_placed {s : State} (h : s.line.followOn = true) :
    (followOnNotice s).line.lossCount = 0 ∧
    (followOnNotice s).table.ownSequence = (s.table.ownSequence + 1) % 256 ∧
    (followOnNotice s).line.slot.map Slot.status = some (followOnStatus s.line.slot) := by
  unfold followOnNotice
  rw [if_pos h]
  refine ⟨rfl, rfl, ?_⟩
  simp only [placeNotice, Option.map_some, followOnStatus]
  rcases s.line.slot with _ | ⟨frame, status, retry⟩
  · rfl
  · cases status <;> rfl

/-- What stands once a follow-on notice has had its turn on an emptied slot (R62, R65, R66). -/
structure SlotCleared (before after : State) : Prop where
  lossCount : after.line.lossCount = 0
  followOn : after.line.followOn = false
  alone : before.line.followOn = false → after.line.slot = none ∧ after.table = before.table
  followed : before.line.followOn = true →
    after.line.slot.map Slot.status = some .waiting ∧
    after.table.ownSequence = (before.table.ownSequence + 1) % 256

theorem followOnNotice_cleared {s u : State} (hslot : u.line.slot = none) (hloss : u.line.lossCount = 0)
    (hf : u.line.followOn = s.line.followOn) (ht : u.table = s.table) :
    SlotCleared s (followOnNotice u) := by
  cases h : u.line.followOn with
  | false =>
    rw [followOnNotice_none h]
    exact ⟨hloss, h, fun _ => ⟨hslot, ht⟩, fun e => absurd (hf.trans e) (by simp [h])⟩
  | true =>
    obtain ⟨hl, hseq, hst⟩ := followOnNotice_placed h
    rw [hslot] at hst
    exact ⟨hl, followOnNotice_followOn u, fun e => absurd (hf.trans e) (by simp [h]),
      fun _ => ⟨hst, by rw [hseq, ht]⟩⟩

/-! ## The end of an attempt (R64 to R66) -/

/-- A last bit read back empties the slot (R65). -/
theorem actOnAttempt_succeeds (s : State) : SlotCleared s (actOnAttempt .succeeds s) :=
  followOnNotice_cleared rfl rfl rfl rfl

theorem actOnAttempt_succeeds_faults (s : State) : (actOnAttempt .succeeds s).faults = s.faults :=
  (congrArg State.faults (followOnNotice_withoutNotice _) :)

/-- The sixteenth loss drops the notice and is a LINE_FAULT (R66). -/
theorem actOnAttempt_dropped {s : State} (h : 15 ≤ s.line.lossCount) :
    SlotCleared s (actOnAttempt .lost s) ∧ .lineFault ∈ (actOnAttempt .lost s).faults.seen := by
  have hlimit : Config.lossLimit ≤ s.line.lossCount + 1 := by simp only [Config.lossLimit]; omega
  simp only [actOnAttempt, loseAttempt, hlimit, if_true, detect_lineFault]
  refine ⟨followOnNotice_cleared rfl rfl rfl rfl, ?_⟩
  rw [followOnNotice_shape]
  exact mem_insertKind.mpr (.inl rfl)

/-- The notice that an earlier loss leaves in the slot: in back-off, or none where it is not to be retried (R64, R67). -/
def Slot.afterLoss (n : Slot) : Option Slot := if n.retry = true then some { n with status := .backoff } else none

theorem Slot.afterLoss_status (n : Slot) :
    followOnStatus n.afterLoss = if n.retry = true then .backoff else .waiting := by
  unfold Slot.afterLoss
  split <;> rfl

/-- An earlier loss is counted, and the notice waits out a back-off (R64, R66). -/
theorem actOnAttempt_lost {s : State} {n : Slot} (hslot : s.line.slot = some n) (h : s.line.lossCount < 15) :
    actOnAttempt .lost s =
      followOnNotice
        { s with line := { s.line with lossCount := s.line.lossCount + 1, slot := n.afterLoss } } := by
  have hlimit : ¬ Config.lossLimit ≤ s.line.lossCount + 1 := by simp only [Config.lossLimit]; omega
  simp only [actOnAttempt, loseAttempt, hlimit, if_false, hslot, Option.bind_some]
  rfl

/-! ## The bit time that ends an attempt -/

/-- The slot, the follow-on mark, the loss count and the table come from the attempt, whatever the frame and the line state
bring. -/
theorem bitTime_attempt {b : BitTime} {s : State} (h : s.readsDominant b = true → s.line.domRun < 32) :
    (bitTime s b).line.slot = (bitTried b s).line.slot ∧
    (bitTime s b).line.followOn = (bitTried b s).line.followOn ∧
    (bitTime s b).line.lossCount = (bitTried b s).line.lossCount ∧
    (bitTime s b).table = (bitTried b s).table := by
  obtain ⟨a, ha⟩ := bitTime_staysUp_assembling (staysUp_of_run h)
  rw [ha]
  exact ⟨bitActed_slot b s, bitActed_followOn b s, bitActed_lossCount b s, bitActed_table b s⟩

/-- An emptied slot stands so at the end of the bit time. -/
theorem bitTime_cleared {b : BitTime} {s : State} (h : s.readsDominant b = true → s.line.domRun < 32)
    (hc : SlotCleared (bitHeard b s) (bitTried b s)) : SlotCleared s (bitTime s b) := by
  obtain ⟨hslot, hfollow, hloss, htable⟩ := bitTime_attempt h
  obtain ⟨h1, h2, h3, h4⟩ := hc
  simp only [bitHeard_followOn, bitHeard_table, ← hslot, ← hfollow, ← hloss, ← htable] at h1 h2 h3 h4
  exact ⟨h1, h2, h3, h4⟩

section
variable {b : BitTime} {s : State} {n : Slot} {k : Nat}

/-- The readback of the notice in the slot (R64, R65). -/
theorem heard_attempt_sending (hdrive : s.line.breakDrive = false) (hslot : s.line.slot = some n)
    (hs : n.status = .sending k) :
    (s.heard b).attempt =
      if frameBit n.frame k ≠ s.readsDominant b then .lost
      else if k + 1 = 165 then .succeeds else .goesOn := by
  have hbegin := beginAttempt_sending hslot hs
  exact heard_attempt (by rw [hbegin]; exact hdrive) (by rw [hbegin]; exact hslot) hs

/-- The last bit of a notice, read back, ends the attempt: the slot is emptied, and the frame heard is the own one (R60, R65). -/
theorem bitTime_won (hdrive : s.line.breakDrive = false) (hslot : s.line.slot = some n)
    (hs : n.status = .sending 164) (hd : s.readsDominant b = false) :
    SlotCleared s (bitTime s b) ∧ (bitTime s b).line.queue = s.line.queue ∧
    (bitTime s b).faults = s.faults ∧ (bitTime s b).table.entries = s.table.entries := by
  have hwon : (s.heard b).attempt = .succeeds := by
    rw [heard_attempt_sending hdrive hslot hs, frameBit_stop, hd]; rfl
  have hcleared : SlotCleared (bitHeard b s) (bitTried b s) := by
    rw [bitTried, hwon]; exact actOnAttempt_succeeds _
  have hfaults : (bitTried b s).faults = s.faults := by
    rw [bitTried, hwon, actOnAttempt_succeeds_faults, bitHeard_faults]
  obtain ⟨a, ha⟩ := bitTime_staysUp_assembling (staysUp_of_run (b := b) (s := s) (by simp [hd]))
  obtain ⟨a', ha'⟩ : ∃ a', bitActed b s = setAssembling a' (bitTried b s) := by
    rw [bitActed, hwon]; exact actOnFrame_own _ _
  refine ⟨bitTime_cleared (by simp [hd]) hcleared, ?_⟩
  simp [ha, ha', hfaults]

/-- A mismatch before the sixteenth counts a loss, and the notice waits out a back-off; a follow-on notice takes its place
(R62, R64, R66, R67). -/
theorem bitTime_lost (hdrive : s.line.breakDrive = false) (hslot : s.line.slot = some n)
    (hs : n.status = .sending k) (hd : s.readsDominant b ≠ frameBit n.frame k) (hrun : s.line.domRun < 32)
    (hl : s.line.lossCount < 15) :
    (bitTime s b).line.followOn = false ∧
    (s.line.followOn = false →
      (bitTime s b).line.lossCount = s.line.lossCount + 1 ∧ (bitTime s b).table = s.table ∧
      (bitTime s b).line.slot = n.afterLoss) ∧
    (s.line.followOn = true →
      (bitTime s b).line.lossCount = 0 ∧
      (bitTime s b).table.ownSequence = (s.table.ownSequence + 1) % 256 ∧
      (bitTime s b).line.slot.map Slot.status = some (if n.retry = true then .backoff else .waiting)) := by
  have hlost : (s.heard b).attempt = .lost := by
    rw [heard_attempt_sending hdrive hslot hs, if_pos (Ne.symm hd)]
  have hslot' : (bitHeard b s).line.slot = some n := by
    rw [bitHeard_slot, beginAttempt_sending hslot hs, hslot]
  obtain ⟨h1, h2, h3, h4⟩ := bitTime_attempt fun _ => hrun
  rw [bitTried, hlost, actOnAttempt_lost hslot' (by simpa using hl)] at h1 h2 h3 h4
  rw [h1, h2, h3, h4]
  refine ⟨followOnNotice_followOn _, fun hf => ?_, fun hf => ?_⟩
  · rw [followOnNotice_none (by simpa using hf)]
    exact ⟨by simp, by simp, rfl⟩
  · obtain ⟨hcount, hsequence, hstatus⟩ := followOnNotice_placed (s :=
      { bitHeard b s with
        line :=
          { (bitHeard b s).line with
            lossCount := (bitHeard b s).line.lossCount + 1, slot := n.afterLoss } }) (by simpa using hf)
    exact ⟨hcount, by simpa using hsequence, hstatus.trans (congrArg some n.afterLoss_status)⟩

/-- The sixteenth mismatch drops the notice and detects LINE_FAULT (R66). -/
theorem bitTime_dropped (hdrive : s.line.breakDrive = false) (hslot : s.line.slot = some n)
    (hs : n.status = .sending k) (hd : s.readsDominant b ≠ frameBit n.frame k) (hrun : s.line.domRun < 32)
    (hl : 15 ≤ s.line.lossCount) :
    SlotCleared s (bitTime s b) ∧ .lineFault ∈ (bitTime s b).faults.seen := by
  have hlost : (s.heard b).attempt = .lost := by
    rw [heard_attempt_sending hdrive hslot hs, if_pos (Ne.symm hd)]
  obtain ⟨hcleared, hseen⟩ := actOnAttempt_dropped (s := bitHeard b s) (by simpa using hl)
  rw [← hlost] at hcleared hseen
  obtain ⟨a, ha⟩ := bitTime_staysUp_assembling (staysUp_of_run (b := b) fun _ => hrun)
  refine ⟨bitTime_cleared (fun _ => hrun) hcleared, ?_⟩
  rw [ha]
  exact actOnFrame_seen _ _ hseen

end

/-- Settles O56: each clause is one end of an attempt, or its beginning. -/
theorem attemptsAreWonOrLost : Obligations.AttemptsAreWonOrLost := by
  intro pre b n k s u hu hdrive hslot
  refine ⟨fun hidle hw hb => ?_, fun hidle hw hb hrun => ?_, fun hs hd => ?_, fun hs hd hrun hl => ?_,
    fun hs hd hrun hl => ?_⟩
  · refine ⟨_, exec_lineRow (row := .attemptStart) (fun _ _ => rfl) hu b, ?_⟩
    simpa using bitTime_begins hdrive hslot hidle hb (.inl hw)
  · refine ⟨_, exec_lineRow (row := .backoffEnd) (fun _ _ => rfl) hu b, ?_⟩
    simpa using bitTime_begins hdrive hslot hidle hb (.inr ⟨hw, hrun⟩)
  · obtain ⟨⟨hloss, hfollow, halone, hfollowed⟩, hqueue, hfaults, hentries⟩ := bitTime_won hdrive hslot hs hd
    refine ⟨_, exec_lineRow (row := .attemptSuccess) (fun _ _ => rfl) hu b, ?_⟩
    simp only [secure_line, secure_table, secure_faults]
    exact ⟨hloss, hfollow, hqueue, hfaults, hentries, halone, hfollowed⟩
  · refine ⟨_, exec_lineRow (row := .attemptLost) (fun _ _ => rfl) hu b, ?_⟩
    simp only [secure_line, secure_table]
    exact bitTime_lost hdrive hslot hs hd hrun hl
  · obtain ⟨⟨hloss, hfollow, halone, hfollowed⟩, hseen⟩ := bitTime_dropped hdrive hslot hs hd hrun hl
    refine ⟨_, exec_lineRow (row := .noticeDropped) (fun _ _ => rfl) hu b, ?_⟩
    simp only [secure_line, secure_table, secure_faults]
    exact ⟨hfollow, hloss, hseen, halone, hfollowed⟩

end Sys2Proof.Machine
end

section
/-!
PROOF. The line states of a bit time: IDLE, BUSY, the entry into BREAK, and the end of the break drive.
-/
namespace Sys2Proof.Machine

/-! ## WALL_STOP (R50, R69, R164) -/

/-- WALL_STOP is only seen before SETUP, and taken at once after it (R164). -/
theorem detect_wallStop (d : Detail) (s : State) :
    detect .wallStop d s =
      if s.seq.runState = .unconfigured then seeKind .wallStop s
      else takeAtOnce .wallStop d (seeKind .wallStop s) := by
  unfold detect
  rw [if_neg (by simp)]
  rfl

/-- Where the taken record matches the run state, WALL_STOP stands taken whatever stood before it, and of the sequencer it moves
the run state only (R50, R170). -/
theorem takeAtOnce_wallStop (d : Detail) {s : State} (h : s.faultMatches = true) :
    (takeAtOnce .wallStop d s).seq = { s.seq with runState := .stopped } ∧
    (takeAtOnce .wallStop d s).faults.taken.map TakenFault.kind = some .wallStop := by
  have htake : (takeFault .wallStop d s).seq = { s.seq with runState := .stopped } := by
    simp [takeFault, writeTaken, setRunState, runStateOf]
  unfold takeAtOnce
  split
  · rename_i hr
    refine ⟨by rw [← hr], ?_⟩
    cases hf : s.faults.taken with
    | none => simp [State.faultMatches, hf, hr] at h
    | some f =>
      by_cases hk : f.kind = .wallStop
      · simp [hk]
      · simp [State.faultMatches, hf, hr, hk] at h
  · rename_i hr
    split
    · rename_i f hf
      have hk : f.kind ≠ .wallStop := fun e => by simp [State.faultMatches, hf, hr, e] at h
      have hlow : FaultKind.wallStop.priority < f.kind.priority := by
        revert hk
        cases f.kind <;> decide
      rw [if_pos hlow]
      simp [replaceTaken, writeTaken, setRunState]
    · exact ⟨htake, (takeFault_taken _ _ _).2.1⟩
  · exact ⟨htake, (takeFault_taken _ _ _).2.1⟩

/-- A detected WALL_STOP is seen (R164). -/
theorem detect_wallStop_seen (d : Detail) (s : State) : .wallStop ∈ (detect .wallStop d s).faults.seen := by
  have hsee : .wallStop ∈ (seeKind .wallStop s).faults.seen := mem_insertKind.mpr (.inl rfl)
  rw [detect_wallStop]
  split
  · exact hsee
  · rename_i hr
    exact (takeAtOnce_work (s := seeKind .wallStop s) d (.inr ⟨rfl, hr⟩)).seen _ hsee

/-! ## The close of an event that has stopped the station -/

/-- In STOPPED a kind of class not maskable is seen and no more (R164, R171). -/
theorem detectIf_stopped (asked : Bool) {k : FaultKind} (d : Detail) {s : State}
    (h : s.seq.runState = .stopped) (hm : k.maskable = false) (hk : k ≠ .wallStop) :
    OnlySeen s (detectIf asked k d s) := by
  have hsee : detect k d s = seeKind k s := by
    by_cases hs : s.seq.stage = .none
    · have hdrift : k ≠ .anchorDrift := by rintro rfl; simp [FaultKind.maskable, FaultKind.priority] at hm
      have hvoid : k ≠ .voidTest := by rintro rfl; simp [FaultKind.maskable, FaultKind.priority] at hm
      rw [detect_stageless d hs hk hvoid, if_neg fun e => hdrift e.1]
    · simp [detect_atOnce d hs hm hk, takeAtOnce, h]
  exact detectIf_elim (fun _ => rfl) fun _ => by rw [hsee]; rfl

theorem watchAsked_stopped (u : State) {s : State} (h : s.seq.runState = .stopped) :
    OnlySeen s (watchAsked u s) := by
  have hboth : ∀ {k j : FaultKind} {p q : Bool}, k.maskable = false → k ≠ .wallStop → j.maskable = false →
      j ≠ .wallStop → OnlySeen s (detectIf q j .none (detectIf p k .none s)) := by
    intro k j p q hk hk' hj hj'
    have hfirst := detectIf_stopped p .none h hk hk'
    exact hfirst.trans (detectIf_stopped q .none (by rw [hfirst]; exact h) hj hj')
  exact eitherOrder_elim (hboth rfl (by decide) rfl (by decide)) (hboth rfl (by decide) rfl (by decide))
    fun _ _ ht => ht.trans rfl

/-- In STOPPED the close of an event moves neither the sequencer nor the taken record (R137, R138, R171). -/
theorem finish_stopped (s : State) {t : State} (h : t.seq.runState = .stopped) :
    (finish s t).seq = t.seq ∧ (finish s t).faults.taken = t.faults.taken := by
  have hwatch : OnlySeen (enforceDrives t) (watchDecisions (enforceDrives t)) :=
    watchAsked_stopped _ (by simpa using h)
  have hsettle : (settle s t).seq = t.seq ∧ (settle s t).faults.taken = t.faults.taken := by
    refine settle_elim (p := fun v => v.seq = t.seq ∧ v.faults.taken = t.faults.taken) ⟨by simp, by simp⟩ ?_
    rw [enforceDrives_seq, enforceDrives_faults, hwatch]
    simp
  simpa [finish] using hsettle

/-- In BREAK the close of an event leaves the line as it stands: a notice request is dropped (R70). -/
theorem finish_broken (s : State) {t : State} (h : t.line.state = .broken) : (finish s t).line = t.line := by
  have hs : (settle s t).line = t.line := (settle_work s t).line
  have hprompt : prompt s (settle s t) = settle s t := by
    rcases prompt_cases s (settle s t) with e | e
    · exact e
    · rw [e, requestNotice, if_pos (.inr (by rw [hs, h]))]
  rw [finish, secure_line, hprompt, hs]

/-! ## The entry into BREAK (R69) -/

/-- What BREAK leaves of the line (R61, R69). -/
def Line.emptied (l : Line) : Line :=
  { l with
    queue := [], assembling := none, slot := none, followOn := false, lossCount := 0
    applying := l.applying.map fun a => { a with counted := false } }

theorem enterBreak_work (s : State) : Work { s with line := s.line.emptied } (enterBreak s) :=
  detect_work (k := .wallStop) .none (by simp)

/-- What WALL_STOP finds in the station that enters BREAK (R50, R69). -/
theorem enterBreak_stops {s : State} (h : s.faultMatches = true) (hr : s.seq.runState ≠ .unconfigured) :
    (enterBreak s).seq = { s.seq with runState := .stopped } ∧
    (enterBreak s).faults.taken.map TakenFault.kind = some .wallStop := by
  rw [enterBreak, detect_wallStop, if_neg hr]
  exact takeAtOnce_wallStop .none h

theorem enterBreak_unconfigured {s : State} (hr : s.seq.runState = .unconfigured) :
    (enterBreak s).seq = s.seq ∧ (enterBreak s).faults.taken = s.faults.taken := by
  rw [enterBreak, detect_wallStop, if_pos hr]
  exact ⟨rfl, rfl⟩

/-- A dominant bit time completes no frame (R58, R59). -/
theorem bitActed_dominant {b : BitTime} {s : State} (h : s.readsDominant b = true) :
    ∃ a, bitActed b s = setAssembling a (bitTried b s) := by
  have hd : majority (lineSamples (beginAttempt s).ownBit b) = true := h
  have hreceived : (s.heard b).received = .nothing ∨ (s.heard b).received = .framingError := by
    simp only [State.heard, readBit, receiveBit, hd]
    split
    · split <;> simp
    · simp
    · split <;> simp
  have hframe : (s.heard b).frame = frameStep (beginAttempt s).line.assembling (s.heard b).received := rfl
  unfold bitActed
  rw [hframe]
  rcases hreceived with e | e <;> rw [e]
  · exact ⟨(bitTried b s).line.assembling, rfl⟩
  · cases (beginAttempt s).line.assembling with
    | none => exact ⟨(bitTried b s).line.assembling, rfl⟩
    | some f => exact ⟨none, rfl⟩

/-- A dominant run of 33 takes BUSY to BREAK (R56). -/
theorem bitActed_broken {b : BitTime} {s : State} (hs : s.line.state = .busy) (hrun : 32 ≤ s.line.domRun)
    (hd : s.readsDominant b = true) : (bitActed b s).line.state = .broken := by
  rw [bitActed_state, bitHeard_state_dominant hd]
  simp [hs, Nat.not_lt.mpr hrun]

/-- At a dominant run of 33 the bit time enters BREAK, and closes its event where that moves the run state (R56, R69). -/
theorem bitTime_breaks {b : BitTime} {s : State} (hs : s.line.state = .busy) (hrun : 32 ≤ s.line.domRun)
    (hd : s.readsDominant b = true) :
    bitTime s b =
      if (enterBreak (bitActed b s)).seq.runState = s.seq.runState then enterBreak (bitActed b s)
      else finish s (enterBreak (bitActed b s)) := by
  have hstate := bitActed_broken hs hrun hd
  have hwork : bitWork b s = enterBreak (bitActed b s) := by
    rw [bitWork_eq, actOnLineState, if_pos ⟨by simp [hs], hstate⟩]
  simp only [bitTime, hwork]

/-! ## What no bit time touches -/

/-- From `s` to `t` the contacts, the port and the neighbour entries stay. -/
structure OffLine (s t : State) : Prop where
  contacts : t.contacts = s.contacts
  port : t.port = s.port
  entries : t.table.entries = s.table.entries

theorem bitActed_offLine (b : BitTime) (s : State) : OffLine s (bitActed b s) :=
  ⟨bitActed_contacts b s, bitActed_port b s, by simp⟩

/-- A bit time leaves what lies off the line, and of the break drive it brings its count only (R68). -/
theorem bitWork_offLine (b : BitTime) (s : State) :
    OffLine s (bitWork b s) ∧ (bitWork b s).line.breakDrive = (bitHeard b s).line.breakDrive := by
  obtain ⟨hc, hp, he⟩ := bitActed_offLine b s
  have hd := bitActed_breakDrive b s
  rw [bitWork_eq, actOnLineState]
  split
  · have hw := enterBreak_work (bitActed b s)
    exact ⟨⟨hw.contacts.trans hc, hw.port.trans hp, hw.entries.trans he⟩,
      (congrArg Line.breakDrive hw.line).trans hd⟩
  · split
    · exact ⟨⟨hc, hp, he⟩, hd⟩
    · exact ⟨⟨hc, hp, he⟩, hd⟩

theorem bitTime_offLine (b : BitTime) (s : State) :
    OffLine s (bitTime s b) ∧ (bitTime s b).line.breakDrive = (bitHeard b s).line.breakDrive := by
  obtain ⟨⟨hc, hp, he⟩, hd⟩ := bitWork_offLine b s
  unfold bitTime
  dsimp only
  split
  · exact ⟨⟨hc, hp, he⟩, hd⟩
  · have hf := finish_sameField s (bitWork b s)
    exact ⟨⟨(finish_contacts _ _).trans hc, hf.port.trans hp, hf.entries.trans he⟩,
      (finish_break _ _).1.trans hd⟩

/-! ## The line state (R56, R68, R69) -/

/-- The station as a bit time that enters BREAK leaves it (R69). -/
structure Broken (s t : State) : Prop where
  state : t.line.state = .broken
  line : ∃ l : Line, t.line = l.emptied ∧ l.applying = s.line.applying
  seen : .wallStop ∈ t.faults.seen
  stopped : s.seq.runState ≠ .unconfigured →
    t.seq = { s.seq with runState := .stopped } ∧ t.faults.taken.map TakenFault.kind = some .wallStop
  unconfigured : s.seq.runState = .unconfigured → t.seq = s.seq ∧ t.faults.taken = s.faults.taken

theorem bitTime_broken {b : BitTime} {s : State} (hs : s.line.state = .busy) (hrun : 32 ≤ s.line.domRun)
    (hd : s.readsDominant b = true) (hm : s.faultMatches = true) : Broken s (bitTime s b) := by
  obtain ⟨a, ha⟩ := bitActed_dominant hd
  have happlying : (bitActed b s).line.applying = s.line.applying := by rw [ha]; exact bitTried_applying b s
  have hstate := bitActed_broken hs hrun hd
  have hline : (enterBreak (bitActed b s)).line = (bitActed b s).line.emptied := (enterBreak_work _).line
  have hstate' : (enterBreak (bitActed b s)).line.state = .broken := by rw [hline]; exact hstate
  have hseen : .wallStop ∈ (enterBreak (bitActed b s)).faults.seen := detect_wallStop_seen _ _
  have hmatch : (bitActed b s).faultMatches = true := by
    simpa only [State.faultMatches, bitActed_seq, bitActed_taken] using hm
  have hseq := bitActed_seq b s
  have hentered : Broken s (enterBreak (bitActed b s)) := by
    refine ⟨hstate', ⟨_, hline, happlying⟩, hseen, fun hr => ?_, fun hr => ?_⟩
    · rw [← hseq] at hr ⊢
      exact enterBreak_stops hmatch hr
    · rw [← hseq] at hr ⊢
      rw [← bitActed_taken b s]
      exact enterBreak_unconfigured hr
  rw [bitTime_breaks hs hrun hd]
  split
  · exact hentered
  · rename_i hmoved
    have hr : s.seq.runState ≠ .unconfigured := fun e => hmoved (by rw [(hentered.unconfigured e).1])
    obtain ⟨hq, ht⟩ := hentered.stopped hr
    obtain ⟨hq', ht'⟩ := finish_stopped s (t := enterBreak (bitActed b s)) (by rw [hq])
    have hl := finish_broken s hstate'
    exact ⟨by rw [hl, hstate'], ⟨_, hl.trans hline, happlying⟩, finish_seen hseen,
      fun _ => ⟨hq'.trans hq, by rw [ht', ht]⟩, fun e => absurd e hr⟩

/-- A recessive run of 12 takes the line to IDLE and ends a partial frame (R56, R59). -/
theorem bitTime_toIdle {b : BitTime} {s : State} (hs : s.line.state ≠ .idle) (hrun : 11 ≤ s.line.recRun)
    (hd : s.readsDominant b = false) :
    (bitTime s b).line.runs = (.idle, 0, min (s.line.recRun + 1) 100) ∧
    (bitTime s b).line.assembling = none := by
  have hidle : (bitHeard b s).line.state = .idle := by simp [bitHeard_state_recessive hd, hrun]
  rw [bitTime_staysUp (staysUp_of_run (by simp [hd])), if_pos ⟨hs, hidle⟩]
  refine ⟨(bitActed_runs b s).trans ?_, rfl⟩
  rw [bitHeard_recessive hd, if_pos hrun]

/-- A dominant bit time takes the line from IDLE to BUSY (R56). -/
theorem bitTime_toBusy {b : BitTime} {s : State} (hs : s.line.state = .idle)
    (hd : s.readsDominant b = true) :
    (bitTime s b).line.runs = (.busy, min (s.line.domRun + 1) 100, 0) := by
  rw [bitTime_staysUp (staysUp_of_idle b hs), if_neg fun e => e.1 hs, bitActed_runs, bitHeard_dominant hd,
    if_pos (.inl hs)]

/-- In a station that a bit time has taken into BREAK every drive is off (R53, R69). -/
theorem Broken.drives {s t : State} (h : Broken s t) (u : State) : (secure u t).drives = .off := by
  have hrun : t.seq.runState = .stopped ∨ t.seq.runState = .unconfigured := by
    by_cases hr : s.seq.runState = .unconfigured
    · exact .inr (by rw [(h.unconfigured hr).1, hr])
    · exact .inl (by rw [(h.stopped hr).1])
  refine State.drives_off (secure_legal u t) ?_ ?_ ?_ <;> rcases hrun with e | e <;> simp [e]

/-- The entry into BREAK leaves stage and progress (R50). -/
theorem Broken.stage {s t : State} (h : Broken s t) :
    t.seq.stage = s.seq.stage ∧ t.seq.progress = s.seq.progress := by
  by_cases hr : s.seq.runState = .unconfigured
  · rw [(h.unconfigured hr).1]; exact ⟨rfl, rfl⟩
  · rw [(h.stopped hr).1]; exact ⟨rfl, rfl⟩

/-- Settles O53: the runs decide IDLE and BUSY, `Broken` is the entry into BREAK, and the break drive is counted out. -/
theorem lineStatesFollowTheRuns : Obligations.LineStatesFollowTheRuns := by
  intro pre b s u hu
  obtain ⟨⟨hcontacts, hport, hentries⟩, hdrive⟩ := bitTime_offLine b u
  refine ⟨fun hs hrun hd => ?_, fun hs hd => ?_, fun hs hrun hd hst => ?_, fun _ he hn => ?_⟩
  · refine ⟨_, exec_lineRow (row := .lineIdle) (fun _ _ => rfl) hu b, ?_⟩
    obtain ⟨hruns, hassembling⟩ := bitTime_toIdle hs hrun hd
    simp only [Line.runs, Prod.mk.injEq] at hruns
    simpa [hentries, hport, hassembling] using hruns
  · refine ⟨_, exec_lineRow (row := .lineBusy) (fun _ _ => rfl) hu b, ?_⟩
    have hruns := bitTime_toBusy hs hd
    simp only [Line.runs, Prod.mk.injEq] at hruns
    simpa [hentries, hport] using hruns
  · have hm : u.faultMatches = true := by
      simp only [State.standing, Bool.and_eq_true] at hst
      exact hst.1.1
    have hb := bitTime_broken hs hrun hd hm
    obtain ⟨l, hline, happlying⟩ := hb.line
    refine ⟨_, exec_lineRow (row := .lineBreakDetect) (fun _ _ => rfl) hu b, ?_⟩
    rw [hb.drives]
    simp only [secure_line, secure_table, secure_seq, secure_faults]
    refine ⟨hb.state, ?_, ?_, ?_, ?_, ?_, ?_, hb.seen, trivial, hb.stage.1, hentries, hb.stage.2, fun hr => ?_,
      fun hr => ?_⟩
    · rw [hline]; rfl
    · rw [hline]; rfl
    · rw [hline]; rfl
    · rw [hline]; rfl
    · rw [hline]; rfl
    · rw [hline, ← happlying]; rfl
    · obtain ⟨hq, ht⟩ := hb.unconfigured hr
      refine ⟨by rw [hq, hr], ?_⟩
      cases hf : u.faults.taken with
      | none => rw [ht, hf]
      | some f => by_cases hk : f.kind = .wallStop <;> simp [State.faultMatches, hf, hr, hk] at hm
    · obtain ⟨hq, ht⟩ := hb.stopped hr
      exact ⟨by rw [hq], ht⟩
  · refine ⟨_, exec_lineRow (row := .breakDriveEnd) (fun _ _ => rfl) hu b, ?_⟩
    simp only [secure_line, secure_contacts, secure_table]
    exact ⟨hdrive.trans (bitHeard_endsBreak b he hn), hcontacts, hentries⟩

end Sys2Proof.Machine
end

section
/-!
PROOF. A notice as a neighbour reads it: bytes and the numbers they spell, codes, and the frame field by field.
-/
namespace Sys2Proof.Machine

/-! ## Numbers and their bytes (R193) -/

theorem length_beBytes (n v : Nat) : (beBytes n v).length = n := by
  induction n with
  | zero => rfl
  | succ n ih => simp [beBytes, ih]

/-- A byte more is a place of 256 more (R193). -/
theorem beNat_append_byte (bytes : List Byte) (b : Byte) :
    beNat (bytes ++ [b]) = beNat bytes * 256 + b.toNat := by
  simp [beNat]

/-- The last byte of a number is its lowest (R193). -/
theorem beBytes_succ (n v : Nat) : beBytes (n + 1) v = beBytes n (v / 256) ++ [BitVec.ofNat 8 v] := by
  induction n with
  | zero => simp [beBytes]
  | succ n ih =>
    have hdiv : v / 256 ^ (n + 1) = v / 256 / 256 ^ n := by
      rw [Nat.div_div_eq_div_mul, Nat.pow_succ, Nat.mul_comm]
    rw [beBytes, ih, beBytes, hdiv]
    rfl

/-- A number of `n` bytes reads back from them (R193). -/
theorem beNat_beBytes {n v : Nat} (h : v < 256 ^ n) : beNat (beBytes n v) = v := by
  induction n generalizing v with
  | zero => simp_all [beBytes, beNat]
  | succ n ih =>
    have hhigh : v / 256 < 256 ^ n := Nat.div_lt_of_lt_mul (by rwa [Nat.pow_succ, Nat.mul_comm] at h)
    rw [beBytes_succ, beNat_append_byte, ih hhigh, BitVec.toNat_ofNat]
    omega

/-- The bytes of fields one after another, each with its size (R195). -/
def spelled (fields : List (Nat × Nat)) : List Byte := fields.flatMap fun f => beBytes f.1 f.2

theorem length_spelled (fields : List (Nat × Nat)) :
    (spelled fields).length = (fields.map Prod.fst).sum := by
  simp [spelled, List.length_flatMap, length_beBytes]

/-- A field reads back where it stands, whatever stands before and after it (R193, R195). -/
theorem fieldAt_spelled (fields : List (Nat × Nat)) (rest : List Byte) {i : Nat} (hi : i < fields.length)
    (hv : fields[i].2 < 256 ^ fields[i].1) :
    fieldAt (spelled fields ++ rest) ((fields.take i).map Prod.fst).sum fields[i].1 = fields[i].2 := by
  have hsplit : spelled fields = spelled (fields.take i) ++
      (beBytes fields[i].1 fields[i].2 ++ spelled (fields.drop (i + 1))) := by
    have hfields : fields.take i ++ fields[i] :: fields.drop (i + 1) = fields := by
      rw [List.getElem_cons_drop, List.take_append_drop]
    calc spelled fields = spelled (fields.take i ++ fields[i] :: fields.drop (i + 1)) := by rw [hfields]
      _ = _ := by rw [spelled, List.flatMap_append, List.flatMap_cons]; rfl
  rw [fieldAt, hsplit, ← length_spelled, List.append_assoc, List.drop_left, List.append_assoc,
    List.take_left' (length_beBytes _ _), beNat_beBytes hv]

/-! ## Codes (R195, R199) -/

/-- A notice phase reads back from its code (R199). -/
theorem noticePhaseOf_code (p : NoticePhase) : noticePhaseOf p.code = some p := by cases p <;> rfl

theorem NoticePhase.code_lt (p : NoticePhase) : p.code < 256 := by cases p <;> decide

/-- The flags read back from their byte (R195). -/
theorem flagsOf_byte (f : Flags) : flagsOf f.byte = f ∧ f.byte < 256 := by
  obtain ⟨a, b, c, d, e, g⟩ := f
  revert a b c d e g
  decide

/-! ## The notice field by field (R57, R82, R195) -/

/-- The locked load that a notice announces: none but a locked anchor's (R82). -/
def State.announcedLock (s : State) : Nat :=
  if s.seq.progress = .locked then s.jack.lockedLoad.getD 0 else 0

/-- The fields of a notice, with their sizes in bytes (R195). -/
def noticeFields (g : Setup) (s : State) : List (Nat × Nat) :=
  [(1, g.station), (2, g.bay), (1, g.row * 16 + g.main), (1, s.noticePhase.code), (1, s.ownFlags.byte),
    (2, (s.filtered .load).getD 65535), (2, s.announcedLock), (2, s.claimAge), (1, s.table.ownSequence)]

/-- With no claim the claim age is 0 (R96). -/
theorem claimAge_announced (s : State) : (if s.ownFlags.groutDraw then s.claimAge else 0) = s.claimAge := by
  cases h : s.grout.claim <;> simp [State.ownFlags, State.claimAge, h]

theorem noticeData_eq {g : Setup} {s : State} (hc : s.seq.config = some g) :
    noticeData s = spelled (noticeFields g s) := by
  have hlock : (if s.ownFlags.locked then s.jack.lockedLoad.getD 0 else 0) = s.announcedLock := by
    simp [State.ownFlags, State.announcedLock]
  simp [noticeData, claimAge_announced, hlock, spelled, noticeFields, State.cfg, hc, optField]

/-- Thirteen bytes, and the two of the check (R57). -/
theorem length_noticeData {g : Setup} {s : State} (hc : s.seq.config = some g) :
    (noticeData s).length = 13 := by
  rw [noticeData_eq hc, length_spelled]
  rfl

/-- What a station announces lies within the ranges of its fields (R189, R195). -/
structure Announceable (g : Setup) (s : State) : Prop where
  config : s.seq.config = some g
  station : 1 ≤ g.station ∧ g.station ≤ 63
  bay : g.bay ≤ 999
  row : 1 ≤ g.row ∧ g.row ≤ 8
  main : g.main ≤ 15
  load : ∀ v, s.filtered .load = some v → v ≤ 60000
  lock : s.announcedLock ≤ 60000
  age : s.claimAge < 65535
  sequence : s.table.ownSequence < 256

/-- A load of at most 60000, or VOID, goes through its field (R76, R195). -/
theorem voidable_getD {o : Option Nat} (h : ∀ v, o = some v → v ≤ 60000) :
    o.getD 65535 < 65536 ∧ voidable (o.getD 65535) = o ∧ loadFieldOk (o.getD 65535) = true := by
  cases o with
  | none => decide
  | some v =>
    have hv := h v rfl
    refine ⟨?_, ?_, ?_⟩
    · simp only [Option.getD_some]; omega
    · simp only [voidable, Option.getD_some, if_neg (show v ≠ 65535 by omega)]
    · simp [loadFieldOk, hv]

section
variable {g : Setup} {s : State}

/-- The numbers that a neighbour finds in the fields of a notice (R195). -/
theorem Announceable.fields (h : Announceable g s) :
    fieldAt (formNotice s) 0 1 = g.station ∧ fieldAt (formNotice s) 1 2 = g.bay ∧
    fieldAt (formNotice s) 3 1 = g.row * 16 + g.main ∧
    fieldAt (formNotice s) 4 1 = s.noticePhase.code ∧ fieldAt (formNotice s) 5 1 = s.ownFlags.byte ∧
    fieldAt (formNotice s) 6 2 = (s.filtered .load).getD 65535 ∧
    fieldAt (formNotice s) 8 2 = s.announcedLock ∧ fieldAt (formNotice s) 10 2 = s.claimAge ∧
    fieldAt (formNotice s) 12 1 = s.table.ownSequence := by
  obtain ⟨hc, ⟨-, hst⟩, hbay, ⟨-, hrow⟩, hmain, hload, hlock, hage, hseq⟩ := h
  rw [formNotice]
  generalize crcBytes (noticeData s) = check
  rw [noticeData_eq hc]
  have read := fun (i : Nat) (hi : i < 9) => fieldAt_spelled (noticeFields g s) check (i := i) hi
  exact ⟨read 0 (by decide) (show g.station < 256 by omega), read 1 (by decide) (show g.bay < 65536 by omega),
    read 2 (by decide) (show g.row * 16 + g.main < 256 by omega),
    read 3 (by decide) s.noticePhase.code_lt, read 4 (by decide) (flagsOf_byte _).2,
    read 5 (by decide) (voidable_getD hload).1, read 6 (by decide) (show s.announcedLock < 65536 by omega),
    read 7 (by decide) (show s.claimAge < 65536 by omega), read 8 (by decide) hseq⟩

/-- The entry that a neighbour makes of a notice (R82, R195). -/
theorem Announceable.readBack (h : Announceable g s) (limit : Nat) :
    entryOf limit (formNotice s) =
      { station := g.station, bay := g.bay, row := g.row, main := g.main
        phase := s.noticePhase, flags := s.ownFlags, load := s.filtered .load
        locked := some s.announcedLock
        drawAge := s.claimAge, sequence := s.table.ownSequence, age := 0, lapsed := false
        overstay := s.grout.claim.isSome && decide (limit * 60 + 60 < s.claimAge) } := by
  obtain ⟨h0, h1, h3, h4, h5, h6, h8, h10, h12⟩ := h.fields
  have hmain := h.main
  have hlock := h.lock
  have hrow : (g.row * 16 + g.main) / 16 = g.row := by omega
  have hlow : (g.row * 16 + g.main) % 16 = g.main := by omega
  have hvoid : voidable s.announcedLock = some s.announcedLock := if_neg (by omega)
  simp only [entryOf, h0, h1, h3, h4, h5, h6, h8, h10, h12, hrow, hlow, hvoid, noticePhaseOf_code,
    (flagsOf_byte _).1, (voidable_getD h.load).2.1]
  rfl

/-- A neighbour finds the notice well formed (R76). -/
theorem Announceable.wellFormed (h : Announceable g s) : frameWellFormed (formNotice s) = true := by
  obtain ⟨-, -, -, h4, -, h6, h8, h10, -⟩ := h.fields
  have hlock : loadFieldOk s.announcedLock = true := by simp [loadFieldOk, h.lock]
  have hage := h.age
  simp only [frameWellFormed, h.readBack, h4, h6, h8, h10, noticePhaseOf_code, hlock,
    (voidable_getD h.load).2.2]
  simp [h.station, h.bay, h.row]
  omega

end

/-- Settles O58: the ranges of SETUP and of the measured figures make a notice `Announceable`. -/
theorem noticesReadBackAsAnnounced : Obligations.NoticesReadBackAsAnnounced := by
  intro limit g s hc hst hst' hbay hrow hrow' hmain hload hlocked hage hseq
  have hlock : s.announcedLock ≤ 60000 := by
    unfold State.announcedLock
    split
    · cases hl : s.jack.lockedLoad with
      | none => exact Nat.zero_le _
      | some v => exact hlocked v hl
    · exact Nat.zero_le _
  have h : Announceable g s := ⟨hc, ⟨hst, hst'⟩, hbay, ⟨hrow, hrow'⟩, hmain, hload, hlock, hage, hseq⟩
  have hlen := length_noticeData hc
  refine ⟨?_, ?_, h.wellFormed, h.readBack limit⟩
  · simp [formNotice, hlen, crcBytes, length_beBytes]
  · rw [formNotice, List.take_left' hlen, List.drop_left' hlen]

end Sys2Proof.Machine
end

section
/-!
PROOF. The application of a heard notice: the operations of the neighbour table, the cases of `applyFrame`, the work that an
entry brings, and what each leaves alone.
-/
namespace Sys2Proof.Machine

/-! ## The operations of the neighbour table (R74, R77, R78) -/

section
variable {e : Entry} {n m : Nat}

theorem findEntry_cons (x : Entry) (es : List Entry) :
    findEntry n (x :: es) = if x.station = n then some x else findEntry n es := by
  by_cases h : x.station = n <;> simp [findEntry, h]

theorem mem_insertEntry (e : Entry) (es : List Entry) : e ∈ insertEntry e es := by
  induction es with
  | nil => simp [insertEntry]
  | cons x rest ih =>
    unfold insertEntry
    split
    · exact List.mem_cons_self
    · split
      · exact List.mem_cons_self
      · exact List.mem_cons_of_mem _ ih

theorem findEntry_insertEntry_same (e : Entry) (es : List Entry) :
    findEntry e.station (insertEntry e es) = some e := by
  induction es with
  | nil => simp [insertEntry, findEntry]
  | cons x rest ih =>
    unfold insertEntry
    split
    · simp [findEntry_cons]
    · split
      · simp [findEntry_cons]
      · rename_i h
        rw [findEntry_cons, if_neg fun k => h k.symm, ih]

theorem findEntry_insertEntry_other (h : n ≠ e.station) (es : List Entry) :
    findEntry n (insertEntry e es) = findEntry n es := by
  induction es with
  | nil => simp [insertEntry, findEntry, h.symm]
  | cons x rest ih =>
    unfold insertEntry
    split
    · rw [findEntry_cons, if_neg h.symm]
    · split
      · rename_i hx
        rw [findEntry_cons, findEntry_cons, if_neg h.symm, if_neg (hx ▸ h.symm)]
      · rw [findEntry_cons, findEntry_cons, ih]

theorem findEntry_removeEntry_same (m : Nat) (es : List Entry) : findEntry m (removeEntry m es) = none := by
  simp [findEntry, removeEntry]

theorem findEntry_removeEntry_other (h : n ≠ m) (es : List Entry) :
    findEntry n (removeEntry m es) = findEntry n es := by
  induction es with
  | nil => rfl
  | cons x rest ih =>
    by_cases hx : x.station = m
    · have hd : removeEntry m (x :: rest) = removeEntry m rest := by simp [removeEntry, hx]
      rw [hd, ih, findEntry_cons, if_neg fun k => h (k.symm.trans hx)]
    · have hk : removeEntry m (x :: rest) = x :: removeEntry m rest := by simp [removeEntry, hx]
      rw [hk, findEntry_cons, findEntry_cons, ih]

theorem station_ne_of_findEntry_none {es : List Entry} (h : findEntry n es = none) (he : e ∈ es) :
    e.station ≠ n := by
  simpa using List.find?_eq_none.mp h e he

end

/-! ## The entry given up (R78) -/

section
variable {g : Setup} {s : State}

/-- A station's candidates for giving up, in the words of R78. -/
theorem mem_candidates (hc : s.seq.config = some g) {y : Entry} :
    y ∈ s.candidates ↔ y ∈ s.table.entries ∧ s.inSpan y = false ∧ (g.main = 0 ∨ y.main ≠ g.main) := by
  simp [State.candidates, State.cfg, hc]

theorem bayDistance_eq (hc : s.seq.config = some g) (y : Entry) :
    s.bayDistance y = ((y.bay : Int) - g.bay).natAbs := by
  simp only [State.bayDistance, State.cfg, hc, Option.map_some, Option.getD_some]
  omega

/-- One entry stands no higher than another in the order in which a full table gives entries up: by bay distance, then by
station number (R78). -/
def State.NoWorse (s : State) (y x : Entry) : Prop :=
  s.bayDistance y < s.bayDistance x ∨ (s.bayDistance y = s.bayDistance x ∧ y.station ≤ x.station)

theorem State.NoWorse.trans {x y z : Entry} (h : s.NoWorse x y) (k : s.NoWorse y z) : s.NoWorse x z := by
  unfold State.NoWorse at *; omega

theorem State.worse_spec (s : State) (a b : Entry) :
    (s.worse a b = a ∨ s.worse a b = b) ∧ s.NoWorse a (s.worse a b) ∧ s.NoWorse b (s.worse a b) := by
  unfold State.worse State.NoWorse
  split_ifs
  · exact ⟨.inr rfl, by omega, by omega⟩
  · exact ⟨.inl rfl, by omega, by omega⟩
  · exact ⟨.inr rfl, by omega, by omega⟩
  · exact ⟨.inl rfl, by omega, by omega⟩

theorem foldl_worse_spec (s : State) (rest : List Entry) (e : Entry) :
    rest.foldl s.worse e ∈ e :: rest ∧ ∀ y ∈ e :: rest, s.NoWorse y (rest.foldl s.worse e) := by
  induction rest generalizing e with
  | nil => simp [State.NoWorse]
  | cons x rest ih =>
    obtain ⟨hmem, hmax⟩ := ih (s.worse e x)
    obtain ⟨hor, he, hx⟩ := s.worse_spec e x
    have hfirst := hmax _ List.mem_cons_self
    refine ⟨?_, fun y hy => ?_⟩
    · rcases List.mem_cons.mp hmem with h | h
      · rw [List.foldl_cons, h]
        rcases hor with e | e <;> simp [e]
      · exact List.mem_cons_of_mem _ (List.mem_cons_of_mem _ h)
    · rcases List.mem_cons.mp hy with rfl | hy
      · exact he.trans hfirst
      · rcases List.mem_cons.mp hy with rfl | hy
        · exact hx.trans hfirst
        · exact hmax y (List.mem_cons_of_mem _ hy)

/-- The entry to give up is a candidate, and none is worse (R78). -/
theorem entryToGiveUp_spec {x : Entry} (h : s.entryToGiveUp = some x) :
    x ∈ s.candidates ∧ ∀ y ∈ s.candidates, s.NoWorse y x := by
  unfold State.entryToGiveUp at h
  split at h
  · cases h
  · rename_i e rest he
    rw [he, ← Option.some.inj h]
    exact foldl_worse_spec s rest e

theorem entryToGiveUp_none_iff : s.entryToGiveUp = none ↔ s.candidates = [] := by
  unfold State.entryToGiveUp
  split <;> simp [*]

/-- A candidate that no other is worse than is the one given up, by its station number (R78). -/
theorem entryToGiveUp_station {old : Entry} (ho : old ∈ s.candidates)
    (hw : ∀ y ∈ s.candidates, s.NoWorse y old) :
    ∃ x, s.entryToGiveUp = some x ∧ x.station = old.station := by
  cases hx : s.entryToGiveUp with
  | none => rw [entryToGiveUp_none_iff.mp hx] at ho; cases ho
  | some x =>
    obtain ⟨hmem, hmax⟩ := entryToGiveUp_spec hx
    have h1 := hmax old ho
    have h2 := hw x hmem
    refine ⟨x, rfl, ?_⟩
    unfold State.NoWorse at h1 h2
    omega

end

/-! ## The cases of a frame that is applied (R76 to R78) -/

section
variable {b : List Byte} {g : Setup} {s : State} (hc : s.seq.config = some g)
include hc

theorem applyFrame_clash (h : (entryOf g.claimLimit b).station = g.station) :
    applyFrame b s = (detect .lineFault .clash s, none) := by
  simp [applyFrame, State.cfg, hc, h]

theorem applyFrame_malformed (h : (entryOf g.claimLimit b).station ≠ g.station)
    (hw : frameWellFormed b = false) : applyFrame b s = (detect .lineFault .malformed s, none) := by
  simp [applyFrame, State.cfg, hc, h, hw]

variable (h : (entryOf g.claimLimit b).station ≠ g.station) (hw : frameWellFormed b = true)
include h hw

theorem applyFrame_known {old : Entry}
    (hf : findEntry (entryOf g.claimLimit b).station s.table.entries = some old) :
    applyFrame b s =
      if old.sequence = (entryOf g.claimLimit b).sequence then (s, none)
      else (s.setEntries (insertEntry (entryOf g.claimLimit b) s.table.entries),
        some (entryOf g.claimLimit b)) := by
  simp [applyFrame, State.cfg, hc, h, hw, hf]

variable (hf : findEntry (entryOf g.claimLimit b).station s.table.entries = none)
include hf

theorem applyFrame_room (hl : s.table.entries.length < 24) :
    applyFrame b s =
      (s.setEntries (insertEntry (entryOf g.claimLimit b) s.table.entries), some (entryOf g.claimLimit b)) := by
  simp [applyFrame, State.cfg, hc, h, hw, hf, Config.tableSize, hl]

theorem applyFrame_givesUp (hl : 24 ≤ s.table.entries.length) {old : Entry} (ho : s.entryToGiveUp = some old) :
    applyFrame b s =
      (s.setEntries (insertEntry (entryOf g.claimLimit b) (removeEntry old.station s.table.entries)),
        some (entryOf g.claimLimit b)) := by
  simp [applyFrame, State.cfg, hc, h, hw, hf, Config.tableSize, Nat.not_lt.mpr hl, ho]

theorem applyFrame_full (hl : 24 ≤ s.table.entries.length) (ho : s.entryToGiveUp = none) :
    applyFrame b s = (detect .lineFault .tableFull s, none) := by
  simp [applyFrame, State.cfg, hc, h, hw, hf, Config.tableSize, Nat.not_lt.mpr hl, ho]

end

/-- A frame detects at most, or changes the entries alone and stands among them (R76 to R78). -/
theorem applyFrame_cases (b : List Byte) (s : State) :
    (∃ f, applyFrame b s = ({ s with faults := f }, none)) ∨
    ∃ es, entryOf (s.cfg Setup.claimLimit 0) b ∈ es ∧
      applyFrame b s = (s.setEntries es, some (entryOf (s.cfg Setup.claimLimit 0) b)) := by
  unfold applyFrame
  simp only [detect_lineFault]
  split
  · exact .inl ⟨_, rfl⟩
  · split
    · exact .inl ⟨_, rfl⟩
    · split
      · split
        · exact .inl ⟨_, rfl⟩
        · exact .inr ⟨_, mem_insertEntry _ _, rfl⟩
      · split
        · exact .inr ⟨_, mem_insertEntry _ _, rfl⟩
        · split
          · exact .inr ⟨_, mem_insertEntry _ _, rfl⟩
          · exact .inl ⟨_, rfl⟩

/-! ## The application that completes (R61, R76) -/

/-- What an applied entry brings is work of the stage. -/
theorem appliedWork_work (e : Entry) (s : State) : Work s (appliedWork e s) := by
  unfold appliedWork
  dsimp only
  split
  · exact .refl s
  · exact .refl s
  · exact groutGate_work reach_work s
  · rename_i hs
    have hn : s.seq.stage ≠ .none := by rw [hs]; decide
    split
    · exact raiseGate_work reach_work s
    · split
      · exact withdraw_work reach_work hn
      · exact .refl s
    · split
      · exact turnBack_work reach_work hn
      · exact .refl s
    · split
      · exact .quiet rfl
      · exact .refl s
    all_goals exact .refl s

section
variable {a : Applying} {s u : State} (ha : s.line.applying = some a)
include ha

theorem noticeWork_unchanged (hr : applyFrame a.frame (endApplying a s) = (u, none)) :
    noticeWork s = beginApplying u := by
  simp [noticeWork, ha, hr]

theorem noticeWork_changed {e : Entry} (hr : applyFrame a.frame (endApplying a s) = (u, some e)) :
    noticeWork s = beginApplying (appliedWork e u) := by
  simp [noticeWork, ha, hr]

end

/-- What an application leaves of the field side: the frame taken from the queue, the next application begun, and the port, the
contacts and the configuration as they were (R61). -/
structure FrameTaken (a : Applying) (s t : State) : Prop where
  queue : t.line.queue = if a.counted = true then s.line.queue.drop 1 else s.line.queue
  applying : t.line.applying = t.line.queue.head?.map fun f => { frame := f, counted := true }
  port : t.port = s.port
  contacts : t.contacts = s.contacts
  config : t.seq.config = s.seq.config

/-- What the ended application brings leaves the frame taken, where it leaves the line. -/
theorem frameTaken_of_ended {a : Applying} {s u : State} (hline : u.line = (endApplying a s).line)
    (hport : u.port = s.port) (hcontacts : u.contacts = s.contacts) (hconfig : u.seq.config = s.seq.config) :
    FrameTaken a s (beginApplying u) := by
  rw [beginApplying_eq]
  exact ⟨by simp [hline, endApplying], by simp [hline, endApplying], hport, hcontacts, hconfig⟩

theorem prompt_line_queue (s t : State) :
    (prompt s t).line.queue = t.line.queue ∧ (prompt s t).line.applying = t.line.applying :=
  ⟨congrArg (fun u => u.line.queue) (prompt_withoutNotice s t),
    congrArg (fun u => u.line.applying) (prompt_withoutNotice s t)⟩

theorem finish_line_queue (s t : State) :
    (finish s t).line.queue = t.line.queue ∧ (finish s t).line.applying = t.line.applying := by
  obtain ⟨hq, ha⟩ := prompt_line_queue s (settle s t)
  have hl := (settle_work s t).line
  simp [finish, hq, ha, hl]

theorem FrameTaken.finish {a : Applying} {s t : State} (h : FrameTaken a s t) : FrameTaken a s (finish s t) := by
  obtain ⟨hq, ha⟩ := finish_line_queue s t
  have hf := finish_sameField s t
  exact ⟨hq.trans h.queue, by rw [hq, ha, h.applying], hf.port.trans h.port, (finish_contacts s t).trans h.contacts,
    hf.config.trans h.config⟩

/-! ## NOTICE_APPLIED, by what becomes of the frame -/

section
variable {a : Applying} {g : Setup} {s : State} (ha : s.line.applying = some a) (hc : s.seq.config = some g)
include ha

/-- A frame that is turned away with LINE_FAULT (R76, R78). -/
theorem finish_turnedAway {d : Detail}
    (hr : applyFrame a.frame (endApplying a s) = (detect .lineFault d (endApplying a s), none)) :
    (finish s (noticeWork s)).table.entries = s.table.entries ∧
    .lineFault ∈ (finish s (noticeWork s)).faults.seen := by
  have hw : noticeWork s = beginApplying (detect .lineFault d (endApplying a s)) := noticeWork_unchanged ha hr
  rw [hw, detect_lineFault, beginApplying_eq]
  exact ⟨(finish_sameField s _).entries, finish_seen (mem_insertKind.mpr (.inl rfl))⟩

/-- A frame that changes the table to the entries `es` (R77, R78). -/
theorem finish_tabled {e : Entry} {es : List Entry}
    (hr : applyFrame a.frame (endApplying a s) = ((endApplying a s).setEntries es, some e)) :
    (finish s (noticeWork s)).table.entries = es := by
  rw [noticeWork_changed ha hr, (finish_sameField s _).entries, beginApplying_eq]
  exact (appliedWork_work e _).entries

end

theorem noticeWork_taken {a : Applying} {s : State} (ha : s.line.applying = some a) :
    FrameTaken a s (noticeWork s) := by
  rcases applyFrame_cases a.frame (endApplying a s) with ⟨f, hr⟩ | ⟨es, -, hr⟩
  · rw [noticeWork_unchanged ha hr]
    exact frameTaken_of_ended rfl rfl rfl rfl
  · rw [noticeWork_changed ha hr]
    have hw := appliedWork_work (entryOf ((endApplying a s).cfg Setup.claimLimit 0) a.frame) ((endApplying a s).setEntries es)
    exact frameTaken_of_ended hw.line hw.port hw.contacts hw.config

/-- Settles O57: the cases of `applyFrame`, each seen through the rest of the event, with `entryToGiveUp_station` for the
full table. -/
theorem noticesUpdateTheTable : Obligations.NoticesUpdateTheTable := by
  intro a g n old s ha hc
  obtain ⟨hqueue, happlying, hport, hcontacts, hconfig⟩ := (noticeWork_taken ha).finish
  have hc' : (endApplying a s).seq.config = some g := hc
  have inserted := fun {e : Entry} {es : List Entry} (he : e = entryOf g.claimLimit a.frame)
      (hr : applyFrame a.frame (endApplying a s) = ((endApplying a s).setEntries (insertEntry e es), some e)) =>
    finish_tabled ha hr
  refine ⟨_, rfl, hqueue, happlying, hport, hcontacts, hconfig, fun hst => ?_, fun hw => ?_, fun hw hst => ?_⟩
  · exact finish_turnedAway ha (applyFrame_clash hc' hst)
  · by_cases hst : (entryOf g.claimLimit a.frame).station = g.station
    · exact finish_turnedAway ha (applyFrame_clash hc' hst)
    · exact finish_turnedAway ha (applyFrame_malformed hc' hst hw)
  refine ⟨fun hf => ?_, fun hf => ⟨fun hl => ?_, fun hl hall => ?_, fun hl ho hspan hmain hmax => ?_⟩⟩
  · have hr := applyFrame_known hc' hst hw hf
    refine ⟨fun hseq => ?_, fun hseq => ?_⟩
    · rw [if_pos hseq] at hr
      rw [noticeWork_unchanged ha hr, (finish_sameField s _).entries, beginApplying_eq]
      rfl
    · rw [if_neg hseq] at hr
      rw [finish_tabled ha hr]
      exact ⟨findEntry_insertEntry_same _ _, fun hn => findEntry_insertEntry_other hn _⟩
  · rw [finish_tabled ha (applyFrame_room hc' hst hw hf hl)]
    exact ⟨findEntry_insertEntry_same _ _, fun hn => findEntry_insertEntry_other hn _⟩
  · have hnone : s.candidates = [] := List.eq_nil_iff_forall_not_mem.mpr fun y hy => by
      obtain ⟨hy, hspan, hmain⟩ := (mem_candidates hc).mp hy
      rcases hall y hy with h | ⟨h1, h2⟩
      · rw [h] at hspan; cases hspan
      · exact hmain.elim h1 fun h => h h2
    exact finish_turnedAway ha
      (applyFrame_full hc' hst hw hf hl (entryToGiveUp_none_iff.mpr hnone))
  · have hcand : old ∈ s.candidates := (mem_candidates hc).mpr ⟨ho, hspan, hmain⟩
    obtain ⟨x, hx, hstation⟩ := entryToGiveUp_station hcand fun y hy => by
      obtain ⟨hy, hyspan, hymain⟩ := (mem_candidates hc).mp hy
      simpa only [State.NoWorse, bayDistance_eq hc] using hmax y hy hyspan hymain
    rw [finish_tabled ha (applyFrame_givesUp hc' hst hw hf hl hx), hstation]
    have hold := station_ne_of_findEntry_none hf ho
    refine ⟨findEntry_insertEntry_same _ _, ?_, fun hn hn' => ?_⟩
    · rw [findEntry_insertEntry_other hold, findEntry_removeEntry_same]
    · rw [findEntry_insertEntry_other hn, findEntry_removeEntry_other hn']
      rfl

end Sys2Proof.Machine
end

section
/-!
PROOF. What the raise gate and precedence read, and the moves back into RAISE_WAIT where its conditions fail.
-/
namespace Sys2Proof.Machine

/-! ## Precedence (R84) -/

theorem precedes_iff (a : Option Nat) (n : Nat) (b : Option Nat) (m : Nat) :
    precedes a n b m = true ↔
      (a.isSome = true ∧ b = none) ∨ (a.isSome = true ∧ b.isSome = true ∧ a.getD 0 < b.getD 0) ∨
      (a = b ∧ n < m) := by
  cases a <;> cases b <;> simp [precedes]

/-- Of two stations with different numbers one has precedence (R84). -/
theorem precedes_swap (a b : Option Nat) {n m : Nat} (h : n ≠ m) :
    precedes b m a n = !precedes a n b m := by
  cases a <;> cases b <;> simp only [precedes, Bool.not_true, Bool.not_false]
  · simp only [← decide_not, decide_eq_decide]; omega
  · rw [Bool.eq_iff_iff]; simp; omega

section
variable {g : Setup} {s : State} (hc : s.seq.config = some g)
include hc

theorem State.cfg_some {α : Type} (f : Setup → α) (d : α) : s.cfg f d = f g := by
  simp [State.cfg, hc]

theorem inSpan_iff (e : Entry) :
    s.inSpan e = true ↔ e.bay ≤ g.bay + g.span ∧ g.bay ≤ e.bay + g.span := by
  simp only [State.inSpan, State.bayDistance, State.cfg_some hc, decide_eq_true_eq]
  omega

/-- A LAPSED entry's load is VOID to the gates (R80, R84). -/
theorem entryPrecedes_lapsed {e : Entry} (h : e.lapsed = true) :
    s.entryPrecedes e = true ↔ s.filtered .load = none ∧ e.station < g.station := by
  rw [State.entryPrecedes, precedes_iff, Entry.gateLoad, if_pos h, State.cfg_some hc]
  simp only [Option.isSome_none, Bool.false_eq_true, false_and, false_or, eq_comm (a := (none : Option Nat))]

theorem entryPrecedes_fresh {e : Entry} (h : e.lapsed = false) :
    s.entryPrecedes e = true ↔
      (e.load.isSome = true ∧ s.filtered .load = none) ∨
      (e.load.isSome = true ∧ (s.filtered .load).isSome = true ∧
        e.load.getD 0 < (s.filtered .load).getD 0) ∨
      (e.load = s.filtered .load ∧ e.station < g.station) := by
  simp only [State.entryPrecedes, precedes_iff, Entry.gateLoad, h, State.cfg_some hc, Bool.false_eq_true, if_false]

theorem ownPrecedes_eq {e : Entry} (h : e.station ≠ g.station) : s.ownPrecedes e = !s.entryPrecedes e := by
  simp only [State.ownPrecedes, State.entryPrecedes, State.cfg_some hc]
  exact precedes_swap _ _ h

/-! ## The conditions of the raise gate (R85, R88) -/

/-- The gate imbalance decision on a locked neighbour: its load is known, and not below the step target by more than the limit
(R28, R85). -/
theorem imbalanceClear_iff (e : Entry) :
    s.imbalanceClear e = true ↔
      (e.flags.locked = true → e.locked.isSome = true ∧ s.stepTarget ≤ e.locked.getD 0 + g.imbalanceLimit) := by
  unfold State.imbalanceClear
  rw [State.cfg_some hc]
  cases e.flags.locked with
  | false => simp
  | true =>
    cases e.locked with
    | none => simp [compare]
    | some l =>
      have hload : Test.clear.holds (compare (some ((s.stepTarget : Int) - l)) (g.imbalanceLimit : Nat) 0) = true ↔
          s.stepTarget ≤ l + g.imbalanceLimit := by
        rw [Test.clear_iff, compare_below_iff, compare_within_iff]
        omega
      simpa using hload

omit hc in
/-- Nothing that an entry announces blocks a raise outright (R85). -/
theorem Entry.blocksAlways_false (e : Entry) :
    e.blocksAlways = false ↔ e.phase ∉ [.holding, .seating] ∧ e.flags.hold = false ∧ e.flags.drift = false := by
  simp [Entry.blocksAlways, and_assoc]

omit hc in
/-- Condition (d) for one entry (R85). -/
theorem pendingFirst_false (e : Entry) :
    s.pendingFirst e = false ↔ (e.flags.raisePending = true → s.entryPrecedes e = false) := by
  simp [State.pendingFirst, ← Bool.not_eq_true, imp_iff_not_or]

/-- Conditions (a) to (d), entry by entry (R85). -/
theorem raiseConditions_iff :
    s.raiseConditions = true ↔
      s.seq.runState = .running ∧
      ∀ x ∈ s.table.entries, s.inSpan x = true →
        x.phase ∉ [.raising, .holding, .seating] ∧ x.flags.hold = false ∧ x.flags.drift = false ∧
        x.lapsed = false ∧
        (x.flags.locked = true →
          x.locked.isSome = true ∧ s.stepTarget ≤ x.locked.getD 0 + g.imbalanceLimit) ∧
        (x.flags.raisePending = true → s.entryPrecedes x = false) := by
  have hentry : ∀ x : Entry,
      (!x.blocksRaise && s.imbalanceClear x && !s.pendingFirst x) = true ↔
        x.phase ∉ [.raising, .holding, .seating] ∧ x.flags.hold = false ∧ x.flags.drift = false ∧
        x.lapsed = false ∧
        (x.flags.locked = true →
          x.locked.isSome = true ∧ s.stepTarget ≤ x.locked.getD 0 + g.imbalanceLimit) ∧
        (x.flags.raisePending = true → s.entryPrecedes x = false) := fun x => by
    simp only [Entry.blocksRaise, Bool.and_eq_true, Bool.not_eq_true', Bool.or_eq_false_iff, imbalanceClear_iff hc,
      pendingFirst_false, Entry.blocksAlways_false, beq_eq_false_iff_ne, List.mem_cons, List.not_mem_nil]
    tauto
  simp only [State.raiseConditions, State.spanEntries, Bool.and_eq_true, List.all_eq_true, hentry, List.mem_filter,
    beq_iff_eq, and_imp]
  exact and_comm

/-- The same at the end of the interval, where RAISING is judged by precedence (R88). -/
theorem raiseConditionsAtEnd_iff :
    s.raiseConditionsAtEnd = true ↔
      s.seq.runState = .running ∧
      ∀ x ∈ s.table.entries, s.inSpan x = true →
        x.phase ∉ [.holding, .seating] ∧ (x.phase = .raising → s.ownPrecedes x = true) ∧
        x.flags.hold = false ∧ x.flags.drift = false ∧ x.lapsed = false ∧
        (x.flags.locked = true →
          x.locked.isSome = true ∧ s.stepTarget ≤ x.locked.getD 0 + g.imbalanceLimit) ∧
        (x.flags.raisePending = true → s.entryPrecedes x = false) := by
  have hentry : ∀ x : Entry,
      (!s.blocksAtEnd x && s.imbalanceClear x && !s.pendingFirst x) = true ↔
        x.phase ∉ [.holding, .seating] ∧ (x.phase = .raising → s.ownPrecedes x = true) ∧
        x.flags.hold = false ∧ x.flags.drift = false ∧ x.lapsed = false ∧
        (x.flags.locked = true →
          x.locked.isSome = true ∧ s.stepTarget ≤ x.locked.getD 0 + g.imbalanceLimit) ∧
        (x.flags.raisePending = true → s.entryPrecedes x = false) := fun x => by
    simp only [State.blocksAtEnd, Bool.and_eq_true, Bool.not_eq_true', Bool.or_eq_false_iff, Bool.and_eq_false_iff,
      Bool.not_eq_false', imbalanceClear_iff hc, pendingFirst_false, Entry.blocksAlways_false, beq_eq_false_iff_ne,
      ne_eq, imp_iff_not_or (a := x.phase = .raising)]
    tauto
  simp only [State.raiseConditionsAtEnd, State.spanEntries, Bool.and_eq_true, List.all_eq_true, hentry, List.mem_filter,
    beq_iff_eq, and_imp]
  exact and_comm

end

section
variable {e : Entry} {s : State}

/-- What fails the conditions at the interval's end fails conditions (a) to (d) (R85, R88). -/
theorem raiseConditions_of_failed_atEnd (h : s.raiseConditionsAtEnd = false) : s.raiseConditions = false := by
  rw [Bool.eq_false_iff] at h ⊢
  refine fun hc => h ?_
  simp only [State.raiseConditions, State.raiseConditionsAtEnd, Bool.and_eq_true, List.all_eq_true] at hc ⊢
  refine ⟨fun x hx => ?_, hc.2⟩
  obtain ⟨⟨hblock, hclear⟩, hpend⟩ := hc.1 x hx
  refine ⟨⟨?_, hclear⟩, hpend⟩
  revert hblock
  simp only [Entry.blocksRaise, State.blocksAtEnd]
  cases x.blocksAlways <;> cases x.lapsed <;> simp_all

/-! ## What an applied entry in span does to the gate (R87, R90, R91) -/

theorem withdrawsFor_iff :
    s.withdrawsFor e = true ↔
      e.phase ∈ [.holding, .seating] ∨ e.flags.hold = true ∨ e.flags.drift = true ∨
      ((e.phase = .raising ∨ e.flags.raisePending = true) ∧ s.entryPrecedes e = true) := by
  simp [State.withdrawsFor, Entry.blocksAlways, or_assoc]

theorem turnsBackFor_iff :
    s.turnsBackFor e = true ↔
      e.phase ∈ [.holding, .seating] ∨ e.flags.hold = true ∨ e.flags.drift = true ∨
      (e.phase = .raising ∧ s.entryPrecedes e = true) := by
  simp [State.turnsBackFor, Entry.blocksAlways, or_assoc]

theorem disturbs_iff : e.disturbs = true ↔ e.phase ∈ [.raising, .holding, .seating] := by
  simp [Entry.disturbs, or_assoc]

/-- What turns a ramp back would withdraw an intent (R87, R90). -/
theorem withdrawsFor_of_turnsBackFor (h : s.turnsBackFor e = true) : s.withdrawsFor e = true := by
  rw [turnsBackFor_iff] at h
  rw [withdrawsFor_iff]
  tauto

/-- An entry in span for which an intent withdraws fails the raise conditions (R85, R87). -/
theorem raiseConditions_of_withdraws (he : e ∈ s.table.entries) (hn : s.inSpan e = true)
    (h : s.withdrawsFor e = true) : s.raiseConditions = false := by
  rw [Bool.eq_false_iff]
  intro hr
  simp only [State.raiseConditions, State.spanEntries, Bool.and_eq_true, List.all_eq_true, List.mem_filter] at hr
  obtain ⟨⟨hblock, -⟩, hpend⟩ := hr.1 e ⟨he, hn⟩
  simp only [Entry.blocksRaise, Bool.not_eq_true', Bool.or_eq_false_iff] at hblock
  simp only [State.withdrawsFor, Bool.or_eq_true, Bool.and_eq_true] at h
  rcases h with h | ⟨h | h, hprec⟩
  · simp [h] at hblock
  · simp [h] at hblock
  · simp [State.pendingFirst, h, hprec] at hpend

end

/-! ## Back in RAISE_WAIT with the gate shut (R89, R90) -/

/-- From `s` to `t` the work has gone back into RAISE_WAIT with nothing held; the rest of it stays. -/
structure Withdrawn (s t : State) : Prop where
  field : SameField s t
  seq : t.seq = { s.seq with held := none }
  jack : t.jack = { s.jack with phase := .raiseWait }
  faults : t.faults = s.faults
  eval : t.eval = s.eval
  grout : t.grout = s.grout

/-- A raise gate whose conditions fail stays shut (R85). -/
theorem raiseGate_shut {reach : Boundary → State → State} {s : State} (h : s.raiseConditions = false) :
    raiseGate reach s = s := by
  simp [raiseGate, h]

/-- The state that a move back into RAISE_WAIT comes to before the gate is evaluated (R89). -/
def backInWait (s : State) : State :=
  setStepPhase .raiseWait { logEvent .gateBackoff 0 s with seq := { (logEvent .gateBackoff 0 s).seq with held := none } }

theorem backInWait_withdrawn (s : State) :
    Withdrawn s (backInWait s) ∧ (backInWait s).drives = s.drives ∧ (backInWait s).table = s.table := by
  have hlog := (logEvent_work .gateBackoff 0 s).sameField
  have hheld : SameField (logEvent .gateBackoff 0 s)
      { logEvent .gateBackoff 0 s with seq := { (logEvent .gateBackoff 0 s).seq with held := none } } :=
    .of_parts rfl rfl rfl rfl rfl rfl
  refine ⟨⟨(hlog.trans hheld).trans (setStepPhase_work _ _).sameField, ?_, ?_, ?_, ?_, ?_⟩, ?_, ?_⟩ <;>
    simp [backInWait]

theorem backInWait_raiseConditions (s : State) : (backInWait s).raiseConditions = s.raiseConditions := by
  obtain ⟨h, -⟩ := backInWait_withdrawn s
  exact raiseConditions_congr h.field (by rw [h.seq]) (by rw [h.jack]) (by rw [h.jack])

section
variable {s : State} (hn : s.faults.pending = []) (hr : s.raiseConditions = false)
include hn hr

/-- A withdrawal with the conditions failing ends in RAISE_WAIT (R89). -/
theorem withdraw_eq : withdraw reach s = backInWait s := by
  have hpass : withdraw reach s = raiseGate (reachWith (proceed 31)) (backInWait s) := by
    rw [withdraw, reach, reachWith_pass (by simpa using hn)]
    rfl
  rw [hpass, raiseGate_shut ((backInWait_raiseConditions s).trans hr)]

/-- A ramp turned back with the conditions failing ends in RAISE_WAIT, the raise valve shut and the gate timer at 0 (R90). -/
theorem turnBack_eq :
    turnBack reach s = resetGateTimer (backInWait { s with drives := { s.drives with raise := false } }) := by
  have hpass : turnBack reach s = raiseGate (reachWith (proceed 31))
      (resetGateTimer (backInWait { s with drives := { s.drives with raise := false } })) := by
    rw [turnBack, reach, reachWith_pass (by simpa using hn)]
    rfl
  rw [hpass]
  exact raiseGate_shut
    ((backInWait_raiseConditions { s with drives := { s.drives with raise := false } }).trans hr)

end

/-! ## The work that an applied entry brings (R87, R90, R91) -/

section
variable {e : Entry} {s : State} (hs : s.seq.stage = .stress)
include hs

theorem appliedWork_withdraws (hn : s.faults.pending = []) (hp : s.jack.phase = .raiseIntent) (hnear : s.inSpan e = true)
    (hw : s.withdrawsFor e = true) (hr : s.raiseConditions = false) : appliedWork e s = backInWait s := by
  rw [← withdraw_eq hn hr]
  simp [appliedWork, hs, hp, hnear, hw]

theorem appliedWork_intent_stays (hp : s.jack.phase = .raiseIntent)
    (hw : s.inSpan e = false ∨ s.withdrawsFor e = false) : appliedWork e s = s := by
  rcases hw with h | h <;> simp [appliedWork, hs, hp, h]

theorem appliedWork_turnsBack (hn : s.faults.pending = []) (hrun : s.seq.runState = .running) (hp : s.jack.phase = .rampUp)
    (hnear : s.inSpan e = true) (hw : s.turnsBackFor e = true) (hr : s.raiseConditions = false) :
    appliedWork e s = resetGateTimer (backInWait { s with drives := { s.drives with raise := false } }) := by
  rw [← turnBack_eq hn hr]
  simp [appliedWork, hs, hp, hnear, hw, hrun]

theorem appliedWork_ramp_stays (hp : s.jack.phase = .rampUp)
    (hw : s.inSpan e = false ∨ s.turnsBackFor e = false) : appliedWork e s = s := by
  rcases hw with h | h <;> simp [appliedWork, hs, hp, h]

theorem appliedWork_hold (hp : s.jack.phase = .hold) :
    appliedWork e s =
      if s.inSpan e = true ∧ e.disturbs = true then updateEntry (fun x => { x with disturbed := true }) s else s := by
  simp [appliedWork, hs, hp]

end

end Sys2Proof.Machine
end

section
/-!
PROOF. NOTICE_APPLIED and the work in progress: what an applied entry does to intent, ramp, hold and gates, seen through the
close of the event.
-/
namespace Sys2Proof.Machine

/-! ## The station beside its wall line -/

/-- The station but for its wall line, the own sequence and the queue of commands: what a notice and the end of an application
leave alone. -/
def State.offLine (s : State) : State :=
  { s with line := State.reset.line, table := { s.table with ownSequence := 0 }, pending := [] }

section
variable {s t : State} (h : t.offLine = s.offLine)
include h

theorem offLine_seq : t.seq = s.seq := (congrArg State.seq h :)
theorem offLine_chans : t.chans = s.chans := (congrArg State.chans h :)
theorem offLine_drives : t.drives = s.drives := (congrArg State.drives h :)
theorem offLine_grout : t.grout = s.grout := (congrArg State.grout h :)
theorem offLine_jack : t.jack = s.jack := (congrArg State.jack h :)
theorem offLine_eval : t.eval = s.eval := (congrArg State.eval h :)
theorem offLine_faults : t.faults = s.faults := (congrArg State.faults h :)
theorem offLine_log : t.log = s.log := (congrArg State.log h :)
theorem offLine_gateTimer : t.table.gateTimer = s.table.gateTimer := (congrArg (fun u => u.table.gateTimer) h :)
theorem offLine_raiseConditions : t.raiseConditions = s.raiseConditions := (congrArg State.raiseConditions h :)
theorem offLine_drawers : t.drawers = s.drawers := (congrArg State.drawers h :)
theorem offLine_legal : t.drivesLegal = s.drivesLegal := (congrArg State.drivesLegal h :)

end

theorem beginApplying_offLine (s : State) : (beginApplying s).offLine = s.offLine := by
  rw [beginApplying_eq]; rfl

/-- An event that settles as it stands leaves its effects, but for the wall line. -/
theorem finish_offLine {s t : State} (hs : settle s t = t) (hl : t.drivesLegal = true) :
    (finish s t).offLine = t.offLine := by
  rw [finish_of_settled hs hl]
  exact (congrArg State.offLine (prompt_withoutNotice s t) :)

/-! ## An application that changes no entry (R76, R77) -/

section
variable {a : Applying} {g : Setup} {s : State}

/-- A frame that detects at most leaves the work as it stands (log 13). -/
theorem notice_detects (ha : s.line.applying = some a) (hl : s.drivesLegal = true) {f : FaultUnit}
    (hr : applyFrame a.frame (endApplying a s) = ({ endApplying a s with faults := f }, none)) :
    (finish s (noticeWork s)).offLine = { s.offLine with faults := f } := by
  have hw := noticeWork_unchanged ha hr
  have hoff : (noticeWork s).offLine = { s.offLine with faults := f } := by
    rw [hw]
    exact beginApplying_offLine { endApplying a s with faults := f }
  have hfinish := finish_offLine (s := s) (t := noticeWork s)
    (settle_same ((congrArg State.drivesLegal hoff :).trans hl) (congrArg (fun u => u.seq.runState) hoff :)
      (congrArg (fun u => u.drives.lower) hoff :))
    ((congrArg State.drivesLegal hoff :).trans hl)
  rw [hfinish, hoff]

/-- A clash, a malformed frame or a duplicate changes no entry (R76, R77). -/
theorem applyFrame_unchanged (hc : s.seq.config = some g)
    (h : (entryOf g.claimLimit a.frame).station = g.station ∨ frameWellFormed a.frame = false ∨
      (findEntry (entryOf g.claimLimit a.frame).station s.table.entries).map Entry.sequence =
        some (entryOf g.claimLimit a.frame).sequence) :
    ∃ f, applyFrame a.frame (endApplying a s) = ({ endApplying a s with faults := f }, none) := by
  have hc' : (endApplying a s).seq.config = some g := hc
  by_cases hst : (entryOf g.claimLimit a.frame).station = g.station
  · rw [applyFrame_clash hc' hst, detect_lineFault]; exact ⟨_, rfl⟩
  · by_cases hw : frameWellFormed a.frame = false
    · rw [applyFrame_malformed hc' hst hw, detect_lineFault]; exact ⟨_, rfl⟩
    · obtain ⟨old, hf, hseq⟩ := Option.map_eq_some_iff.mp ((h.resolve_left hst).resolve_left hw)
      rw [applyFrame_known (s := endApplying a s) hc' hst (by simpa using hw) hf, if_pos hseq]
      exact ⟨_, rfl⟩

end

/-- A notice of another sequence finds its place: a known entry, room, or an entry to give up (R77, R78). -/
theorem applyFrame_changes {b : List Byte} {g : Setup} {s : State} (hc : s.seq.config = some g)
    (hw : frameWellFormed b = true) (hst : (entryOf g.claimLimit b).station ≠ g.station)
    (hseq : (findEntry (entryOf g.claimLimit b).station s.table.entries).map Entry.sequence ≠
      some (entryOf g.claimLimit b).sequence)
    (hroom : (findEntry (entryOf g.claimLimit b).station s.table.entries).isSome = true ∨
      s.table.entries.length < 24 ∨ s.entryToGiveUp.isSome = true) :
    ∃ es, entryOf g.claimLimit b ∈ es ∧ applyFrame b s = (s.setEntries es, some (entryOf g.claimLimit b)) := by
  cases hf : findEntry (entryOf g.claimLimit b).station s.table.entries with
  | some old =>
    rw [applyFrame_known hc hst hw hf, if_neg (by simpa [hf] using hseq)]
    exact ⟨_, mem_insertEntry _ _, rfl⟩
  | none =>
    by_cases hl : s.table.entries.length < 24
    · rw [applyFrame_room hc hst hw hf hl]
      exact ⟨_, mem_insertEntry _ _, rfl⟩
    · have hup : s.entryToGiveUp.isSome = true := by simpa [hf, hl] using hroom
      obtain ⟨old, ho⟩ := Option.isSome_iff_exists.mp hup
      rw [applyFrame_givesUp hc hst hw hf (Nat.not_lt.mp hl) ho]
      exact ⟨_, mem_insertEntry _ _, rfl⟩

/-! ## An application that changes an entry, by the work it meets (R85, R87, R90, R91, R94) -/

/-- The station `u` whose table entry `e` has just changed, in an event that began in `s` with nothing pending. -/
structure Tabled (e : Entry) (s u : State) : Prop where
  legal : s.drivesLegal = true
  clear : s.faults.pending = []
  mem : e ∈ u.table.entries
  same : ∃ es, u.offLine = (s.setEntries es).offLine

section
variable {e : Entry} {s u : State} (h : Tabled e s u)
include h

/-- The changed entry leaves all but the entries. -/
theorem Tabled.fields :
    u.seq = s.seq ∧ u.jack = s.jack ∧ u.drives = s.drives ∧ u.grout = s.grout ∧ u.eval = s.eval ∧
    u.faults = s.faults ∧ u.log = s.log ∧ u.table.gateTimer = s.table.gateTimer := by
  obtain ⟨es, hes⟩ := h.same
  exact ⟨(offLine_seq hes :), (offLine_jack hes :), (offLine_drives hes :), (offLine_grout hes :), (offLine_eval hes :),
    (offLine_faults hes :), (offLine_log hes :), (offLine_gateTimer hes :)⟩

/-- The checks read the configuration and the own load, which stay. -/
theorem Tabled.checks :
    u.inSpan e = s.inSpan e ∧ u.withdrawsFor e = s.withdrawsFor e ∧ u.turnsBackFor e = s.turnsBackFor e := by
  obtain ⟨es, hes⟩ := h.same
  exact ⟨(congrArg (fun v : State => v.inSpan e) hes :), (congrArg (fun v : State => v.withdrawsFor e) hes :),
    (congrArg (fun v : State => v.turnsBackFor e) hes :)⟩

theorem Tabled.pending : u.faults.pending = [] := by
  obtain ⟨-, -, -, -, -, hf, -⟩ := h.fields
  rw [hf]; exact h.clear

theorem Tabled.uLegal : u.drivesLegal = true := by
  obtain ⟨es, hes⟩ := h.same
  exact (offLine_legal hes :).trans h.legal

theorem Tabled.withdrawn_conditions (hn : s.inSpan e = true) (hw : s.withdrawsFor e = true) :
    u.raiseConditions = false := by
  obtain ⟨k1, k2, -⟩ := h.checks
  exact raiseConditions_of_withdraws h.mem (k1.trans hn) (k2.trans hw)

/-- Work on the changed entry that keeps the run state and the lower valve, with the drives in their rows, is what the event
leaves. -/
theorem Tabled.finished {w : State} (hl : w.drivesLegal = true) (hr : w.seq.runState = u.seq.runState)
    (hv : w.drives.lower = u.drives.lower) : (finish s (beginApplying w)).offLine = w.offLine := by
  obtain ⟨hq, -, hd, -⟩ := h.fields
  have hb := beginApplying_offLine w
  have hlegal : (beginApplying w).drivesLegal = true := (offLine_legal hb).trans hl
  rw [finish_offLine (settle_same hlegal ?_ ?_) hlegal, hb]
  · rw [offLine_seq hb, hr, hq]
  · rw [offLine_drives hb, hv, hd]

/-- Where the applied entry brings nothing, the work stays. -/
theorem Tabled.finished_stays (hw : appliedWork e u = u) :
    (finish s (beginApplying (appliedWork e u))).offLine = u.offLine := by
  rw [hw]
  exact h.finished h.uLegal rfl rfl

theorem Tabled.intent (hp : s.stressing .raiseIntent = true) {t : State}
    (ht : finish s (beginApplying (appliedWork e u)) = t) :
    t.drives = .off ∧
    (s.inSpan e = true → s.withdrawsFor e = true →
      t.jack = { s.jack with phase := .raiseWait } ∧ t.seq = { s.seq with held := none } ∧
      t.table.gateTimer = s.table.gateTimer) ∧
    ((s.inSpan e = false ∨ s.withdrawsFor e = false) → t.jack = s.jack ∧ t.seq = s.seq ∧ t.log = s.log) := by
  obtain ⟨hstage, hrun, hphase⟩ := State.stressing_iff.mp hp
  obtain ⟨hq, hj, hd, -, -, -, hlog, htimer⟩ := h.fields
  obtain ⟨k1, k2, -⟩ := h.checks
  have hoff : s.drives = .off := State.drives_at_gate h.legal hstage hrun (.inl hphase)
  by_cases hw : s.inSpan e = true ∧ s.withdrawsFor e = true
  · have hback := appliedWork_withdraws (e := e) (s := u) (by rw [hq]; exact hstage) h.pending
      (by rw [hj]; exact hphase) (k1.trans hw.1) (k2.trans hw.2) (h.withdrawn_conditions hw.1 hw.2)
    obtain ⟨b, bdrives, btable⟩ := backInWait_withdrawn u
    rw [hback] at ht
    have k := h.finished (w := backInWait u)
      (State.drivesLegal_of_off (bdrives.trans (hd.trans hoff))) (by rw [b.seq]) (by rw [bdrives])
    rw [ht] at k
    rw [offLine_drives k, offLine_jack k, offLine_seq k, offLine_gateTimer k, bdrives, b.jack, b.seq, btable, hd, hj,
      hq, htimer]
    refine ⟨hoff, fun _ _ => ⟨rfl, rfl, rfl⟩, fun hn => ?_⟩
    simp [hw] at hn
  · have hstay := appliedWork_intent_stays (e := e) (s := u) (by rw [hq]; exact hstage) (by rw [hj]; exact hphase)
      (by rw [k1, k2]; simpa only [not_and_or, Bool.not_eq_true] using hw)
    have k := h.finished_stays hstay
    rw [ht] at k
    rw [offLine_drives k, offLine_jack k, offLine_seq k, offLine_log k, hd, hj, hq, hlog]
    exact ⟨hoff, fun h1 h2 => absurd ⟨h1, h2⟩ hw, fun _ => ⟨rfl, rfl, rfl⟩⟩

theorem Tabled.ramp (hp : s.stressing .rampUp = true) {t : State}
    (ht : finish s (beginApplying (appliedWork e u)) = t) :
    (s.inSpan e = true → s.turnsBackFor e = true →
      t.jack = { s.jack with phase := .raiseWait } ∧ t.seq = { s.seq with held := none } ∧
      t.drives = .off ∧ t.table.gateTimer = 0) ∧
    ((s.inSpan e = false ∨ s.turnsBackFor e = false) →
      t.jack = s.jack ∧ t.seq = s.seq ∧ t.drives = s.drives ∧ t.log = s.log) := by
  obtain ⟨hstage, hrun, hphase⟩ := State.stressing_iff.mp hp
  obtain ⟨hq, hj, hd, -, -, -, hlog, -⟩ := h.fields
  obtain ⟨k1, -, k3⟩ := h.checks
  refine ⟨fun hn hw => ?_, fun hn => ?_⟩
  · have hback := appliedWork_turnsBack (e := e) (s := u) (by rw [hq]; exact hstage) h.pending
      (by rw [hq]; exact hrun) (by rw [hj]; exact hphase) (k1.trans hn) (k3.trans hw)
      (h.withdrawn_conditions hn (withdrawsFor_of_turnsBackFor hw))
    obtain ⟨b, bdrives, -⟩ := backInWait_withdrawn { u with drives := { u.drives with raise := false } }
    rw [hback] at ht
    generalize backInWait { u with drives := { u.drives with raise := false } } = v at b bdrives ht
    have hoff : v.drives = .off := by
      rw [bdrives, hd, State.drives_of_stress h.legal hstage]
      simp [State.lowerAllowed, State.seatingAllowed, hrun, hphase, Drives.off]
    have k := h.finished (w := resetGateTimer v) (State.drivesLegal_of_off hoff) (by rw [resetGateTimer_seq, b.seq])
      (by rw [resetGateTimer_drives, bdrives])
    rw [ht] at k
    rw [offLine_drives k, offLine_jack k, offLine_seq k, offLine_gateTimer k, resetGateTimer_drives,
      resetGateTimer_jack, resetGateTimer_seq, resetGateTimer_table, b.jack, b.seq, hoff]
    exact ⟨by rw [← hj], by rw [← hq], rfl, rfl⟩
  · have k := h.finished_stays (appliedWork_ramp_stays (e := e) (s := u) (by rw [hq]; exact hstage)
      (by rw [hj]; exact hphase) (by rw [k1, k3]; exact hn))
    rw [ht] at k
    rw [offLine_drives k, offLine_jack k, offLine_seq k, offLine_log k]
    exact ⟨hj, hq, hd, hlog⟩

theorem Tabled.hold (hs : s.seq.stage = .stress) (hp : s.jack.phase = .hold) {t : State}
    (ht : finish s (beginApplying (appliedWork e u)) = t) :
    t.jack = s.jack ∧ t.seq = s.seq ∧ t.drives = s.drives ∧
    t.eval =
      (if s.inSpan e = true ∧ e.disturbs = true then
        (updateEntry (fun x => { x with disturbed := true }) s).eval
      else s.eval) := by
  obtain ⟨hq, hj, hd, -, hev, -⟩ := h.fields
  obtain ⟨k1, -⟩ := h.checks
  have hwork := appliedWork_hold (e := e) (s := u) (by rw [hq]; exact hs) (by rw [hj]; exact hp)
  rw [k1] at hwork
  by_cases hw : s.inSpan e = true ∧ e.disturbs = true
  · rw [if_pos hw] at hwork ⊢
    rw [hwork] at ht
    have k := h.finished (w := updateEntry (fun x => { x with disturbed := true }) u) h.uLegal rfl rfl
    rw [ht] at k
    rw [offLine_jack k, offLine_seq k, offLine_drives k, offLine_eval k]
    refine ⟨hj, hq, hd, ?_⟩
    simp only [updateEntry, hj, hev]
  · rw [if_neg hw] at hwork ⊢
    have k := h.finished_stays hwork
    rw [ht] at k
    rw [offLine_jack k, offLine_seq k, offLine_drives k, offLine_eval k]
    exact ⟨hj, hq, hd, hev⟩

theorem Tabled.wait (hp : s.stressing .raiseWait = true) {t : State}
    (ht : finish s (beginApplying (appliedWork e u)) = t) :
    t.drives = .off ∧
    t.jack =
      { s.jack with
        phase := if t.raiseConditions = true ∧ s.jack.approach ≠ .pending then .raiseIntent else .raiseWait } := by
  obtain ⟨hstage, hrun, hphase⟩ := State.stressing_iff.mp hp
  obtain ⟨hq, hj, hd, -⟩ := h.fields
  have hoff : u.drives = .off := hd.trans (State.drives_at_gate h.legal hstage hrun (.inr hphase))
  have hus : u.seq.stage = .stress := by rw [hq]; exact hstage
  have hup : u.jack.phase = .raiseWait := by rw [hj]; exact hphase
  have hwork : appliedWork e u = raiseGate reach u := by simp [appliedWork, hus, hup]
  by_cases hap : s.jack.approach = .pending
  · have hstay : appliedWork e u = u := by rw [hwork]; simp [raiseGate, hj, hap]
    have k := h.finished_stays hstay
    rw [ht] at k
    rw [offLine_drives k, offLine_jack k, hoff, hj]
    exact ⟨rfl, by rw [if_neg fun hc => hc.2 hap, ← hphase]⟩
  · have hg : Gated u (raiseGate reach u) := raiseGate_gated 31 hus hup (by rw [hj]; exact hap) h.pending
    obtain ⟨glegal, grun, goff⟩ := hg.legal hoff
    rw [hwork] at ht
    have k := h.finished glegal grun (by rw [goff, hoff])
    rw [ht] at k
    rw [offLine_drives k, offLine_jack k, offLine_raiseConditions k, goff, hg.jack, hj]
    simp only [ne_eq, hap, not_false_eq_true, and_true]

theorem Tabled.groutWait {g : Setup} (hc : s.seq.config = some g) (hp : s.grouting = true) (hw : s.grout.phase = .wait)
    (hm : g.main ≠ 0) {t : State} (ht : finish s (beginApplying (appliedWork e u)) = t) :
    t.drives = .off ∧ t.grout.claim = s.grout.claim ∧
    t.grout.phase = (if t.drawers < g.concurrency then .intent else .wait) := by
  obtain ⟨hstage, hrun⟩ := State.grouting_iff.mp hp
  obtain ⟨hq, -, hd, hgr, -⟩ := h.fields
  have hcu : u.seq.config = some g := by rw [hq]; exact hc
  have hoff : u.drives = .off := hd.trans (State.drives_beside_draw h.legal hstage (by rw [hw]; decide))
  have hwork : appliedWork e u = groutGate reach u := by simp [appliedWork, hq, hstage]
  have hgate := groutGate_shared (s := u) (by simp [State.grouting, hq, hstage, hrun]) (by rw [hgr]; exact hw)
    (by rw [State.cfg_some hcu]; exact hm) h.pending
  rw [State.cfg_some hcu] at hgate
  rw [hwork, hgate] at ht
  split at ht
  · rename_i hroom
    have k := h.finished (w := { u with
      seq := { u.seq with held := none }
      grout := { u.grout with phase := .intent, intentTicks := 0 } }) (State.drivesLegal_of_off hoff) rfl rfl
    rw [ht] at k
    have hdrawers : t.drawers = u.drawers := (offLine_drawers k :)
    rw [offLine_drives k, offLine_grout k, hdrawers, if_pos hroom]
    exact ⟨hoff, by rw [← hgr], rfl⟩
  · rename_i hroom
    have k := h.finished (w := u) h.uLegal rfl rfl
    rw [ht] at k
    rw [offLine_drives k, offLine_grout k, offLine_drawers k, if_neg hroom, hgr]
    exact ⟨hoff, rfl, hw⟩

end

/-- Settles O47: the readings of the gate by their lemmas, an application without effect by `notice_detects`, and one that
changes an entry by the lemma of `Tabled` for the work it meets. -/
theorem conflictsHoldTheRaiseBack : Obligations.ConflictsHoldTheRaiseBack := by
  intro a e g s
  refine ⟨fun ha hc hl hn he => ?_, fun hc => ?_, withdrawsFor_iff, turnsBackFor_iff, disturbs_iff,
    fun hn hs hnear => ?_⟩
  · subst he
    refine ⟨fun h => ?_, fun hw hst hseq hroom => ?_⟩
    · obtain ⟨f, hr⟩ := applyFrame_unchanged hc h
      have k := notice_detects ha hl hr
      exact ⟨_, rfl, (congrArg State.seq k :), (congrArg State.jack k :), (congrArg State.grout k :),
        (congrArg State.eval k :), (congrArg State.drives k :), (congrArg State.log k :)⟩
    · obtain ⟨es, hmem, hr⟩ := applyFrame_changes (s := endApplying a s) hc hw hst hseq hroom
      have h : Tabled (entryOf g.claimLimit a.frame) s ((endApplying a s).setEntries es) := ⟨hl, hn, hmem, es, rfl⟩
      refine ⟨_, rfl, by rw [finish_tabled ha hr]; exact hmem, ?_⟩
      rw [noticeWork_changed ha hr]
      exact ⟨fun hp => h.intent hp rfl, fun hp => h.ramp hp rfl, fun hs hp => h.hold hs hp rfl, fun hp => h.wait hp rfl,
        fun hp hw hm => h.groutWait hc hp hw hm rfl⟩
  · exact ⟨inSpan_iff hc e, entryPrecedes_lapsed hc, entryPrecedes_fresh hc, ownPrecedes_eq hc, raiseConditions_iff hc,
      raiseConditionsAtEnd_iff hc⟩
  · refine ⟨fun hp hw hr => ?_, fun hp hw => appliedWork_intent_stays hs hp (.inr hw), fun hp hrun hw hr => ?_,
      fun hp hw => appliedWork_ramp_stays hs hp (.inr hw), fun hp hd => ?_, fun hp hd => ?_⟩
    · obtain ⟨b, -, btable⟩ := backInWait_withdrawn s
      rw [appliedWork_withdraws hs hn hp hnear hw hr]
      exact ⟨b.jack, b.seq, btable⟩
    · obtain ⟨b, bdrives, btable⟩ := backInWait_withdrawn { s with drives := { s.drives with raise := false } }
      rw [appliedWork_turnsBack hs hn hrun hp hnear hw hr, resetGateTimer_jack, resetGateTimer_drives,
        resetGateTimer_table, bdrives, btable]
      exact ⟨b.jack, rfl, rfl⟩
    · rw [appliedWork_hold hs hp, if_pos ⟨hnear, hd⟩]
      rfl
    · rw [appliedWork_hold hs hp, if_neg (by simp [hd])]

end Sys2Proof.Machine
end

section
/-!
PROOF. The notice tick as a whole: its counts, its work beside the periodic record, its close, and the neighbour table (O41).
-/
namespace Sys2Proof.Machine

/-! ## The station beside its log and its wall line -/

/-- The station but for its log, its REFILLED marks, its count of free orders, its wall line, the own sequence and the queue of
commands: what the periodic record, a notice and a free order leave alone. -/
def State.worked (s : State) : State :=
  { s.offLine with
    chans := { s.contents with drainOpen := s.chans.drainOpen }, log := [], freeCount := 0 }

section
variable {s t : State} (h : t.worked = s.worked)
include h

theorem worked_seq : t.seq = s.seq := (congrArg State.seq h :)
theorem worked_drives : t.drives = s.drives := (congrArg State.drives h :)
theorem worked_grout : t.grout = s.grout := (congrArg State.grout h :)
theorem worked_jack : t.jack = s.jack := (congrArg State.jack h :)
theorem worked_eval : t.eval = s.eval := (congrArg State.eval h :)
theorem worked_faults : t.faults = s.faults := (congrArg State.faults h :)
theorem worked_gateTimer : t.table.gateTimer = s.table.gateTimer := (congrArg (fun u => u.table.gateTimer) h :)
theorem worked_raiseTicks : t.table.raiseTicks = s.table.raiseTicks := (congrArg (fun u => u.table.raiseTicks) h :)
theorem worked_drainOpen : t.chans.drainOpen = s.chans.drainOpen := (congrArg (fun u => u.chans.drainOpen) h :)
theorem worked_filtered (c : ChannelName) : t.filtered c = s.filtered c := by
  cases c
  · exact (congrArg (fun u : State => u.filtered .load) h :)
  · exact (congrArg (fun u : State => u.filtered .ext) h :)
  · exact (congrArg (fun u : State => u.filtered .gp) h :)
  · exact (congrArg (fun u : State => u.filtered .gv) h :)
  · exact (congrArg (fun u : State => u.filtered .wl) h :)
  · exact (congrArg (fun u : State => u.filtered .wt) h :)
theorem worked_raiseConditions : t.raiseConditions = s.raiseConditions := (congrArg State.raiseConditions h :)
theorem worked_conditionsAtEnd : t.raiseConditionsAtEnd = s.raiseConditionsAtEnd :=
  (congrArg State.raiseConditionsAtEnd h :)
theorem worked_grouting : t.grouting = s.grouting := (congrArg State.grouting h :)
theorem worked_drawers : t.drawers = s.drawers := (congrArg State.drawers h :)
theorem worked_groutTotal : t.groutTotal = s.groutTotal := (congrArg State.groutTotal h :)
theorem worked_legal : t.drivesLegal = s.drivesLegal := (congrArg State.drivesLegal h :)
theorem worked_watchQuiet : t.watchQuiet = s.watchQuiet := (congrArg State.watchQuiet h :)

end

theorem worked_of_notice {s t : State} (h : t.withoutNotice = s.withoutNotice) : t.worked = s.worked :=
  (congrArg State.worked h :)

theorem consumeRefilled_worked (f : Option FieldKind) (s : State) : (consumeRefilled f s).worked = s.worked := by
  unfold consumeRefilled
  split
  · rfl
  · rename_i f; cases f <;> rfl

theorem logEvent_worked (e : EventCode) (a : Nat) (s : State) : (logEvent e a s).worked = s.worked :=
  consumeRefilled_worked (if s.seq.stage = .stress then some .meas else none) s

theorem periodicRecord_worked (s : State) : (periodicRecord s).worked = s.worked := by
  unfold periodicRecord
  split
  · exact consumeRefilled_worked (stageField s.seq.stage) s
  · rfl

/-! ## The counts of a tick (R37, R38, R79, R86, R95 to R97) -/

/-- What a tick counts of the state `s`, where no entry leaves the table. -/
structure Counted (s c : State) : Prop where
  stage : c.seq.stage = s.seq.stage
  run : c.seq.runState = s.seq.runState
  held : c.seq.held = s.seq.held
  config : c.seq.config = s.seq.config
  rest : { c with seq := s.seq, table := s.table, grout := s.grout } = s
  gateTimer : c.table.gateTimer = s.table.gateTimer
  raiseTicks : c.table.raiseTicks =
    if s.jack.phase = .raiseIntent then min (s.table.raiseTicks + 1) 2 else s.table.raiseTicks
  grout : c.grout =
    { s.grout with
      intentTicks := if s.grout.phase = .intent then min (s.grout.intentTicks + 1) 2 else s.grout.intentTicks
      claim := s.grout.claim.map fun c => { c with ticks := c.ticks + 1 }
      restTicks := if s.grout.phase = .rest then min (s.grout.restTicks + 1) restLength else s.grout.restTicks }

theorem jobTick_shape (s : State) :
    jobTick s =
      { s with seq := { s.seq with jobHalf := (jobTick s).seq.jobHalf, jobClock := (jobTick s).seq.jobClock } } := by
  unfold jobTick; split <;> rfl

theorem State.boundaryClear_iff {s : State} :
    s.boundaryClear = true ↔
      s.faults.pending = [] ∧ s.table.entries.all (fun e => decide (e.age < 9)) = true := by
  simp [State.boundaryClear]

theorem tickCounts_counted {s : State} (h : s.boundaryClear = true) : Counted s (tickCounts s) := by
  unfold tickCounts
  rw [ageEntries_clear (State.boundaryClear_iff.mp h).2, jobTick_shape]
  exact ⟨rfl, rfl, rfl, rfl, rfl, rfl, rfl, rfl⟩

section
variable {s c : State} (h : Counted s c)
include h

theorem Counted.jack : c.jack = s.jack := (congrArg State.jack h.rest :)
theorem Counted.drives : c.drives = s.drives := (congrArg State.drives h.rest :)
theorem Counted.eval : c.eval = s.eval := (congrArg State.eval h.rest :)
theorem Counted.faults : c.faults = s.faults := (congrArg State.faults h.rest :)
theorem Counted.chans : c.chans = s.chans := (congrArg State.chans h.rest :)
theorem Counted.filtered (x : ChannelName) : c.filtered x = s.filtered x := by
  cases x <;> simp only [State.filtered, State.chan, h.chans]
theorem Counted.cfg {α : Type} (f : Setup → α) (d : α) : c.cfg f d = s.cfg f d := by
  simp only [State.cfg, h.config]
theorem Counted.watchQuiet : c.watchQuiet = s.watchQuiet := by
  simp only [State.watchQuiet, h.config, h.filtered]

end

/-! ## The work of a tick beside the periodic record (R178) -/

/-- Whatever the tick's work comes to, the periodic record before or after it changes nothing of it but the log. -/
theorem tickWork_elim {p : State → Prop} {advanced : Bool} {u : State}
    (hp : ∀ {t v : State}, t.worked = v.worked → p v → p t)
    (hw : ∀ v : State, v.worked = u.worked → p (workOfTick advanced v)) : p (tickWork advanced u) := by
  have hrec := hw _ (periodicRecord_worked u)
  unfold tickWork
  split
  · exact hw u rfl
  · split
    · exact eitherOrder_elim hrec (hp (periodicRecord_worked _) (hw u rfl)) fun t n ht =>
        hp (t := { t with freeCount := n }) (v := t) rfl ht
    · exact hrec

/-! ## The close of a tick (R53, R83) -/

theorem settle_legal (s t : State) : (settle s t).drivesLegal = true := by
  unfold settle
  dsimp only
  split <;> exact enforceDrives_legal _

/-- With no drive to put back and no notice to send, a tick closes as it has settled. -/
theorem secure_requestNotice_worked (s : State) {w : State} (h : w.drivesLegal = true) :
    (secure s (requestNotice w)).worked = w.worked := by
  have hn := requestNotice_withoutNotice w
  have hl : (requestNotice w).drivesLegal = true := (congrArg State.drivesLegal hn :).trans h
  unfold secure
  rw [enforceDrives_of_legal hl]
  exact (congrArg State.worked hn :)

/-- The grout gate has nothing to evaluate after the tick's notice (R95). -/
theorem noticeTick_worked {s w : State} (hw : tickWork s.jobAdvances (tickCounts s) = w)
    (hg : s.grout.phase = .intent → ¬((settle s w).grouting = true ∧ (settle s w).grout.phase = .wait)) :
    (secure s (noticeTick s)).worked = (settle s w).worked := by
  have hl := settle_legal s w
  have hn := requestNotice_withoutNotice (settle s w)
  have htick : noticeTick s = requestNotice (settle s w) := by
    unfold noticeTick
    rw [hw]
    dsimp only
    split
    · rename_i hi
      have hgate : groutGate reach (requestNotice (settle s w)) = requestNotice (settle s w) := by
        have h1 : (requestNotice (settle s w)).grouting = (settle s w).grouting := (congrArg State.grouting hn :)
        have h2 : (requestNotice (settle s w)).grout = (settle s w).grout := (congrArg State.grout hn :)
        unfold groutGate
        rw [h1, h2, if_neg]
        simpa using hg hi
      have hlegal : (requestNotice (settle s w)).drivesLegal = true := (congrArg State.drivesLegal hn :).trans hl
      rw [hgate, settle_same hlegal rfl rfl, prompt_same rfl]
    · rfl
  rw [htick]
  exact secure_requestNotice_worked s hl

/-- The effects `w` of a tick settle as they stand, and leave the grout gate nothing to evaluate after the notice. -/
structure TickSettles (s w : State) : Prop where
  legal : w.drivesLegal = true
  run : w.seq.runState = s.seq.runState
  lower : w.drives.lower = s.drives.lower
  gate : s.grout.phase = .intent → ¬(w.grouting = true ∧ w.grout.phase = .wait)

theorem TickSettles.congr {s v w : State} (h : w.worked = v.worked) (k : TickSettles s v) : TickSettles s w :=
  ⟨(worked_legal h).trans k.legal, by rw [worked_seq h, k.run], by rw [worked_drives h, k.lower],
    fun hi => by rw [worked_grouting h, worked_grout h]; exact k.gate hi⟩

/-- A tick leaves what its work comes to from any state with its counts, where that settles as it stands. -/
theorem noticeTick_elim {p : State → Prop} {s : State} (hp : ∀ {t v : State}, t.worked = v.worked → p v → p t)
    (hw : ∀ v : State, v.worked = (tickCounts s).worked →
      TickSettles s (workOfTick s.jobAdvances v) ∧ p (workOfTick s.jobAdvances v)) :
    p (secure s (noticeTick s)) := by
  obtain ⟨ht, hwork⟩ : TickSettles s (tickWork s.jobAdvances (tickCounts s)) ∧
      p (tickWork s.jobAdvances (tickCounts s)) :=
    tickWork_elim (p := fun w => TickSettles s w ∧ p w) (fun h k => ⟨k.1.congr h, hp h k.2⟩) hw
  have hs := settle_same ht.legal ht.run ht.lower
  refine hp (noticeTick_worked rfl ?_) ?_ <;> rw [hs]
  · exact ht.gate
  · exact hwork

/-- A row of the tick on its occasion. -/
theorem tick_due {due : Bool} (s : State) (h : due = true) :
    Host.Outcome.next (secure s (occasion due noticeTick s)) =
      (.next (secure s (noticeTick s)) : Host.Outcome State Fault Refusal) := by
  rw [occasion, if_pos h]

/-! ## The neighbour table at a tick (R79) -/

/-- A kind of class maskable, other than VOID_TEST and ANCHOR_DRIFT, is seen; unmasked, with a stage active, it waits for a
boundary (R164). -/
theorem detect_maskable {k : FaultKind} (d : Detail) (s : State) (hm : k.maskable = true) (hv : k ≠ .voidTest)
    (ha : k ≠ .anchorDrift) :
    detect k d s =
      if s.masked k = false ∧ s.stageActive = true then pendKind k d (seeKind k s) else seeKind k s := by
  have hw : k ≠ .wallStop := by rintro rfl; simp [FaultKind.maskable, FaultKind.priority] at hm
  have hmask : (seeKind k s).masked k = s.masked k := rfl
  have hactive : (seeKind k s).stageActive = s.stageActive := rfl
  simp only [detect, ha, hw, hm, hv, hmask, hactive, decide_false, Bool.false_and, Bool.false_eq_true, Bool.not_true,
    if_false]
  cases s.masked k <;> cases s.stageActive <;> simp

/-- The detections of entries that leave the table are work, and leave their kind seen. -/
theorem neighboursLost_work (gone : List Entry) (s : State) :
    Work s (gone.foldl (fun s e => detect .neighbourLost (.station e.station) s) s) := by
  induction gone generalizing s with
  | nil => exact .refl s
  | cons e rest ih => exact (detect_work (k := .neighbourLost) _ (by simp)).trans (ih _)

theorem neighboursLost_seen {gone : List Entry} (h : gone ≠ []) (s : State) :
    .neighbourLost ∈ (gone.foldl (fun s e => detect .neighbourLost (.station e.station) s) s).faults.seen := by
  cases gone with
  | nil => exact absurd rfl h
  | cons e rest =>
    refine (neighboursLost_work rest _).seen _ ?_
    have hd := detect_maskable (k := .neighbourLost) (.station e.station) s rfl (by decide) (by decide)
    simp only [hd]
    split_ifs <;> exact mem_insertKind.mpr (.inl rfl)

/-- A tick's counts as the ageing's work on the aged entries, with the other counts beside it. -/
theorem tickCounts_field (s : State) (c : ChannelName) :
    (tickCounts s).port = s.port ∧ (tickCounts s).contacts = s.contacts ∧
    (tickCounts s).seq.config = s.seq.config ∧ (tickCounts s).faults.mask = s.faults.mask ∧
    (tickCounts s).line = s.line ∧ ((tickCounts s).chan c).reading = (s.chan c).reading := by
  have hage : Work (s.setEntries s.agedEntries) (ageEntries s) := by
    unfold ageEntries State.agedEntries
    split
    · exact .refl s
    · exact neighboursLost_work _ _
  unfold tickCounts
  rw [jobTick_shape]
  exact ⟨hage.port, hage.contacts, hage.config, hage.mask, hage.line, hage.sameField.reading c⟩

/-- What every tick leaves alone beside the table. -/
theorem noticeTick_field (s : State) (c : ChannelName) :
    (secure s (noticeTick s)).port = s.port ∧ (secure s (noticeTick s)).contacts = s.contacts ∧
    (secure s (noticeTick s)).seq.config = s.seq.config ∧ (secure s (noticeTick s)).faults.mask = s.faults.mask ∧
    (secure s (noticeTick s)).line.queue = s.line.queue ∧ (secure s (noticeTick s)).line.state = s.line.state ∧
    ((secure s (noticeTick s)).chan c).window = (s.chan c).window ∧
    ((secure s (noticeTick s)).chan c).voidRun = (s.chan c).voidRun := by
  obtain ⟨hport, hcontacts, hconfig, hmask, hline, hreading⟩ := tickCounts_field s c
  have hwork : Work (tickCounts s) (settle s (tickWork s.jobAdvances (tickCounts s))) :=
    (tickWork_carries _ _).work.trans (settle_work s _)
  have hnotice := requestNotice_withoutNotice (settle s (tickWork s.jobAdvances (tickCounts s)))
  have hfield : SameField (tickCounts s) (noticeTick s) ∧ (noticeTick s).contacts = (tickCounts s).contacts := by
    have h1 := hwork.sameField.trans (SameField.of_withoutNotice hnotice)
    have h2 := (congrArg State.contacts hnotice :).trans hwork.contacts
    unfold noticeTick
    dsimp only
    split
    · generalize requestNotice (settle s (tickWork s.jobAdvances (tickCounts s))) = t at h1 h2
      have hgate : Work t (settle t (groutGate reach t)) := (groutGate_work reach_work t).trans (settle_work t _)
      exact ⟨(h1.trans hgate.sameField).trans (.of_withoutNotice (prompt_withoutNotice t _)),
        (prompt_contacts t _).trans (hgate.contacts.trans h2)⟩
    · exact ⟨h1, h2⟩
  have h := hfield.1.trans (secure_sameField s (noticeTick s))
  have hr := (h.reading c).trans hreading
  exact ⟨h.port.trans hport, ((secure_contacts s _).trans hfield.2).trans hcontacts, h.config.trans hconfig,
    h.mask.trans hmask, h.lineQueue.trans (by rw [hline]), h.lineState.trans (by rw [hline]),
    (congrArg Prod.fst hr :), (congrArg (fun r => r.2.2) hr :)⟩

theorem noticeTick_entries (s : State) : (secure s (noticeTick s)).table.entries = s.agedEntries := by
  obtain ⟨hentries, -⟩ := tickCounts_fields s
  exact (noticeTick_sameClocks s).entries.trans hentries

/-- A kind that the tick's ageing has seen stays seen. -/
theorem noticeTick_seen {s : State} {k : FaultKind} (h : k ∈ (tickCounts s).faults.seen) :
    k ∈ (secure s (noticeTick s)).faults.seen := by
  have hwork : Work (tickCounts s) (settle s (tickWork s.jobAdvances (tickCounts s))) :=
    (tickWork_carries _ _).work.trans (settle_work s _)
  have hnotice : (requestNotice (settle s (tickWork s.jobAdvances (tickCounts s)))).faults =
      (settle s (tickWork s.jobAdvances (tickCounts s))).faults :=
    (congrArg State.faults (requestNotice_withoutNotice _) :)
  have hseen := hwork.seen k h
  rw [← hnotice] at hseen
  rw [secure_faults]
  unfold noticeTick
  dsimp only
  split
  · rw [prompt_faults]
    exact ((groutGate_work reach_work _).trans (settle_work _ _)).seen k hseen
  · exact hseen

/-- With no stage active the tick has no work (R79, R83). -/
theorem workOfTick_stageless {s : State} (hs : s.seq.stage = .none) (advanced : Bool) :
    workOfTick advanced s = s := by
  have hstress : ∀ p, s.stressing p = false := fun p => by simp [State.stressing, hs]
  have hgrout : s.grouting = false := by simp [State.grouting, hs]
  have hclaim : claimPart s = s := by simp [claimPart, State.claimAtLimit, State.restOver, hs]
  have hraise : raisePart s = s := by simp [raisePart, hstress]
  have hgate : groutPart s = s := by simp [groutPart, State.groutIntentOver, hgrout, groutGate_other hgrout]
  have hwork : gateWork s = s := by rw [gateWork, hclaim, hraise, hgate]
  simp [workOfTick, State.timeoutDue, hstress, hwork, stageClocks, hs]

/-- The tick of a station with no stage: the table aged, the cure clock counted, and one notice (R79, R83). -/
theorem noticeTick_stageless {s : State} (hs : s.seq.stage = .none) (hj : s.jack.phase = .none)
    (hg : s.grout.phase = .none) (hc : s.grout.claim = none) (hb : s.boundaryClear = true)
    (hl : s.drivesLegal = true) :
    secure s (noticeTick s) =
      requestNotice
        { s with
          table := { s.table with entries := s.agedEntries }
          seq := { s.seq with cure := s.seq.cure.tick } } := by
  have hadv : s.jobAdvances = false := by simp [State.jobAdvances, State.stageActive, hs]
  have hcount : tickCounts s =
      { s with
        table := { s.table with entries := s.agedEntries }
        seq := { s.seq with cure := s.seq.cure.tick } } := by
    have hidle := countTicks_idle (s := cureTick (s.setEntries s.agedEntries)) hj hg hc
    unfold tickCounts
    rw [ageEntries_clear (State.boundaryClear_iff.mp hb).2]
    refine (congrArg jobTick hidle).trans ?_
    simp [jobTick, State.stageActive, hs, cureTick]
  have hlegal : (tickCounts s).drivesLegal = true := by rw [hcount]; exact hl
  have hwork : tickWork false (tickCounts s) = tickCounts s := by
    unfold tickWork
    rw [if_pos (by decide), workOfTick_stageless (by rw [hcount]; exact hs)]
  have htick : noticeTick s = requestNotice (tickCounts s) := by
    unfold noticeTick
    rw [hadv, hwork, settle_same hlegal (by rw [hcount]) (by rw [hcount]), if_neg (by rw [hg]; decide)]
  have hn := requestNotice_withoutNotice (tickCounts s)
  rw [htick, ← hcount]
  exact secure_of_legal ((congrArg State.drivesLegal hn :).trans hlegal)
    ((congrArg State.pending hn :).trans (by rw [hcount]; rfl))

/-! ## Entries that lapse and leave (R79) -/

theorem agedEntries_up {s : State} (h : s.line.state ≠ .broken) :
    s.agedEntries = (s.table.entries.map Entry.older).filter fun e => decide (e.age < 10) := by
  simp [State.agedEntries, h]

theorem entryAt_mem {s : State} {e : Entry} (he : e ∈ s.table.entries) (h : s.line.state ≠ .broken) :
    entryAt e.station e.age s = true := by
  simp only [entryAt, Bool.and_eq_true, bne_iff_ne, ne_eq, List.any_eq_true, beq_iff_eq]
  exact ⟨h, e, he, rfl, rfl⟩

/-- The entry that ages to 3 is LAPSED and stays (R79). -/
theorem older_mem_of_lapsing {s : State} {e : Entry} (he : e ∈ s.table.entries) (ha : e.age = 2)
    (h : s.line.state ≠ .broken) : { e with age := 3, lapsed := true } ∈ s.agedEntries := by
  rw [agedEntries_up h]
  refine List.mem_filter.mpr ⟨List.mem_map.mpr ⟨e, he, ?_⟩, rfl⟩
  simp [Entry.older, ha]

/-- Rising neighbours rise throughout, so no station number stands twice (R74). -/
theorem stations_nodup {es : List Entry} (h : risingStations es = true) :
    (es.map Entry.station).Nodup ∧ ∀ a ∈ es.head?, ∀ b ∈ es, a.station ≤ b.station := by
  induction es with
  | nil => simp
  | cons a rest ih =>
    cases rest with
    | nil => simp
    | cons b more =>
      simp only [risingStations, Bool.and_eq_true, decide_eq_true_eq] at h
      obtain ⟨hnodup, hleast⟩ := ih h.2
      have hlt : ∀ x ∈ b :: more, a.station < x.station := fun x hx =>
        Nat.lt_of_lt_of_le h.1 (hleast b rfl x hx)
      refine ⟨List.nodup_cons.mpr ⟨fun hm => ?_, hnodup⟩, fun c hc x hx => ?_⟩
      · obtain ⟨x, hx, he⟩ := List.mem_map.mp hm
        exact absurd he (Nat.ne_of_gt (hlt x hx))
      · obtain rfl : a = c := Option.some.inj hc
        rcases List.mem_cons.mp hx with rfl | hx
        · exact Nat.le_refl _
        · exact Nat.le_of_lt (hlt x hx)

/-- In a sound table no two entries have one station number (R74). -/
theorem entry_eq_of_station {s : State} (h : s.tableSound = true) {e x : Entry} (he : e ∈ s.table.entries)
    (hx : x ∈ s.table.entries) (hst : x.station = e.station) : x = e := by
  simp only [State.tableSound, Bool.and_eq_true] at h
  exact List.inj_on_of_nodup_map (stations_nodup h.1.2).1 hx he hst

/-- The entry that ages to 10 leaves, and NEIGHBOUR_LOST is detected where it was in span (R79). -/
theorem tick_removes {s : State} {e : Entry} (he : e ∈ s.table.entries) (ha : e.age = 9)
    (h : s.line.state ≠ .broken) :
    (s.tableSound = true → findEntry e.station s.agedEntries = none) ∧
    (s.inSpan e = true → .neighbourLost ∈ (tickCounts s).faults.seen) := by
  refine ⟨fun hsound => ?_, fun hspan => ?_⟩
  · refine List.find?_eq_none.mpr fun y hy hst => ?_
    rw [agedEntries_up h] at hy
    obtain ⟨hy, hage⟩ := List.mem_filter.mp hy
    obtain ⟨x, hx, rfl⟩ := List.mem_map.mp hy
    have heq : x = e := entry_eq_of_station hsound he hx (by simpa [Entry.older] using hst)
    simp [Entry.older, heq, ha] at hage
  · have hgone : (s.table.entries.map Entry.older).filter (fun e => decide (10 ≤ e.age) && s.inSpan e) ≠ [] := by
      refine List.ne_nil_of_mem (a := e.older) (List.mem_filter.mpr ⟨List.mem_map_of_mem he, ?_⟩)
      have hnear : s.inSpan e.older = s.inSpan e := rfl
      rw [hnear, hspan, Entry.older, ha]
      rfl
    have hseen : .neighbourLost ∈ (ageEntries s).faults.seen := by
      unfold ageEntries
      rw [if_neg h]
      exact neighboursLost_seen hgone _
    unfold tickCounts
    rw [jobTick_shape]
    exact hseen

/-- Settles O41: what every tick leaves alone, the station with no stage, and the entries that lapse and leave. -/
theorem ticksAgeTheNeighbours : Obligations.TicksAgeTheNeighbours := by
  intro c e s hl
  have hentries := noticeTick_entries s
  refine ⟨⟨_, rfl, hentries, noticeTick_field s c⟩, fun hs hj hg hc hb => ?_, fun he ha h => ?_, fun he ha h hsound => ?_⟩
  · exact congrArg Host.Outcome.next (noticeTick_stageless hs hj hg hc hb hl)
  · have hdue := entryAt_mem he h
    rw [ha] at hdue
    exact ⟨_, tick_due s hdue, hentries, by rw [hentries]; exact older_mem_of_lapsing he ha h⟩
  · have hdue := entryAt_mem he h
    rw [ha] at hdue
    obtain ⟨hgone, hlost⟩ := tick_removes he ha h
    exact ⟨_, tick_due s hdue, hentries, by rw [hentries]; exact hgone hsound, fun hn => noticeTick_seen (hlost hn)⟩

end Sys2Proof.Machine
end

section
/-!
PROOF. The tick at the raise gate, and the gate timeout in RAISE_WAIT.
-/
namespace Sys2Proof.Machine

/-! ## The state at which the tick's work acts -/

/-- The station `v` has the counts of a tick of `s`, which finds nothing pending and no entry at its end. -/
structure AtTick (s v : State) : Prop where
  counted : v.worked = (tickCounts s).worked
  clear : s.boundaryClear = true

section
variable {s v : State} (h : AtTick s v)
include h

theorem AtTick.stage : v.seq.stage = s.seq.stage := by
  rw [worked_seq h.counted, (tickCounts_counted h.clear).stage]
theorem AtTick.run : v.seq.runState = s.seq.runState := by
  rw [worked_seq h.counted, (tickCounts_counted h.clear).run]
theorem AtTick.held : v.seq.held = s.seq.held := by
  rw [worked_seq h.counted, (tickCounts_counted h.clear).held]
theorem AtTick.cfg {α : Type} (f : Setup → α) (d : α) : v.cfg f d = s.cfg f d := by
  rw [← (tickCounts_counted h.clear).cfg, State.cfg, State.cfg, worked_seq h.counted]
theorem AtTick.jack : v.jack = s.jack := (worked_jack h.counted).trans (tickCounts_counted h.clear).jack
theorem AtTick.drives : v.drives = s.drives := (worked_drives h.counted).trans (tickCounts_counted h.clear).drives
theorem AtTick.eval : v.eval = s.eval := (worked_eval h.counted).trans (tickCounts_counted h.clear).eval
theorem AtTick.faults : v.faults = s.faults := (worked_faults h.counted).trans (tickCounts_counted h.clear).faults
theorem AtTick.pending : v.faults.pending = [] := by
  rw [h.faults]; exact (State.boundaryClear_iff.mp h.clear).1
theorem AtTick.drainOpen : v.chans.drainOpen = s.chans.drainOpen := by
  rw [worked_drainOpen h.counted, (tickCounts_counted h.clear).chans]
theorem AtTick.filtered (c : ChannelName) : v.filtered c = s.filtered c :=
  (worked_filtered h.counted c).trans ((tickCounts_counted h.clear).filtered c)
theorem AtTick.stressing (p : StepPhase) : v.stressing p = s.stressing p := by
  simp only [State.stressing, h.stage, h.run, h.jack]
theorem AtTick.stepTarget : v.stepTarget = s.stepTarget := by
  simp only [State.stepTarget, State.currentStep, h.jack]
theorem AtTick.gateTimer : v.table.gateTimer = s.table.gateTimer :=
  (worked_gateTimer h.counted).trans (tickCounts_counted h.clear).gateTimer
theorem AtTick.raiseTicks :
    v.table.raiseTicks = if s.jack.phase = .raiseIntent then min (s.table.raiseTicks + 1) 2 else s.table.raiseTicks :=
  (worked_raiseTicks h.counted).trans (tickCounts_counted h.clear).raiseTicks
theorem AtTick.grout :
    v.grout =
      { s.grout with
        intentTicks := if s.grout.phase = .intent then min (s.grout.intentTicks + 1) 2 else s.grout.intentTicks
        claim := s.grout.claim.map fun c => { c with ticks := c.ticks + 1 }
        restTicks := if s.grout.phase = .rest then min (s.grout.restTicks + 1) restLength else s.grout.restTicks } :=
  (worked_grout h.counted).trans (tickCounts_counted h.clear).grout
theorem AtTick.watchQuiet : v.watchQuiet = s.watchQuiet :=
  (worked_watchQuiet h.counted).trans (tickCounts_counted h.clear).watchQuiet
theorem AtTick.timeoutDue :
    v.timeoutDue = ((s.stressing .raiseWait || s.stressing .raiseIntent) &&
      decide (s.table.gateTimer + 1 = s.cfg Setup.gateTimeout 0 * 60)) := by
  rw [State.timeoutDue, h.stressing, h.stressing, h.gateTimer, h.cfg]

end

theorem tickCounts_atTick {s : State} (h : s.boundaryClear = true) : AtTick s (tickCounts s) := ⟨rfl, h⟩

/-! ## The gates beside a STRESS stage (R85, R94, R97) -/

theorem claimPart_other {s : State} (h : s.seq.stage ≠ .grout) : claimPart s = s := by
  simp [claimPart, State.claimAtLimit, State.restOver, h]

theorem groutPart_other {s : State} (h : s.grouting = false) : groutPart s = s := by
  simp [groutPart, State.groutIntentOver, h, groutGate_other h]

theorem grouting_of_stage {s : State} (h : s.seq.stage ≠ .grout) : s.grouting = false := by
  simp [State.grouting, h]

/-- With no intent under way and the conditions failing, the gates do nothing in a STRESS stage. -/
theorem gateWork_idle {v : State} (hs : v.seq.stage = .stress) (hi : v.stressing .raiseIntent = false)
    (hc : v.stressing .raiseWait = true → v.raiseConditions = false) : gateWork v = v := by
  have hne : v.seq.stage ≠ .grout := by rw [hs]; decide
  have hraise : raisePart v = v := by
    unfold raisePart
    split
    · exact raiseGate_shut (hc ‹_›)
    · simp [hi]
  rw [gateWork, claimPart_other hne, hraise, groutPart_other (grouting_of_stage hne)]

/-! ## The gate timeout (R92) -/

/-- The gate timer one second on (R92). -/
def timerOn (s : State) : State := { s with table := { s.table with gateTimer := s.table.gateTimer + 1 } }

section
variable {v : State} (hdue : v.table.gateTimer + 1 = v.cfg Setup.gateTimeout 0 * 60)
include hdue

/-- The timeout of a wait, masked: it is seen, and the wait goes on (R92). -/
theorem gateClock_masked (hm : v.masked .gateTimeout = true) : gateClock v = seeKind .gateTimeout (timerOn v) := by
  have hd := detect_maskable (k := .gateTimeout) .none (timerOn v) rfl (by decide) (by decide)
  have hm' : (timerOn v).masked .gateTimeout = true := hm
  have hclock : gateClock v = detect .gateTimeout .none (timerOn v) := by
    have hlimit : ({ v with table := { v.table with gateTimer := v.table.gateTimer + 1 } } : State).masked
        .gateTimeout = true := hm
    unfold gateClock
    simp only [← hdue, Nat.lt_succ_self, if_true, hlimit]
    rfl
  rw [hclock, hd, if_neg (by simp [hm'])]

/-- The timeout of a wait, unmasked: the wait's end is reached with the kind pending (R92). -/
theorem gateClock_unmasked (hs : v.seq.stage = .stress) (hp : v.jack.phase = .raiseWait)
    (hm : v.masked .gateTimeout = false) :
    gateClock v = reach .gateTimeout (pendKind .gateTimeout .none (seeKind .gateTimeout (timerOn v))) := by
  have hd := detect_maskable (k := .gateTimeout) .none (timerOn v) rfl (by decide) (by decide)
  have hm' : (timerOn v).masked .gateTimeout = false := hm
  have hactive : (timerOn v).stageActive = true := by simp [State.stageActive, timerOn, hs]
  rw [if_pos ⟨hm', hactive⟩] at hd
  have hphase : setStepPhase .raiseWait (detect .gateTimeout .none (timerOn v)) =
      detect .gateTimeout .none (timerOn v) := by
    rw [hd]; exact if_pos hp
  have hclock : gateClock v = reach .gateTimeout (setStepPhase .raiseWait (detect .gateTimeout .none (timerOn v))) := by
    have hlimit : ({ v with table := { v.table with gateTimer := v.table.gateTimer + 1 } } : State).masked
        .gateTimeout = false := hm
    unfold gateClock
    simp only [← hdue, Nat.lt_succ_self, if_true, hlimit, Bool.false_eq_true, if_false]
    rfl
  rw [hclock, hphase, hd]

end

/-- Where the gate's conditions fail and stay failed, the timeout in RAISE_WAIT is all the work of its tick. -/
theorem workOfTick_timeout {v : State} (hp : v.stressing .raiseWait = true) (hd : v.timeoutDue = true)
    (hc : v.raiseConditions = false) (hidle : gateWork (gateClock v) = gateClock v) :
    workOfTick true v = gateClock v := by
  obtain ⟨hs, -, hphase⟩ := State.stressing_iff.mp hp
  have hgate : gateWork v = v := gateWork_idle hs (by simp [State.stressing, hphase]) fun _ => hc
  have htime : timeoutPart v = gateClock v := by simp [timeoutPart, hp]
  unfold workOfTick
  rw [if_pos rfl, if_pos hd, eitherOrder_eq (by rw [htime, hgate, hidle, htime]), htime, hidle]

/-! ## A STRESS stage that a fault has stopped (R50, R170) -/

/-- A kind taken outside RAISE_INTENT leaves the phase (R50). -/
theorem takeFault_stress {k : FaultKind} (d : Detail) {s : State} (hs : s.seq.stage = .stress)
    (hp : s.jack.phase ≠ .raiseIntent) :
    (takeFault k d s).jack = { s.jack with topUp := false } ∧ (takeFault k d s).table = s.table := by
  have hlog : (logTaken k s).jack = s.jack ∧ (logTaken k s).table = s.table := by
    unfold logTaken; split <;> simp
  have hstage : (logTaken k s).seq.stage = .stress := by rw [logTaken_seq, hs]
  have hstop : (stopWork (logTaken k s)).jack = { (logTaken k s).jack with topUp := false } ∧
      (stopWork (logTaken k s)).table = (logTaken k s).table := by
    unfold stopWork
    rw [hstage]
    dsimp only
    rw [if_neg (by rw [hlog.1]; exact hp)]
    exact ⟨rfl, rfl⟩
  exact ⟨hstop.1.trans (by rw [hlog.1]), hstop.2.trans hlog.2⟩

/-- From `w` to `t`, FAULTED with a kind taken, kinds have been detected that leave the work as it was stopped. -/
structure StaysFaulted (w t : State) : Prop where
  seq : t.seq = w.seq
  jack : t.jack = w.jack
  table : t.table = w.table
  pending : t.faults.pending = w.faults.pending
  seen : ∀ k, k ∈ w.faults.seen → k ∈ t.faults.seen
  taken : t.faults.taken.isSome = true

theorem StaysFaulted.trans {u v w : State} (h : StaysFaulted u v) (k : StaysFaulted v w) : StaysFaulted u w :=
  ⟨k.seq.trans h.seq, k.jack.trans h.jack, k.table.trans h.table, k.pending.trans h.pending,
    fun x hx => k.seen x (h.seen x hx), k.taken⟩

theorem StaysFaulted.enforceDrives {w : State} (h : w.faults.taken.isSome = true) : StaysFaulted w (enforceDrives w) :=
  ⟨by simp, by simp, by simp, by simp, fun _ hk => by simpa using hk, by simpa using h⟩

theorem StaysFaulted.detect {k : FaultKind} (d : Detail) {w : State} (hs : w.seq.stage ≠ .none)
    (hr : w.seq.runState = .faulted) (ht : w.faults.taken.isSome = true) (hm : k.maskable = false) (hk : k ≠ .wallStop) :
    StaysFaulted w (detect k d w) := by
  have hseen : ∀ j, j ∈ w.faults.seen → j ∈ (seeKind k w).faults.seen := fun _ hj => mem_insertKind.mpr (.inr hj)
  obtain ⟨f, hf⟩ := Option.isSome_iff_exists.mp ht
  rw [detect_atOnce d hs hm hk]
  have htake : takeAtOnce k d (seeKind k w) =
      if k.priority < f.kind.priority then replaceTaken k d (seeKind k w) else seeKind k w := by
    simp [takeAtOnce, hr, hf]
  rw [htake]
  split
  · have hlog : (logTaken k (seeKind k w)).jack = w.jack ∧ (logTaken k (seeKind k w)).table = w.table := by
      unfold logTaken; split <;> simp
    simp only [replaceTaken, hk, if_false]
    exact ⟨by simp [writeTaken], hlog.1, hlog.2, by simp [writeTaken], by simpa [writeTaken] using hseen, rfl⟩
  · exact ⟨rfl, rfl, rfl, rfl, hseen, ht⟩

/-- The close of an event on a station that a fault has stopped: an overload or a stroke may replace the taken kind, the rest
of the work stays (R53, R137, R138, R170). -/
theorem settle_staysFaulted {s w : State} (hs : w.seq.stage ≠ .none) (hr : w.seq.runState = .faulted)
    (ht : w.faults.taken.isSome = true) :
    StaysFaulted w (settle s w) ∧ (w.watchQuiet = true → (settle s w).faults.taken = w.faults.taken) := by
  have detected : ∀ {asked k u}, StaysFaulted w u → k.maskable = false → k ≠ .wallStop →
      StaysFaulted w (detectIf asked k .none u) := fun hu hm hk =>
    detectIf_elim (fun _ => hu) fun _ =>
      hu.trans (.detect .none (by rw [hu.seq]; exact hs) (by rw [hu.seq]; exact hr) hu.taken hm hk)
  have hput := StaysFaulted.enforceDrives ht
  have hwatch : StaysFaulted w (watchDecisions (Machine.enforceDrives w)) :=
    eitherOrder_elim (p := StaysFaulted w) (detected (detected hput rfl (by decide)) rfl (by decide))
      (detected (detected hput rfl (by decide)) rfl (by decide)) fun _ _ h => ⟨h.1, h.2, h.3, h.4, h.5, h.6⟩
  refine ⟨settle_elim hput (hwatch.trans (.enforceDrives hwatch.taken)), fun hq => ?_⟩
  have hquiet : watchDecisions (Machine.enforceDrives w) = Machine.enforceDrives w :=
    watchDecisions_quiet ((enforceDrives_work w).sameField.watchQuiet.trans hq)
  refine settle_elim (p := fun t => t.faults.taken = w.faults.taken) (by simp) ?_
  rw [hquiet]
  simp

/-! ## GATE_TIMEOUT in RAISE_WAIT (R92) -/

/-- From `s` to `t` the wait goes on, with the gate timer one second on and its timeout seen (R92). -/
structure WaitsOn (s t : State) : Prop where
  run : t.seq.runState = .running
  stage : t.seq.stage = .stress
  held : t.seq.held = s.seq.held
  jack : t.jack = s.jack
  drives : t.drives = s.drives
  timer : t.table.gateTimer = s.table.gateTimer + 1
  seen : .gateTimeout ∈ t.faults.seen
  pending : t.faults.pending = []
  taken : t.faults.taken = s.faults.taken

theorem WaitsOn.congr {s t v : State} (h : t.worked = v.worked) (k : WaitsOn s v) : WaitsOn s t :=
  ⟨by rw [worked_seq h, k.run], by rw [worked_seq h, k.stage], by rw [worked_seq h, k.held], by rw [worked_jack h, k.jack],
    by rw [worked_drives h, k.drives], by rw [worked_gateTimer h, k.timer], by rw [worked_faults h]; exact k.seen,
    by rw [worked_faults h, k.pending], by rw [worked_faults h, k.taken]⟩

/-- From `s` to `w` the gate timeout has been taken, with the wait's end held (R92). -/
structure WaitEnded (s w : State) : Prop where
  run : w.seq.runState = .faulted
  stage : w.seq.stage = .stress
  held : w.seq.held = some .gateTimeout
  jack : w.jack = { s.jack with topUp := false }
  timer : w.table.gateTimer = s.table.gateTimer + 1
  seen : .gateTimeout ∈ w.faults.seen
  pending : w.faults.pending = []
  taken : w.faults.taken.map TakenFault.kind = some .gateTimeout
  quiet : w.watchQuiet = s.watchQuiet

theorem WaitEnded.congr {s t v : State} (h : t.worked = v.worked) (k : WaitEnded s v) : WaitEnded s t :=
  ⟨by rw [worked_seq h, k.run], by rw [worked_seq h, k.stage], by rw [worked_seq h, k.held], by rw [worked_jack h, k.jack],
    by rw [worked_gateTimer h, k.timer], by rw [worked_faults h]; exact k.seen, by rw [worked_faults h, k.pending],
    by rw [worked_faults h, k.taken], by rw [worked_watchQuiet h, k.quiet]⟩

section
variable {s : State} (hadv : s.jobAdvances = true) (hb : s.boundaryClear = true) (hp : s.stressing .raiseWait = true)
  (htimer : s.table.gateTimer + 1 = s.cfg Setup.gateTimeout 0 * 60)
include hadv hb hp htimer

theorem gateTimeout_due : exec .gateTimeout s = .next (secure s (noticeTick s)) := by
  refine tick_due s ?_
  rw [clocksAt, (tickCounts_atTick hb).timeoutDue]
  simp [hadv, hp, htimer]

variable (hc : (clocksAt s).raiseConditions = false)
include hc

theorem tick_timeout_masked (hl : s.drivesLegal = true) (hm : s.masked .gateTimeout = true) :
    WaitsOn s (secure s (noticeTick s)) := by
  obtain ⟨hs, hr, hphase⟩ := State.stressing_iff.mp hp
  refine noticeTick_elim WaitsOn.congr fun v hv => ?_
  have h : AtTick s v := ⟨hv, hb⟩
  have hclock : gateClock v = seeKind .gateTimeout (timerOn v) :=
    gateClock_masked (by rw [h.gateTimer, h.cfg]; exact htimer) (by rw [State.masked, h.faults]; exact hm)
  have hcond : v.raiseConditions = false := (worked_raiseConditions hv).trans hc
  have hstress : v.seq.stage = .stress := h.stage.trans hs
  have hidle : gateWork (gateClock v) = gateClock v := by
    rw [hclock]
    refine gateWork_idle hstress ?_ fun _ => hcond
    exact (h.stressing .raiseIntent).trans (by simp [State.stressing, hphase])
  have hwork : workOfTick s.jobAdvances v = seeKind .gateTimeout (timerOn v) := by
    rw [hadv, workOfTick_timeout ((h.stressing _).trans hp) (by rw [h.timeoutDue]; simp [hp, htimer]) hcond hidle,
      hclock]
  have hlegal : v.drivesLegal = true :=
    State.drivesLegal_of_off (h.drives.trans (State.drives_at_gate hl hs hr (.inr hphase)))
  rw [hwork]
  refine ⟨⟨hlegal, h.run, by rw [seeKind_drives]; exact congrArg Drives.lower h.drives, fun _ hg => ?_⟩,
    h.run.trans hr, hstress, h.held, h.jack, h.drives, congrArg (· + 1) h.gateTimer,
    mem_insertKind.mpr (.inl rfl), h.pending, (congrArg FaultUnit.taken h.faults :)⟩
  rw [State.grouting_iff] at hg
  exact absurd (hstress.symm.trans hg.1.1) (by decide)

theorem tickWork_timeout (hm : s.masked .gateTimeout = false) :
    WaitEnded s (tickWork s.jobAdvances (tickCounts s)) := by
  obtain ⟨hs, -, hphase⟩ := State.stressing_iff.mp hp
  refine tickWork_elim WaitEnded.congr fun v hv => ?_
  have h : AtTick s v := ⟨hv, hb⟩
  have hstress : v.seq.stage = .stress := h.stage.trans hs
  have hclock := gateClock_unmasked (v := v) (by rw [h.gateTimer, h.cfg]; exact htimer) hstress
    (by rw [h.jack]; exact hphase) (by rw [State.masked, h.faults]; exact hm)
  generalize hu : pendKind .gateTimeout .none (seeKind .gateTimeout (timerOn v)) = u at hclock
  have hup : u.faults.pending = [(.gateTimeout, .none)] := by
    have hpend : (timerOn v).faults.pending = [] := h.pending
    rw [← hu]; simp [hpend, insertPending]
  have huq : u.seq = v.seq := by rw [← hu]; rfl
  obtain ⟨tseq, tkind, -, tpend, tseen⟩ := reachWith_taken hup (by decide) (proceed chainBound) .gateTimeout
  have htake : reach .gateTimeout u = takeAtBoundary .gateTimeout .none .gateTimeout u := by
    unfold reach reachWith; rw [hup]
  obtain ⟨tjack, ttable⟩ := takeFault_stress (k := .gateTimeout) .none
    (s := { u with faults := { u.faults with pending := [] } }) (by rw [← hu]; exact hstress)
    (by rw [← hu]; simp [timerOn, h.jack, hphase])
  have hfield : SameField v (gateClock v) := (gateClock_work (by rw [hstress]; decide)).sameField
  have hidle : gateWork (gateClock v) = gateClock v := by
    rw [hclock]
    refine gateWork_idle ?_ ?_ ?_ <;> simp [reach, tseq, State.stressing, huq, hstress]
  have hwork : workOfTick s.jobAdvances v = gateClock v := by
    rw [hadv, workOfTick_timeout ((h.stressing _).trans hp) (by rw [h.timeoutDue]; simp [hp, htimer])
      ((worked_raiseConditions hv).trans hc) hidle]
  rw [hwork]
  refine ⟨?_, ?_, ?_, ?_, ?_, ?_, ?_, ?_, hfield.watchQuiet.trans h.watchQuiet⟩ <;> rw [hclock]
  · exact (congrArg Sequencer.runState tseq :)
  · exact (congrArg Sequencer.stage tseq :).trans (by rw [huq, hstress])
  · exact (congrArg Sequencer.held tseq :)
  · rw [htake, ← h.jack]
    exact tjack.trans (by rw [← hu]; rfl)
  · rw [htake, ← h.gateTimer]
    exact (congrArg Table.gateTimer ttable).trans (by rw [← hu]; rfl)
  · refine tseen ▸ ?_
    rw [← hu]
    exact mem_insertKind.mpr (.inl rfl)
  · exact tpend
  · exact tkind

theorem tick_timeout_unmasked (hm : s.masked .gateTimeout = false) {t : State} (ht : secure s (noticeTick s) = t) :
    t.seq.runState = .faulted ∧ t.seq.stage = .stress ∧ t.seq.held = some .gateTimeout ∧
    t.jack = { s.jack with topUp := false } ∧ t.drives = .off ∧ t.table.gateTimer = s.table.gateTimer + 1 ∧
    .gateTimeout ∈ t.faults.seen ∧ t.faults.pending = [] ∧
    (s.watchQuiet = true → t.faults.taken.map TakenFault.kind = some .gateTimeout) := by
  have w := tickWork_timeout hadv hb hp htimer hc hm
  generalize hwork : tickWork s.jobAdvances (tickCounts s) = v at w
  have htaken : v.faults.taken.isSome = true := by
    obtain ⟨f, hf, -⟩ := Option.map_eq_some_iff.mp w.taken
    rw [hf]; rfl
  obtain ⟨k, kquiet⟩ := settle_staysFaulted (s := s) (by rw [w.stage]; decide) w.run htaken
  have hw := noticeTick_worked hwork fun _ hg => by
    rw [State.grouting_iff, k.seq, w.stage] at hg
    exact absurd hg.1.1 (by decide)
  rw [ht] at hw
  have hrun : t.seq.runState = .faulted := by rw [worked_seq hw, k.seq, w.run]
  have hlegal : t.drivesLegal = true := (worked_legal hw).trans (settle_legal _ _)
  refine ⟨hrun, ?_, ?_, ?_, State.drives_off hlegal (by simp [hrun]) (by simp [hrun]) (by simp [hrun]), ?_, ?_, ?_,
    fun hq => ?_⟩
  · rw [worked_seq hw, k.seq, w.stage]
  · rw [worked_seq hw, k.seq, w.held]
  · rw [worked_jack hw, k.jack, w.jack]
  · rw [worked_gateTimer hw, k.table, w.timer]
  · rw [worked_faults hw]; exact k.seen _ w.seen
  · rw [worked_faults hw, k.pending, w.pending]
  · rw [worked_faults hw, kquiet (w.quiet.trans hq), w.taken]

end

/-- Settles O45: the timeout is all the work of its tick, taken at the wait's end or seen. -/
theorem gateTimeoutEndsTheWait : Obligations.GateTimeoutEndsTheWait := by
  intro s hl hadv hb hp htimer hc
  have hexec := gateTimeout_due hadv hb hp htimer
  refine ⟨fun hm => ⟨_, hexec, tick_timeout_unmasked hadv hb hp htimer hc hm rfl⟩,
    fun hm => ?_⟩
  have w := tick_timeout_masked hadv hb hp htimer hc hl hm
  exact ⟨_, hexec, w.run, w.stage, w.held, w.jack, w.drives, w.timer, w.seen, w.pending, w.taken⟩

end Sys2Proof.Machine
end

section
/-!
PROOF. The end of the raise intent interval: into RAMP_UP, or back into RAISE_WAIT.
-/
namespace Sys2Proof.Machine

/-! ## The tick in RAISE_INTENT (R86, R88, R92) -/

/-- The gate timer set to `n` (R92). -/
def withTimer (n : Nat) (s : State) : State := { s with table := { s.table with gateTimer := n } }

/-- Short of the gate timeout the gate clock counts, or stands at its end (R92). -/
theorem gateClock_counts {v : State} (h : v.table.gateTimer + 1 ≠ v.cfg Setup.gateTimeout 0 * 60) :
    ∃ n, gateClock v = withTimer n v := by
  by_cases hlt : v.table.gateTimer < v.cfg Setup.gateTimeout 0 * 60
  · exact ⟨v.table.gateTimer + 1, by simp only [gateClock, if_pos hlt, if_neg h]; rfl⟩
  · exact ⟨v.table.gateTimer, by simp only [gateClock, if_neg hlt]; rfl⟩

section
variable {v : State} (hp : v.stressing .raiseIntent = true)
include hp

theorem stageClocks_intent : stageClocks v = gateClock v := by
  obtain ⟨hs, hr, hphase⟩ := State.stressing_iff.mp hp
  simp [stageClocks, hs, hr, hphase]

/-- With no gate timeout on the tick, its clocks move the gate timer at most. -/
theorem workOfTick_intent {advanced : Bool}
    (hd : advanced = false ∨ v.table.gateTimer + 1 ≠ v.cfg Setup.gateTimeout 0 * 60) :
    ∃ n, workOfTick advanced v = gateWork (withTimer n v) := by
  cases advanced with
  | false => exact ⟨v.table.gateTimer, rfl⟩
  | true =>
    have hd' := hd.resolve_left (by decide)
    obtain ⟨n, hn⟩ := gateClock_counts hd'
    refine ⟨n, ?_⟩
    simp [workOfTick, State.timeoutDue, hd', stageClocks_intent hp, hn]

/-- The gates at the tick that ends the interval (R88). -/
theorem gateWork_intentEnd (ht : 2 ≤ v.table.raiseTicks) :
    gateWork v = groutPart (if v.raiseConditionsAtEnd = true then reach .raiseIntentEnd v else withdraw reach v) := by
  obtain ⟨hs, -, hphase⟩ := State.stressing_iff.mp hp
  have hwait : v.stressing .raiseWait = false := by simp [State.stressing, hphase]
  rw [gateWork, claimPart_other (by rw [hs]; decide), raisePart, hwait, if_neg (by decide), if_pos hp, if_pos ht]

end

/-! ## Into RAMP_UP (R88, R126) -/

/-- A load below the target's band is short of it (R126). -/
theorem loadAgainst_below {s : State} {l : Nat} (hf : s.filtered .load = some l)
    (h : l + s.cfg Setup.loadTolerance 0 < s.stepTarget) : s.loadAgainst s.stepTarget = .below := by
  simp only [State.loadAgainst, compareNat, hf, Option.map_some, compare_below_iff, Int.ofNat_eq_natCast]
  omega

/-- From `s` to `t` the intent has passed into RAMP_UP from load `l`, the raise valve open (R88, R126). -/
structure RampBegun (l : Nat) (s t : State) : Prop where
  seq : t.seq = { s.seq with held := none }
  jack : t.jack =
    { s.jack with phase := .rampUp, ramp := { startLoad := l, clock := 0, history := [], slow := false } }
  drives : t.drives = { s.drives with raise := true }
  faults : t.faults = s.faults
  eval : t.eval = s.eval

/-- The interval's end with the load short of the target: the ramp begins (R88, R126). -/
theorem reach_raiseIntentEnd {s : State} {l : Nat} (hp : s.stressing .raiseIntent = true)
    (hn : s.faults.pending = []) (hf : s.filtered .load = some l)
    (h : l + s.cfg Setup.loadTolerance 0 < s.stepTarget) : RampBegun l s (reach .raiseIntentEnd s) := by
  obtain ⟨hs, hr, -⟩ := State.stressing_iff.mp hp
  have hpass : reach .raiseIntentEnd s = enterRampUp (reachWith (proceed 31)) { s with seq := { s.seq with held := none } } := by
    rw [reach, reachWith_pass hn]
    rfl
  have hfield : SameField s (setStepPhase .rampUp { s with seq := { s.seq with held := none } }) :=
    SameField.trans (t := { s with seq := { s.seq with held := none } }) (.of_parts rfl rfl rfl rfl rfl rfl)
      (setStepPhase_work _ _).sameField
  generalize hu : setStepPhase .rampUp { s with seq := { s.seq with held := none } } = u at hfield
  have hparts : u.seq = { s.seq with held := none } ∧ u.jack = { s.jack with phase := .rampUp } ∧
      u.drives = s.drives ∧ u.faults = s.faults ∧ u.eval = s.eval := by
    rw [← hu]; simp
  obtain ⟨huq, huj, hud, huf, hue⟩ := hparts
  have hbelow : u.loadAgainst u.stepTarget = .below := by
    rw [loadAgainst_stepTarget hfield (by rw [huj]) (by rw [huj]), loadAgainst_below hf h]
  generalize hw : ({ u with
    jack :=
      { u.jack with
        ramp := { startLoad := (u.filtered .load).getD 0, clock := 0, history := [], slow := false } } } : State) = w
  have hwork : enterRampUp (reachWith (proceed 31)) { s with seq := { s.seq with held := none } } =
      rampStop (reachWith (proceed 31)) false w := by
    rw [← hw, ← hu]; rfl
  have hstress : w.stressing .rampUp = true := by
    rw [State.stressing_iff, ← hw]
    exact ⟨by rw [huq]; exact hs, by rw [huq]; exact hr, by simp [huj]⟩
  have hwbelow : w.loadAgainst w.stepTarget = .below := by rw [← hw]; exact hbelow
  have hstop : rampStop (reachWith (proceed 31)) false w = { w with drives := { w.drives with raise := true } } := by
    rw [rampStop, if_pos hstress, hwbelow]
    exact unaware_false _ _ w (by decide) rfl
  rw [hpass, hwork, hstop, ← hw]
  refine ⟨huq, ?_, ?_, huf, hue⟩
  · simp only [huj, hfield.filtered, hf, Option.getD_some]
  · simp only [hud]

/-! ## RAISE_INTENT_END (R88, R89) -/

section
variable {s : State} (hb : s.boundaryClear = true) (hp : s.stressing .raiseIntent = true)
  (ht : 1 ≤ s.table.raiseTicks)
  (hd : s.jobAdvances = false ∨ s.table.gateTimer + 1 ≠ s.cfg Setup.gateTimeout 0 * 60)
include hb hp ht hd

/-- What the tick's work comes to: the gates at the interval's end, on the counted state with its gate timer. -/
theorem workOfTick_intentEnd {v : State} (hv : v.worked = (tickCounts s).worked) :
    ∃ n, workOfTick s.jobAdvances v = groutPart
      (if (clocksAt s).raiseConditionsAtEnd = true then reach .raiseIntentEnd (withTimer n v)
       else withdraw reach (withTimer n v)) := by
  have h : AtTick s v := ⟨hv, hb⟩
  have hp' : v.stressing .raiseIntent = true := (h.stressing _).trans hp
  obtain ⟨-, -, hphase⟩ := State.stressing_iff.mp hp
  obtain ⟨n, hn⟩ := workOfTick_intent hp' (advanced := s.jobAdvances) (by rw [h.gateTimer, h.cfg]; exact hd)
  have hticks : 2 ≤ (withTimer n v).table.raiseTicks := by
    have := h.raiseTicks
    rw [if_pos hphase] at this
    exact this ▸ (by omega)
  have hend : (withTimer n v).raiseConditionsAtEnd = (clocksAt s).raiseConditionsAtEnd :=
    (worked_conditionsAtEnd hv :)
  refine ⟨n, ?_⟩
  rw [hn, gateWork_intentEnd (v := withTimer n v) hp' hticks, hend]

theorem raiseIntentEnd_due : exec .raiseIntentEnd s = .next (secure s (noticeTick s)) := by
  refine tick_due s ?_
  have h := tickCounts_atTick hb
  have hp' : (tickCounts s).stressing .raiseIntent = true := (h.stressing _).trans hp
  obtain ⟨hs, -, hphase⟩ := State.stressing_iff.mp hp
  have hticks : 2 ≤ (tickCounts s).table.raiseTicks := by
    rw [h.raiseTicks, if_pos hphase]; omega
  have hgates : ∃ n, gatesAt s = withTimer n (tickCounts s) := by
    unfold gatesAt
    split
    · rename_i hadv
      simp only [Bool.and_eq_true] at hadv
      rw [stageClocks_intent hp']
      refine gateClock_counts ?_
      rw [h.gateTimer, h.cfg]
      exact hd.resolve_left (by simp [hadv.1])
    · exact ⟨(tickCounts s).table.gateTimer, rfl⟩
  obtain ⟨n, hn⟩ := hgates
  have hstage : (withTimer n (tickCounts s)).seq.stage ≠ .grout := by
    have e : (withTimer n (tickCounts s)).seq.stage = .stress := h.stage.trans hs
    rw [e]; decide
  rw [hn, claimPart_other hstage]
  simp only [State.raiseIntentOver, Bool.and_eq_true, decide_eq_true_eq]
  exact ⟨hp', hticks⟩

variable (hl : s.drivesLegal = true)
include hl

theorem tick_rampBegins {l : Nat} (hc : (clocksAt s).raiseConditionsAtEnd = true) (hf : s.filtered .load = some l)
    (hlow : l + s.cfg Setup.loadTolerance 0 < s.stepTarget) {t : State} (hw : secure s (noticeTick s) = t) :
    t.seq.runState = .running ∧
    t.jack =
      { s.jack with
        phase := .rampUp, ramp := { startLoad := l, clock := 0, history := [], slow := false } } ∧
    t.drives = { Drives.off with raise := true } ∧ t.faults.pending = [] ∧ t.eval = s.eval := by
  obtain ⟨hs, hr, hphase⟩ := State.stressing_iff.mp hp
  have hoff : s.drives = .off := State.drives_at_gate hl hs hr (.inl hphase)
  rw [← hw]
  refine noticeTick_elim (p := fun t => t.seq.runState = .running ∧
    t.jack =
      { s.jack with
        phase := .rampUp, ramp := { startLoad := l, clock := 0, history := [], slow := false } } ∧
    t.drives = { Drives.off with raise := true } ∧ t.faults.pending = [] ∧ t.eval = s.eval) (fun h k => ?_)
    fun v hv => ?_
  · rwa [worked_seq h, worked_jack h, worked_drives h, worked_faults h, worked_eval h]
  · have h : AtTick s v := ⟨hv, hb⟩
    obtain ⟨n, hn⟩ := workOfTick_intentEnd hb hp ht hd hv
    rw [if_pos hc] at hn
    have k : RampBegun l (withTimer n v) (reach .raiseIntentEnd (withTimer n v)) :=
      reach_raiseIntentEnd ((h.stressing _).trans hp) h.pending ((h.filtered .load).trans hf)
        (lt_of_eq_of_lt (congrArg (l + ·) (h.cfg _ _)) (lt_of_lt_of_eq hlow h.stepTarget.symm))
    generalize reach .raiseIntentEnd (withTimer n v) = w at hn k
    have hws : w.seq.stage = .stress := by rw [k.seq]; exact h.stage.trans hs
    have hwr : w.seq.runState = .running := by rw [k.seq]; exact h.run.trans hr
    have hwd : w.drives = { Drives.off with raise := true } := by
      rw [k.drives]
      exact congrArg (fun d : Drives => { d with raise := true }) (h.drives.trans hoff)
    have hwj : w.jack =
        { s.jack with
          phase := .rampUp, ramp := { startLoad := l, clock := 0, history := [], slow := false } } :=
      k.jack.trans (congrArg (fun j : Jack => { j with
        phase := .rampUp, ramp := { startLoad := l, clock := 0, history := [], slow := false } }) h.jack)
    rw [hn, groutPart_other (grouting_of_stage (by rw [hws]; decide))]
    refine ⟨⟨?_, hwr.trans hr.symm, by rw [hwd, hoff], fun _ hg => ?_⟩, hwr, hwj, hwd, ?_, k.eval.trans h.eval⟩
    · simp [State.drivesLegal, State.raiseAllowed, hwd, hws, hwr, hwj, Drives.off]
    · rw [State.grouting_iff, hws] at hg
      exact absurd hg.1.1 (by decide)
    · rw [k.faults]; exact h.pending

theorem tick_withdraws (hc : (clocksAt s).raiseConditionsAtEnd = false) {t : State} (hw : secure s (noticeTick s) = t) :
    t.seq.runState = .running ∧ t.jack = { s.jack with phase := .raiseWait } ∧ t.drives = .off ∧
    t.faults.pending = [] ∧ t.eval = s.eval := by
  obtain ⟨hs, hr, hphase⟩ := State.stressing_iff.mp hp
  have hoff : s.drives = .off := State.drives_at_gate hl hs hr (.inl hphase)
  rw [← hw]
  refine noticeTick_elim (p := fun t => t.seq.runState = .running ∧ t.jack = { s.jack with phase := .raiseWait } ∧
    t.drives = .off ∧ t.faults.pending = [] ∧ t.eval = s.eval) (fun h k => ?_) fun v hv => ?_
  · rwa [worked_seq h, worked_jack h, worked_drives h, worked_faults h, worked_eval h]
  · have h : AtTick s v := ⟨hv, hb⟩
    obtain ⟨n, hn⟩ := workOfTick_intentEnd hb hp ht hd hv
    have hcond : (withTimer n v).raiseConditions = false :=
      raiseConditions_of_failed_atEnd ((worked_conditionsAtEnd hv :).trans hc)
    rw [if_neg (by simp [hc]), withdraw_eq (s := withTimer n v) h.pending hcond] at hn
    obtain ⟨k, kdrives, -⟩ := backInWait_withdrawn (withTimer n v)
    generalize backInWait (withTimer n v) = w at hn k kdrives
    have hws : w.seq.stage = .stress := by rw [k.seq]; exact h.stage.trans hs
    have hwr : w.seq.runState = .running := by rw [k.seq]; exact h.run.trans hr
    have hwd : w.drives = .off := kdrives.trans (h.drives.trans hoff)
    rw [hn, groutPart_other (grouting_of_stage (by rw [hws]; decide))]
    refine ⟨⟨State.drivesLegal_of_off hwd, hwr.trans hr.symm, by rw [hwd, hoff], fun _ hg => ?_⟩, hwr, ?_, hwd, ?_,
      k.eval.trans h.eval⟩
    · rw [State.grouting_iff, hws] at hg
      exact absurd hg.1.1 (by decide)
    · exact k.jack.trans (congrArg (fun j : Jack => { j with phase := .raiseWait }) h.jack)
    · rw [k.faults]; exact h.pending

end

/-- Settles O46: the interval's end passes into RAMP_UP by `reach_raiseIntentEnd`, or withdraws with the gate shut. -/
theorem raiseIntentEndsInRampUpOrWait : Obligations.RaiseIntentEndsInRampUpOrWait := by
  intro l s hl hb hp ht hd
  have hexec := raiseIntentEnd_due hb hp ht hd
  exact ⟨fun hc hf hlow => ⟨_, hexec, tick_rampBegins hb hp ht hd hl hc hf hlow rfl⟩,
    fun hc => ⟨_, hexec, tick_withdraws hb hp ht hd hl hc rfl⟩⟩

end Sys2Proof.Machine
end

section
/-!
PROOF. The tick in a GROUT stage: the counts of drawers, the ends of the intent interval, of a claim and of REST.
-/
namespace Sys2Proof.Machine

/-! ## Drawers (R94, R95) -/

section
variable {s : State} {g : Setup} (hc : s.seq.config = some g)
include hc

theorem isDrawer_iff (e : Entry) :
    s.isDrawer e = true ↔ e.main = g.main ∧ e.flags.groutDraw = true ∧ e.overstay = false := by
  simp [State.isDrawer, State.cfg_some hc, and_assoc]

theorem drawers_eq_countP :
    s.drawers = s.table.entries.countP fun y => y.main == g.main && y.flags.groutDraw && !y.overstay := by
  have hd : s.isDrawer = fun y => y.main == g.main && y.flags.groutDraw && !y.overstay :=
    funext fun y => by rw [State.isDrawer, State.cfg_some hc]
  rw [State.drawers, hd, List.countP_eq_length_filter]

/-- The total counts an entry on the own main once, as a drawer or as a pending station of a lower number (R95). -/
theorem groutTotal_eq_countP :
    s.groutTotal =
      s.table.entries.countP fun y =>
        y.main == g.main &&
          ((y.flags.groutDraw && !y.overstay) || (y.flags.groutPending && decide (y.station < g.station))) := by
  simp only [State.groutTotal, ← List.countP_eq_length_filter, State.isDrawer, State.cfg_some hc, Bool.and_or_distrib_left,
    Bool.and_assoc]

end

/-! ## The station as the claim sees it -/

/-- What intent, claim and REST show of a station: run state, stage and held boundary, the grout control but for its intent
ticks, the drives and the drain window. -/
structure ClaimView where
  run : RunState
  stage : Stage
  held : Option Boundary
  phase : GroutPhase
  claim : Option Claim
  restTicks : Nat
  record : Option GroutRecord
  drives : Drives
  drainOpen : Bool

def State.claimView (s : State) : ClaimView where
  run := s.seq.runState
  stage := s.seq.stage
  held := s.seq.held
  phase := s.grout.phase
  claim := s.grout.claim
  restTicks := s.grout.restTicks
  record := s.grout.record
  drives := s.drives
  drainOpen := s.chans.drainOpen

/-- A GROUT stage with every drive off, or drawing with the grout valve open (R53). -/
structure ClaimView.InRow (x : ClaimView) : Prop where
  stage : x.stage = .grout
  drives : x.drives = .off ∨
    x.drives = { Drives.off with grout := true } ∧ x.run = .running ∧ x.phase = .draw ∧ x.claim.isSome = true

theorem worked_claimView {s t : State} (h : t.worked = s.worked) : t.claimView = s.claimView :=
  (congrArg State.claimView h :)

theorem ClaimView.InRow.legal {s : State} (h : s.claimView.InRow) : s.drivesLegal = true := by
  have hs : s.seq.stage = .grout := h.stage
  have hd : s.drives = .off ∨ s.drives = { Drives.off with grout := true } ∧ s.seq.runState = .running ∧
      s.grout.phase = .draw ∧ s.grout.claim.isSome = true := h.drives
  rcases hd with hd | ⟨hd, hr, hp, hclaim⟩
  · exact State.drivesLegal_of_off hd
  · simp [State.drivesLegal, State.groutAllowed, hd, hs, hr, hp, hclaim, Drives.off]

theorem ClaimView.InRow.lower {s : State} (h : s.claimView.InRow) : s.drives.lower = false := by
  have hd : s.drives = .off ∨ s.drives = { Drives.off with grout := true } ∧ _ := h.drives
  rcases hd with hd | ⟨hd, -⟩ <;> rw [hd] <;> rfl

/-- In a GROUT stage only the grout valve can be open, and only in DRAW with a claim held (R53). -/
theorem claimView_inRow {s : State} (hl : s.drivesLegal = true) (hs : s.seq.stage = .grout) : s.claimView.InRow := by
  refine ⟨hs, ?_⟩
  have hd := State.drives_of_grout hl hs
  cases ha : s.drives.grout && s.groutAllowed with
  | false => exact .inl (hd.trans (by rw [ha]; rfl))
  | true =>
    have hallowed := (Bool.and_eq_true_iff.mp ha).2
    simp only [State.groutAllowed, Bool.and_eq_true, beq_iff_eq] at hallowed
    exact .inr ⟨hd.trans (by rw [ha]), hallowed.1.1.2, hallowed.1.2, hallowed.2⟩

/-! ## The parts of the grout work -/

@[simp] theorem closeGrout_drainOpen (s : State) :
    (closeGrout s).chans.drainOpen = (s.drives.grout || s.chans.drainOpen) := by
  unfold closeGrout; split <;> simp [*]

/-- The end of a claim shuts the grout valve, and a valve that was open opens the drain window (R4, R96). -/
theorem endClaim_claimView {s : State} (cause : Nat) (h : s.grout.claim.isSome = true) :
    (endClaim cause s).claimView =
      { s.claimView with
        claim := none, drives := { s.drives with grout := false }
        drainOpen := s.drives.grout || s.chans.drainOpen } := by
  simp [endClaim, h, State.claimView]

/-- A pressure within its limit gives the throttle test clear (R110). -/
theorem clear_of_le {v limit : Nat} (h : v ≤ limit) : Test.clear.holds (compareNat (some v) limit 0) = true := by
  rw [compareNat_some, if_neg (Nat.not_lt.mpr h)]
  split <;> rfl

/-- A claim begun, its valve open on a new count (R96, R110). -/
def ClaimView.drawing (r : GroutRecord) (x : ClaimView) : ClaimView :=
  { x with
    held := none, phase := .draw, claim := some { ticks := 0, throttles := 0 }
    record := some { r with claimsMade := min (r.claimsMade + 1) 255 }
    drives := { Drives.off with grout := true }, drainOpen := false }

theorem ClaimView.drawing_inRow {r : GroutRecord} {x : ClaimView} (hs : x.stage = .grout) (hr : x.run = .running) :
    (x.drawing r).InRow :=
  ⟨hs, .inr ⟨rfl, hr, rfl, rfl⟩⟩

/-- A claim that begins with the pressure within its limit opens the valve (R96, R110). -/
theorem throttleDecision_startClaim {reach : Boundary → State → State} {s : State} {r : GroutRecord} {p : Nat}
    (hg : s.grouting = true) (hr : s.grout.record = some r) (hd : s.drives = .off) (hp : s.filtered .gp = some p)
    (hl : p ≤ r.limit) :
    (throttleDecision reach (startClaim { s with seq := { s.seq with held := none } })).claimView =
      s.claimView.drawing r := by
  generalize hu : ({ s with seq := { s.seq with held := none } } : State) = u
  have hgrout : (startClaim u).grout =
      { s.grout with
        record := some { r with claimsMade := min (r.claimsMade + 1) 255 }
        phase := .draw, claim := some { ticks := 0, throttles := 0 } } := by
    rw [startClaim_grout, ← hu]
    simp [hr]
  have hpress : (startClaim u).filtered .gp = some p := by
    rw [(startClaim_work u).sameField.filtered, ← hu]; exact hp
  have hdrives : (startClaim u).drives = .off := by rw [startClaim_drives, ← hu]; exact hd
  have hseq : (startClaim u).seq = { s.seq with held := none } := by rw [startClaim_seq, ← hu]
  have hopen : throttleDecision reach (startClaim u) = openGrout (startClaim u) := by
    rw [throttleDecision_open (by rw [hgrout]) (by rw [State.grouting, hseq]; exact hg) (by rw [hgrout])
      (by rw [hgrout]; rfl) (by rw [hpress]; exact clear_of_le hl), hdrives]
    rfl
  rw [hopen]
  simp only [State.claimView, openGrout, hseq, hdrives, hgrout, ClaimView.drawing]

/-- The grout gate on main 0 passes into a claim (R98). -/
theorem groutGate_aloneWithin (n : Nat) {s : State} (hg : s.grouting = true) (hw : s.grout.phase = .wait)
    (hm : s.cfg Setup.main 0 = 0) (hp : s.faults.pending = []) :
    groutGate (reachWith (proceed (n + 1))) s =
      throttleDecision (reachWith (proceed n)) (startClaim { s with seq := { s.seq with held := none } }) := by
  unfold groutGate
  simp only [hg, hw, hm, beq_self_eq_true, Bool.and_self, if_true]
  rw [reachWith_pass hp]
  rfl

theorem raisePart_other {s : State} (h : s.seq.stage ≠ .stress) : raisePart s = s := by
  simp [raisePart, State.stressing, h]

theorem workOfTick_grout {s : State} (hs : s.seq.stage = .grout) (advanced : Bool) :
    workOfTick advanced s = gateWork s := by
  simp [workOfTick, State.timeoutDue, State.stressing, stageClocks, hs]

/-- Beside GROUT_WAIT and the end of an intent interval the grout gate has nothing to do (R94, R95). -/
theorem groutPart_rests {s : State} (hi : s.grout.phase = .intent → s.grout.intentTicks < 2)
    (hw : s.grout.phase ≠ .wait) : groutPart s = s := by
  have hover : s.groutIntentOver = false := by
    simp only [State.groutIntentOver, Bool.and_eq_false_iff, beq_eq_false_iff_ne, decide_eq_false_iff_not, Nat.not_le]
    by_cases h : s.grout.phase = .intent
    · exact .inr (hi h)
    · exact .inl (.inr h)
  simp [groutPart, hover, groutGate, hw]

/-- What the gates of a GROUT stage do after the claim's part. -/
theorem gateWork_grout {s : State} (h : (claimPart s).seq.stage = .grout) : gateWork s = groutPart (claimPart s) := by
  rw [gateWork, raisePart_other (by rw [h]; decide)]

/-! ## The tick that its gates leave settled -/

/-- A tick of a GROUT stage leaves what its gates come to, where those keep the run state and the drives' row and leave the
grout gate nothing to evaluate after the notice. -/
theorem groutTick_view {s : State} (hl : s.drivesLegal = true) (hs : s.seq.stage = .grout) (hb : s.boundaryClear = true)
    {f : Nat → ClaimView}
    (hw : ∀ v, AtTick s v →
      (gateWork v).claimView = f (gateWork v).drawers ∧ (gateWork v).claimView.InRow ∧
      (gateWork v).seq.runState = s.seq.runState ∧ (s.grout.phase = .intent → (gateWork v).grout.phase ≠ .wait)) :
    (secure s (noticeTick s)).claimView = f (secure s (noticeTick s)).drawers := by
  refine noticeTick_elim (p := fun t => t.claimView = f t.drawers)
    (fun h k => by rw [worked_claimView h, worked_drawers h, k]) fun v hv => ?_
  have h : AtTick s v := ⟨hv, hb⟩
  obtain ⟨hview, hrow, hrun, hphase⟩ := hw v h
  rw [workOfTick_grout (h.stage.trans hs)]
  exact ⟨⟨hrow.legal, hrun, hrow.lower.trans (claimView_inRow hl hs).lower.symm, fun hi k => hphase hi k.2⟩, hview⟩

/-- The claim as the tick's counts leave it (R96, R97). -/
theorem AtTick.claimView {s v : State} (h : AtTick s v) :
    v.claimView =
      { s.claimView with
        claim := s.grout.claim.map fun c => { c with ticks := c.ticks + 1 }
        restTicks := if s.grout.phase = .rest then min (s.grout.restTicks + 1) restLength else s.grout.restTicks } := by
  simp only [State.claimView, h.run, h.stage, h.held, h.grout, h.drives, h.drainOpen]

/-! ## GROUT_INTENT_END (R95) -/

section
variable {s : State} (hs : s.seq.stage = .grout) (hr : s.seq.runState = .running) (hp : s.grout.phase = .intent)
  (hn : s.grout.claim = none) (ht : 1 ≤ s.grout.intentTicks)

include hp hn in
theorem AtTick.claimView_intent {v : State} (h : AtTick s v) : v.claimView = s.claimView := by
  rw [h.claimView]
  simp [State.claimView, hn, hp]

include hs hr hp ht

theorem groutIntentOver_atTick {v : State} (h : AtTick s v) : v.groutIntentOver = true := by
  have hphase : v.grout.phase = .intent := by rw [h.grout]; exact hp
  have hticks : 2 ≤ v.grout.intentTicks := by
    rw [h.grout]
    simp only [hp, if_true]
    omega
  simp [State.groutIntentOver, State.grouting_iff, h.stage, h.run, hs, hr, hphase, hticks]

theorem groutIntentEnd_due (hb : s.boundaryClear = true) :
    exec .groutIntentEnd s = .next (secure s (noticeTick s)) :=
  tick_due s (groutIntentOver_atTick hs hr hp ht (tickCounts_atTick hb))

include hn

/-- The tick that ends the interval passes it by the total (R95). -/
theorem gateWork_intentEnded {v : State} (h : AtTick s v) :
    gateWork v =
      if v.groutTotal < v.cfg Setup.concurrency 0 then reach .groutIntentEnd v
      else reach .gaveWay (logEvent .gateBackoff 0 v) := by
  have hphase : v.grout.phase = .intent := by rw [h.grout]; exact hp
  have hclaim : v.grout.claim = none := by rw [h.grout, hn]; rfl
  have hpart : claimPart v = v := by simp [claimPart, State.claimAtLimit, State.restOver, hphase, hclaim]
  rw [gateWork_grout (by rw [hpart, h.stage, hs]), hpart, groutPart, if_pos (groutIntentOver_atTick hs hr hp ht h)]

variable (hl : s.drivesLegal = true) (hb : s.boundaryClear = true)
include hl hb

/-- With room on the main the intent passes into DRAW, where the pressure within its limit opens the valve (R95, R96, R110). -/
theorem tick_intentDraws {r : GroutRecord} {p : Nat} (hrec : s.grout.record = some r)
    (hf : s.filtered .gp = some p) (hle : p ≤ r.limit) (hroom : (clocksAt s).groutTotal < s.cfg Setup.concurrency 0) :
    (secure s (noticeTick s)).claimView = s.claimView.drawing r := by
  refine groutTick_view hl hs hb (f := fun _ => s.claimView.drawing r) fun v h => ?_
  have htotal : v.groutTotal < v.cfg Setup.concurrency 0 := by
    rw [worked_groutTotal h.counted, h.cfg]; exact hroom
  have hwork : gateWork v =
      throttleDecision (reachWith (proceed 31)) (startClaim { v with seq := { v.seq with held := none } }) := by
    rw [gateWork_intentEnded hs hr hp hn ht h, if_pos htotal, reach, reachWith_pass h.pending]
    rfl
  have hview : (gateWork v).claimView = s.claimView.drawing r := by
    rw [hwork, ← h.claimView_intent hp hn]
    exact throttleDecision_startClaim (State.grouting_iff.mpr ⟨h.stage.trans hs, h.run.trans hr⟩)
      (by rw [h.grout]; exact hrec) (h.drives.trans (State.drives_beside_draw hl hs (by rw [hp]; decide)))
      ((h.filtered .gp).trans hf) hle
  refine ⟨hview, by rw [hview]; exact ClaimView.drawing_inRow hs hr, (congrArg ClaimView.run hview :), fun _ => ?_⟩
  rw [show (gateWork v).grout.phase = .draw from congrArg ClaimView.phase hview]
  decide

end

/-! ## The gate of a shared main (R94) -/

/-- Into GROUT_INTENT, its interval from the start (R94, R95). -/
def enterIntent (s : State) : State :=
  { s with
    seq := { s.seq with held := none }
    grout := { s.grout with phase := .intent, intentTicks := 0 } }

/-- The gate of a shared main (R94). -/
def sharedGate (s : State) : State := if s.drawers < s.cfg Setup.concurrency 0 then enterIntent s else s

/-- GROUT_WAIT on a shared main with nothing pending, no boundary held and every drive off. -/
structure AtSharedGate (s : State) : Prop where
  stage : s.seq.stage = .grout
  run : s.seq.runState = .running
  held : s.seq.held = none
  phase : s.grout.phase = .wait
  drives : s.drives = .off
  main : s.cfg Setup.main 0 ≠ 0
  pending : s.faults.pending = []

theorem worked_cfg {s t : State} (h : t.worked = s.worked) {α : Type} (f : Setup → α) (d : α) : t.cfg f d = s.cfg f d := by
  rw [State.cfg, State.cfg, worked_seq h]

theorem sharedGate_worked {s t : State} (h : t.worked = s.worked) : (sharedGate t).worked = (sharedGate s).worked := by
  unfold sharedGate
  rw [worked_drawers h, worked_cfg h]
  split
  · exact congrArg enterIntent h
  · exact h

theorem AtSharedGate.congr {s t : State} (h : t.worked = s.worked) (k : AtSharedGate s) : AtSharedGate t :=
  ⟨by rw [worked_seq h, k.stage], by rw [worked_seq h, k.run], by rw [worked_seq h, k.held], by rw [worked_grout h, k.phase],
    by rw [worked_drives h, k.drives], by rw [worked_cfg h]; exact k.main, by rw [worked_faults h, k.pending]⟩

theorem sharedGate_drawers (s : State) : (sharedGate s).drawers = s.drawers := by
  unfold sharedGate; split <;> rfl

section
variable {s : State} (h : AtSharedGate s)
include h

theorem AtSharedGate.groutGate (n : Nat) : groutGate (reachWith (proceed (n + 1))) s = sharedGate s :=
  groutGate_main n (State.grouting_iff.mpr ⟨h.stage, h.run⟩) h.phase h.main h.pending

theorem AtSharedGate.drives_off : (sharedGate s).drives = .off := by
  unfold sharedGate; split <;> exact h.drives

theorem AtSharedGate.runState : (sharedGate s).seq.runState = .running := by
  unfold sharedGate; split <;> exact h.run

/-- The gate passes into GROUT_INTENT where there are fewer drawers than G (R94). -/
theorem AtSharedGate.claimView :
    (sharedGate s).claimView =
      { s.claimView with phase := if (sharedGate s).drawers < s.cfg Setup.concurrency 0 then .intent else .wait } := by
  rw [sharedGate_drawers]
  unfold sharedGate
  split
  · simp only [State.claimView, enterIntent, h.held]
  · simp only [State.claimView, h.phase]

/-- Asked once more the gate has nothing to add (R94, R95). -/
theorem AtSharedGate.groutPart : groutPart (sharedGate s) = sharedGate s := by
  unfold sharedGate
  split
  · exact groutPart_rests (fun _ => Nat.zero_lt_two) (by decide : GroutPhase.intent ≠ .wait)
  · rename_i hfull
    have hover : s.groutIntentOver = false := by simp [State.groutIntentOver, h.phase]
    have hgate := h.groutGate 31
    rw [sharedGate, if_neg hfull] at hgate
    rw [Machine.groutPart, if_neg (by simp [hover])]
    exact hgate

end

/-- A tick that gives way asks the gate of a shared main afresh after its notice (R94, R95, log 12). -/
theorem noticeTick_asksAgain {s w : State} (hw : tickWork s.jobAdvances (tickCounts s) = w)
    (hi : s.grout.phase = .intent) (hlow : s.drives.lower = false) (hrun : s.seq.runState = .running)
    (h : AtSharedGate w) : (secure s (noticeTick s)).worked = (sharedGate w).worked := by
  have hsettle : settle s w = w :=
    settle_same (State.drivesLegal_of_off h.drives) (h.run.trans hrun.symm) (by rw [h.drives, hlow]; rfl)
  generalize ht : requestNotice w = t
  have hnotice : t.worked = w.worked := ht ▸ worked_of_notice (requestNotice_withoutNotice w)
  have hgate : AtSharedGate t := h.congr hnotice
  have hlegal := State.drivesLegal_of_off hgate.drives_off
  have hask : settle t (sharedGate t) = sharedGate t :=
    settle_same hlegal (hgate.runState.trans hgate.run.symm) (by rw [hgate.drives_off, hgate.drives])
  have htick : noticeTick s = prompt t (sharedGate t) := by
    unfold noticeTick
    rw [hw, hsettle, ht]
    dsimp only
    rw [if_pos hi, show groutGate reach t = sharedGate t from hgate.groutGate 31, hask]
  have hprompt : (prompt t (sharedGate t)).worked = (sharedGate t).worked :=
    worked_of_notice (prompt_withoutNotice t (sharedGate t))
  calc (secure s (noticeTick s)).worked
      = (prompt t (sharedGate t)).worked := by
        rw [htick, secure, enforceDrives_of_legal ((worked_legal hprompt).trans hlegal)]
        rfl
    _ = (sharedGate t).worked := hprompt
    _ = (sharedGate w).worked := sharedGate_worked hnotice

section
variable {s : State} (hs : s.seq.stage = .grout) (hr : s.seq.runState = .running) (hp : s.grout.phase = .intent)
  (hn : s.grout.claim = none) (ht : 1 ≤ s.grout.intentTicks) (hl : s.drivesLegal = true) (hb : s.boundaryClear = true)
include hs hr hp hn ht hl hb

/-- With no room on the main the intent gives way, and the gate is asked afresh (R94, R95). -/
theorem tick_intentGivesWay (hfull : s.cfg Setup.concurrency 0 ≤ (clocksAt s).groutTotal) (hm : s.cfg Setup.main 0 ≠ 0) :
    (secure s (noticeTick s)).claimView =
      { s.claimView with
        held := none
        phase := if (secure s (noticeTick s)).drawers < s.cfg Setup.concurrency 0 then .intent else .wait } := by
  have hoff : s.drives = .off := State.drives_beside_draw hl hs (by rw [hp]; decide)
  obtain ⟨hgate, hcfg, hview⟩ : AtSharedGate (tickWork s.jobAdvances (tickCounts s)) ∧
      (tickWork s.jobAdvances (tickCounts s)).cfg Setup.concurrency 0 = s.cfg Setup.concurrency 0 ∧
      (tickWork s.jobAdvances (tickCounts s)).claimView = { s.claimView with held := none, phase := .wait } := by
    refine tickWork_elim (p := fun w => AtSharedGate w ∧ w.cfg Setup.concurrency 0 = s.cfg Setup.concurrency 0 ∧
      w.claimView = { s.claimView with held := none, phase := .wait })
      (fun h k => ⟨k.1.congr h, (worked_cfg h _ _).trans k.2.1, (worked_claimView h).trans k.2.2⟩) fun v hv => ?_
    have h : AtTick s v := ⟨hv, hb⟩
    have htotal : ¬ v.groutTotal < v.cfg Setup.concurrency 0 := by
      rw [worked_groutTotal h.counted, h.cfg]; exact Nat.not_lt.mpr hfull
    generalize hu : logEvent .gateBackoff 0 v = u
    have hlog : u.worked = v.worked := hu ▸ logEvent_worked _ _ v
    have hk : AtTick s u := ⟨hlog.trans hv, hb⟩
    have hwork : workOfTick s.jobAdvances v = setGroutPhase .wait { u with seq := { u.seq with held := none } } := by
      rw [workOfTick_grout (h.stage.trans hs), gateWork_intentEnded hs hr hp hn ht h, if_neg htotal, hu, reach,
        reachWith_pass hk.pending]
      rfl
    rw [hwork]
    refine ⟨⟨hk.stage.trans hs, hk.run.trans hr, rfl, rfl, hk.drives.trans hoff, ?_, hk.pending⟩, hk.cfg _ _, ?_⟩
    · rw [show (setGroutPhase .wait { u with seq := { u.seq with held := none } }).cfg Setup.main 0 = s.cfg Setup.main 0 from
        hk.cfg _ _]
      exact hm
    · rw [← hk.claimView_intent hp hn]
      rfl
  have hw := noticeTick_asksAgain rfl hp (by rw [hoff]; rfl) hr hgate
  rw [worked_claimView hw, worked_drawers hw, hgate.claimView, hview, hcfg]

end

/-! ## CLAIM_LIMIT (R96, R97) -/

section
variable {s : State} (hs : s.seq.stage = .grout) (hc : s.grout.claim.isSome = true)
  (ht : s.cfg Setup.claimLimit 0 * 120 ≤ (s.grout.claim.map Claim.ticks).getD 0 + 1)
include hs hc ht

theorem claimAtLimit_atTick {v : State} (h : AtTick s v) : v.claimAtLimit = true := by
  obtain ⟨c, hclaim⟩ := Option.isSome_iff_exists.mp hc
  rw [hclaim, Option.map_some, Option.getD_some] at ht
  have hv : v.grout.claim = some { c with ticks := c.ticks + 1 } := by rw [h.grout, hclaim]; rfl
  simp [State.claimAtLimit, hv, h.cfg, h.stage, hs, ht]

theorem claimLimit_due (hb : s.boundaryClear = true) : exec .claimLimit s = .next (secure s (noticeTick s)) :=
  tick_due s (claimAtLimit_atTick hs hc ht (tickCounts_atTick hb))

/-- At its limit the claim ends in any run state, and REST begins (R96, R97). -/
theorem tick_claimEnds (hl : s.drivesLegal = true) (hb : s.boundaryClear = true) :
    (secure s (noticeTick s)).claimView =
      { s.claimView with
        held := none, claim := none, phase := .rest, restTicks := 0, drives := .off
        drainOpen := s.drives.grout || s.chans.drainOpen } := by
  refine groutTick_view hl hs hb (f := fun _ => { s.claimView with
    held := none, claim := none, phase := .rest, restTicks := 0, drives := .off
    drainOpen := s.drives.grout || s.chans.drainOpen }) fun v h => ?_
  have hclaim : v.grout.claim.isSome = true := by rw [h.grout]; simpa using hc
  have hend := endClaim_claimView claimByLimit hclaim
  have hflt : (endClaim claimByLimit v).faults.pending = [] := by rw [endClaim_faults]; exact h.pending
  generalize hu : endClaim claimByLimit v = u at hend hflt
  have hclaimPart : claimPart v =
      { u with seq := { u.seq with held := none }, grout := { u.grout with phase := .rest, restTicks := 0 } } := by
    rw [claimPart, if_pos (claimAtLimit_atTick hs hc ht h), hu, reach, reachWith_pass hflt]
    rfl
  have hstage : u.seq.stage = .grout := (congrArg ClaimView.stage hend :).trans (h.stage.trans hs)
  have hwork : gateWork v =
      { u with seq := { u.seq with held := none }, grout := { u.grout with phase := .rest, restTicks := 0 } } := by
    rw [gateWork_grout (by rw [hclaimPart]; exact hstage), hclaimPart]
    exact groutPart_rests (fun hi => nomatch hi) (by decide : GroutPhase.rest ≠ .wait)
  have hdrives : { s.drives with grout := false } = Drives.off := by
    rw [State.drives_of_grout hl hs]
    rfl
  have hview : (gateWork v).claimView =
      { s.claimView with
        held := none, claim := none, phase := .rest, restTicks := 0, drives := .off
        drainOpen := s.drives.grout || s.chans.drainOpen } := by
    calc (gateWork v).claimView
        = { u.claimView with held := none, phase := .rest, restTicks := 0 } := by rw [hwork]; rfl
      _ = _ := by rw [hend, h.claimView, h.drives, h.drainOpen, hdrives]
  exact ⟨hview, by rw [hview]; exact ⟨hs, .inl rfl⟩, (congrArg ClaimView.run hview :),
    fun _ => by rw [hwork]; exact (by decide : GroutPhase.rest ≠ .wait)⟩

end

/-! ## REST_END (R97) -/

/-- REST left for GROUT_WAIT (R97). -/
def restLeft (s : State) : State := setGroutPhase .wait { s with seq := { s.seq with held := none } }

section
variable {s : State} (hs : s.seq.stage = .grout) (hn : s.grout.claim = none) (hp : s.grout.phase = .rest)
  (ht : 119 ≤ s.grout.restTicks) (hh : s.seq.held = none)

include hn hp ht in
/-- The claim's view at the tick that counts the end of REST. -/
theorem AtTick.claimView_rest {v : State} (h : AtTick s v) : v.claimView = { s.claimView with restTicks := 120 } := by
  have hmin : min (s.grout.restTicks + 1) restLength = 120 := Nat.min_eq_right (by unfold restLength; omega)
  rw [h.claimView]
  simp [State.claimView, hn, hp, hmin]

include hn hp ht hh in
theorem AtTick.restLeft_view {v : State} (h : AtTick s v) :
    (restLeft v).claimView = { s.claimView with restTicks := 120, phase := .wait } :=
  calc (restLeft v).claimView
      = { v.claimView with held := none, phase := .wait } := rfl
    _ = { s.claimView with restTicks := 120, phase := .wait } := by
        rw [h.claimView_rest hn hp ht]
        simp only [State.claimView, hh]

include hs hn hp ht hh

theorem restOver_atTick {v : State} (h : AtTick s v) : v.claimAtLimit = false ∧ v.restOver = true := by
  have hview := h.claimView_rest hn hp ht
  have hclaim : v.grout.claim = none := (congrArg ClaimView.claim hview :).trans hn
  have hphase : v.grout.phase = .rest := (congrArg ClaimView.phase hview :).trans hp
  have hticks : v.grout.restTicks = 120 := congrArg ClaimView.restTicks hview
  have hheld : v.seq.held = none := (congrArg ClaimView.held hview :).trans hh
  simp [State.claimAtLimit, State.restOver, hclaim, hphase, hticks, hheld, h.stage, hs, restLength]

theorem restEnd_due (hb : s.boundaryClear = true) : exec .restEnd s = .next (secure s (noticeTick s)) :=
  tick_due s (restOver_atTick hs hn hp ht hh (tickCounts_atTick hb)).2

/-- The end of REST is passed where the work goes on or is paused, else held (R97). -/
theorem claimPart_restOver {v : State} (h : AtTick s v) :
    claimPart v =
      if s.seq.runState = .running ∨ s.seq.runState = .paused then
        groutGate (reachWith (proceed 31)) (restLeft v)
      else { v with seq := { v.seq with held := some .restEnd } } := by
  obtain ⟨hlimit, hover⟩ := restOver_atTick hs hn hp ht hh h
  unfold claimPart
  rw [if_neg (by simp [hlimit]), if_pos hover, h.run, reach, reachWith_pass h.pending]
  rfl

end

section
variable {s : State} (hl : s.drivesLegal = true) (hs : s.seq.stage = .grout) (hb : s.boundaryClear = true)
  (hp : s.grout.phase = .rest)
include hl hs hb hp

/-- The tick that ends REST leaves what its end comes to, where the gate has nothing more to do. -/
theorem tick_restOver {f : Nat → ClaimView}
    (hw : ∀ v, AtTick s v → (claimPart v).claimView = f (claimPart v).drawers ∧ groutPart (claimPart v) = claimPart v)
    (hf : ∀ n, (f n).InRow ∧ (f n).run = s.seq.runState) :
    (secure s (noticeTick s)).claimView = f (secure s (noticeTick s)).drawers := by
  refine groutTick_view hl hs hb fun v h => ?_
  obtain ⟨hview, hpart⟩ := hw v h
  obtain ⟨hrow, hrun⟩ := hf (claimPart v).drawers
  rw [← hview] at hrow hrun
  rw [gateWork_grout hrow.stage, hpart]
  exact ⟨hview, hrow, hrun, fun hi => absurd (hp.symm.trans hi) (by decide)⟩

variable (hn : s.grout.claim = none) (ht : 119 ≤ s.grout.restTicks) (hh : s.seq.held = none)
include hn ht hh

/-- RUNNING on a shared main, the gate of that main is asked (R94, R97). -/
theorem tick_restShared (hr : s.seq.runState = .running) (hm : s.cfg Setup.main 0 ≠ 0) :
    (secure s (noticeTick s)).claimView =
      { s.claimView with
        restTicks := 120
        phase := if (secure s (noticeTick s)).drawers < s.cfg Setup.concurrency 0 then .intent else .wait } := by
  have hoff : s.drives = .off := State.drives_beside_draw hl hs (by rw [hp]; decide)
  refine tick_restOver hl hs hb hp (f := fun n => { s.claimView with
    restTicks := 120, phase := if n < s.cfg Setup.concurrency 0 then .intent else .wait }) (fun v h => ?_)
    fun n => ⟨⟨hs, .inl hoff⟩, rfl⟩
  have hgate : AtSharedGate (restLeft v) :=
    ⟨h.stage.trans hs, h.run.trans hr, rfl, rfl, h.drives.trans hoff, fun hz => hm ((h.cfg Setup.main 0).symm.trans hz),
      h.pending⟩
  have hcfg : (restLeft v).cfg Setup.concurrency 0 = s.cfg Setup.concurrency 0 := h.cfg _ _
  have hpart := (claimPart_restOver hs hn hp ht hh h).trans (if_pos (.inl hr))
  rw [hpart, hgate.groutGate 30]
  exact ⟨by rw [hgate.claimView, h.restLeft_view hn hp ht hh, hcfg], hgate.groutPart⟩

/-- RUNNING on main 0, a claim begins at once (R97, R98). -/
theorem tick_restAlone {r : GroutRecord} {p : Nat} (hrec : s.grout.record = some r) (hf : s.filtered .gp = some p)
    (hle : p ≤ r.limit) (hr : s.seq.runState = .running) (hm : s.cfg Setup.main 0 = 0) :
    (secure s (noticeTick s)).claimView = { s.claimView with restTicks := 120 }.drawing r := by
  have hoff : s.drives = .off := State.drives_beside_draw hl hs (by rw [hp]; decide)
  refine tick_restOver hl hs hb hp (f := fun _ => { s.claimView with restTicks := 120 }.drawing r) (fun v h => ?_)
    fun _ => ⟨ClaimView.drawing_inRow hs hr, rfl⟩
  have hgrouting : (restLeft v).grouting = true := State.grouting_iff.mpr ⟨h.stage.trans hs, h.run.trans hr⟩
  have hrecord : (restLeft v).grout.record = some r :=
    (congrArg ClaimView.record (h.restLeft_view hn hp ht hh)).trans hrec
  have hpart := (claimPart_restOver hs hn hp ht hh h).trans (if_pos (.inl hr))
  rw [groutGate_aloneWithin 30 hgrouting rfl ((h.cfg _ _).trans hm) h.pending] at hpart
  have hview : (claimPart v).claimView = { s.claimView with restTicks := 120 }.drawing r := by
    rw [hpart, throttleDecision_startClaim (p := p) hgrouting hrecord (h.drives.trans hoff) ((h.filtered .gp).trans hf) hle,
      h.restLeft_view hn hp ht hh]
    rfl
  have hphase : (claimPart v).grout.phase = .draw := congrArg ClaimView.phase hview
  exact ⟨hview, groutPart_rests (by rw [hphase]; exact nofun) (by rw [hphase]; decide)⟩

/-- In PAUSED the station comes to GROUT_WAIT, where no gate is asked (R97). -/
theorem tick_restPaused (hr : s.seq.runState = .paused) :
    (secure s (noticeTick s)).claimView = { s.claimView with restTicks := 120, phase := .wait } := by
  have hoff : s.drives = .off := State.drives_beside_draw hl hs (by rw [hp]; decide)
  refine tick_restOver hl hs hb hp (f := fun _ => { s.claimView with restTicks := 120, phase := .wait })
    (fun v h => ?_) fun _ => ⟨⟨hs, .inl hoff⟩, rfl⟩
  have hpart := (claimPart_restOver hs hn hp ht hh h).trans (if_pos (.inr hr))
  have hrun : (restLeft v).seq.runState = .paused := h.run.trans hr
  have hgrouting : (restLeft v).grouting = false := by simp [State.grouting, hrun]
  have hidle : groutGate (reachWith (proceed 31)) (restLeft v) = restLeft v := by
    rw [groutGate, hgrouting]; rfl
  rw [hpart, hidle]
  exact ⟨h.restLeft_view hn hp ht hh, groutPart_other hgrouting⟩

/-- In FAULTED or STOPPED the end of REST is held (R97). -/
theorem tick_restHalted (hr : s.seq.runState = .faulted ∨ s.seq.runState = .stopped) :
    (secure s (noticeTick s)).claimView = { s.claimView with restTicks := 120, held := some .restEnd } := by
  have hoff : s.drives = .off := State.drives_beside_draw hl hs (by rw [hp]; decide)
  refine tick_restOver hl hs hb hp (f := fun _ => { s.claimView with restTicks := 120, held := some .restEnd })
    (fun v h => ?_) fun _ => ⟨⟨hs, .inl hoff⟩, rfl⟩
  have hpart := (claimPart_restOver hs hn hp ht hh h).trans (if_neg (by rcases hr with hr | hr <;> simp [hr]))
  have hview : (claimPart v).claimView = { s.claimView with restTicks := 120, held := some .restEnd } :=
    calc (claimPart v).claimView
        = { v.claimView with held := some .restEnd } := by rw [hpart]; rfl
      _ = _ := by rw [h.claimView_rest hn hp ht]
  have hphase : (claimPart v).grout.phase = .rest := (congrArg ClaimView.phase hview :).trans hp
  exact ⟨hview, groutPart_rests (by rw [hphase]; exact nofun) (by rw [hphase]; decide)⟩

end

end Sys2Proof.Machine
end

section
/-!
PROOF. The sample events of a GROUT stage: throttle, third throttle, reopen, and the end on volume (O52).
-/
namespace Sys2Proof.Machine

/-! ## The close of a sample event on GP or GV (R2) -/

/-- What a sample event of a GROUT stage leaves at `t`, where its decisions come to `x`. -/
structure Sampled (x t : State) : Prop where
  seq : t.seq = x.seq
  grout : t.grout = x.grout
  faults : t.faults = x.faults
  drives : t.drives = x.drives
  drainOpen : t.chans.drainOpen = x.chans.drainOpen

/-- The effects `x` of an event in state `s` have every drive in its row, and either keep run state and lower valve, or leave
overload and stroke false. -/
structure ClosesQuietly (s x : State) : Prop where
  legal : x.drivesLegal = true
  watch : (x.seq.runState = s.seq.runState ∧ x.drives.lower = s.drives.lower) ∨ x.watchQuiet = true

/-- Effects that keep the run state of a GROUT stage, with every drive in its row. -/
theorem ClosesQuietly.of_row {s x : State} (hl : s.drivesLegal = true) (hs : s.seq.stage = .grout)
    (hx : x.claimView.InRow) (hr : x.seq.runState = s.seq.runState) : ClosesQuietly s x :=
  ⟨hx.legal, .inl ⟨hr, hx.lower.trans (claimView_inRow hl hs).lower.symm⟩⟩

/-- Effects that shut every drive of a station with no overload and no stroke. -/
theorem ClosesQuietly.of_off {s u x : State} (hd : x.drives = .off) (hw : Work u x) (hu : u.watchQuiet = s.watchQuiet)
    (hq : s.watchQuiet = true) : ClosesQuietly s x :=
  ⟨State.drivesLegal_of_off hd, .inr ((hw.sameField.watchQuiet.trans hu).trans hq)⟩

/-- A channel that shows a value is not lost (R12). -/
theorem standsLost_of_value {i : SampleInput} {s : State} {p : Nat}
    (hf : (takeSample i s).filtered (inputChannel i) = some p) : (takeSample i s).standsLost (inputChannel i) = false := by
  have hvalue : ((s.chan (inputChannel i)).take (s.sampleOf i)).value = some p := by
    rw [← takeSample_chan]; exact hf
  have hrun : ((takeSample i s).chan (inputChannel i)).voidRun = 0 := by
    rw [takeSample_chan, Channel.take_voidRun, if_neg (by rw [hvalue]; exact nofun)]
  rw [State.standsLost, hrun]
  rfl

/-- A sample event on GP or GV with a value leaves what its decisions come to. -/
theorem groutSample {i : SampleInput} {s x : State} {p : Nat} (hc : inputChannel i = .gp ∨ inputChannel i = .gv)
    (hf : (takeSample i s).filtered (inputChannel i) = some p) (hx : workAt (inputChannel i) (takeSample i s) = x)
    (hq : ClosesQuietly s x) : ∃ t, exec (.sampleEvent i none) s = .next t ∧ Sampled x t := by
  have hwork : sampleWork i none s = markLost (inputChannel i) false x := by
    have hkind : (takeSample i s).watchKind (inputChannel i) = none := by rcases hc with hc | hc <;> rw [hc] <;> rfl
    rw [sampleWork_quiet (by rcases hc with hc | hc <;> rw [hc] <;> decide) hkind (standsLost_of_value hf), ← hx]
    rfl
  obtain ⟨hwatch, hdrain⟩ : (markLost (inputChannel i) false x).watchQuiet = x.watchQuiet ∧
      (markLost (inputChannel i) false x).chans.drainOpen = x.chans.drainOpen := by
    rcases hc with hc | hc <;> rw [hc] <;> exact ⟨rfl, rfl⟩
  generalize hy : markLost (inputChannel i) false x = y at hwork hwatch hdrain
  have hlegal : y.drivesLegal = true := hy ▸ hq.legal
  have hsettle : settle s y = y := by
    rcases hq.watch with ⟨hr, hl⟩ | hw
    · exact settle_same hlegal (by rw [← hy]; exact hr) (by rw [← hy]; exact hl)
    · exact settle_quiet hlegal (hwatch.trans hw)
  have hoff := finish_offLine hsettle hlegal
  refine ⟨finish s y, congrArg (fun w => Host.Outcome.next (finish s w)) hwork, ?_⟩
  rw [← hy] at hoff hdrain ⊢
  exact ⟨(offLine_seq hoff :), (offLine_grout hoff :), (offLine_faults hoff :), (offLine_drives hoff :),
    (congrArg Channels.drainOpen (offLine_chans hoff)).trans hdrain⟩

/-! ## The throttle (R110, R111, R113) -/

/-- A throttle counted, the valve shut and the drain window open (R110, R111). -/
def throttleCounted (s : State) : State :=
  { s with
    drives := { s.drives with grout := false }
    chans := { s.chans with drainOpen := true }
    grout :=
      { s.grout with
        record := s.grout.record.map fun r => { r with throttles := min (r.throttles + 1) 65535 }
        claim := s.grout.claim.map fun c => { c with throttles := (s.grout.claim.map Claim.throttles).getD 0 + 1 } } }

theorem onThrottle_eq (reach : Boundary → State → State) (s : State) :
    onThrottle reach s =
      if (s.grout.claim.map Claim.throttles).getD 0 + 1 < 3 then reach .throttled (throttleCounted s)
      else if s.masked .groutRefusal then
        reach (.stageEnd true) (endClaim claimByRefusal (detect .groutRefusal .none (throttleCounted s)))
      else reach .refusal (endClaim claimByRefusal (detect .groutRefusal .none (throttleCounted s))) := rfl

/-- A pressure above its limit throttles (R110). -/
theorem throttleDecision_over {s : State} {r : GroutRecord} {p : Nat} (hr : s.grout.record = some r)
    (hg : s.grouting = true) (hd : s.grout.phase = .draw) (hc : s.grout.claim.isSome = true)
    (hp : s.filtered .gp = some p) (hl : r.limit < p) : throttleDecision reach s = onThrottle reach s := by
  unfold throttleDecision
  simp only [hr, hg, hd, hc, beq_self_eq_true, Bool.and_self, if_true]
  refine unaware_true _ _ s ?_
  rw [hp, compareNat_some, if_neg (by omega), if_pos hl]
  rfl

/-- A throttle short of the third passes into THROTTLED (R111, R112). -/
theorem onThrottle_passes {s : State} {c : Claim} (hn : s.faults.pending = []) (hc : s.grout.claim = some c)
    (ht : c.throttles < 2) :
    (onThrottle reach s).seq = { s.seq with held := none } ∧
    (onThrottle reach s).grout = { (throttleCounted s).grout with phase := .throttled } ∧
    (onThrottle reach s).drives = { s.drives with grout := false } ∧
    (onThrottle reach s).chans.drainOpen = true ∧ (onThrottle reach s).faults = s.faults := by
  have hcount : (s.grout.claim.map Claim.throttles).getD 0 + 1 < 3 := by
    rw [hc]; exact Nat.succ_lt_succ ht
  have hn' : (throttleCounted s).faults.pending = [] := hn
  have hwork : onThrottle reach s =
      logEvent .throttle (((throttleCounted s).grout.claim.map Claim.throttles).getD 0)
        (setGroutPhase .throttled { throttleCounted s with seq := { s.seq with held := none } }) := by
    rw [onThrottle_eq, if_pos hcount, reach, reachWith_pass hn']
    rfl
  rw [hwork]
  simp [setGroutPhase, throttleCounted]

@[simp] theorem endClaim_grout (cause : Nat) (s : State) :
    (endClaim cause s).grout = { s.grout with claim := none } := by
  unfold endClaim
  split
  · simp
  · rename_i h
    rw [← Option.not_isSome_iff_eq_none.mp h]

theorem endClaim_shut (cause : Nat) {s : State} (h : s.drives.grout = false) :
    (endClaim cause s).drives = s.drives ∧ (endClaim cause s).chans.drainOpen = s.chans.drainOpen := by
  unfold endClaim
  split
  · rw [closeGrout_shut h]; simp
  · exact ⟨rfl, rfl⟩

/-- A claim that a throttle ends, its refusal detected (R113). -/
def refused (s : State) : State := endClaim claimByRefusal (detect .groutRefusal .none (throttleCounted s))

/-- GROUT_REFUSAL is seen, and pending where it is not masked; the claim is over (R113, R164). -/
theorem refused_fields {s : State} (hs : s.seq.stage = .grout) (hn : s.faults.pending = []) :
    (refused s).seq = s.seq ∧ (refused s).grout = { (throttleCounted s).grout with claim := none } ∧
    (refused s).drives = { s.drives with grout := false } ∧ .groutRefusal ∈ (refused s).faults.seen ∧
    (refused s).faults.pending = if s.masked .groutRefusal = true then [] else [(.groutRefusal, .none)] := by
  have hactive : (throttleCounted s).stageActive = true := by simp [State.stageActive, throttleCounted, hs]
  have hmask : (throttleCounted s).masked .groutRefusal = s.masked .groutRefusal := rfl
  have hdetect := detect_maskable (k := .groutRefusal) .none (throttleCounted s) rfl (by decide) (by decide)
  rw [hactive, hmask] at hdetect
  have hseen : ∀ u : State, .groutRefusal ∈ (seeKind .groutRefusal u).faults.seen := fun u => mem_insertKind.mpr (.inl rfl)
  obtain ⟨f, hf, hfseen, hfpend⟩ : ∃ f,
      detect .groutRefusal .none (throttleCounted s) = { throttleCounted s with faults := f } ∧
      .groutRefusal ∈ f.seen ∧ f.pending = if s.masked .groutRefusal = true then [] else [(.groutRefusal, .none)] := by
    rw [hdetect]
    cases s.masked .groutRefusal with
    | false =>
      refine ⟨_, rfl, hseen _, ?_⟩
      exact congrArg (insertPending .groutRefusal .none) hn
    | true => exact ⟨_, rfl, hseen _, hn⟩
  unfold refused
  rw [hf]
  refine ⟨by simp [throttleCounted], by simp, (endClaim_shut _ rfl).1, ?_, ?_⟩
  · rw [endClaim_faults]; exact hfseen
  · rw [endClaim_faults]; exact hfpend

/-- A fault taken in a GROUT stage with no claim and no intent leaves the grout control, its valve shut (R50, R115). -/
theorem takeFault_unclaimed (k : FaultKind) (d : Detail) {s : State} (hs : s.seq.stage = .grout)
    (hc : s.grout.claim = none) (hp : s.grout.phase ≠ .intent) :
    (takeFault k d s).grout = s.grout ∧ (takeFault k d s).drives = { s.drives with grout := false } := by
  have hlog : (logTaken k s).drives = s.drives := by unfold logTaken; split <;> simp
  have hstop : stopWork (logTaken k s) = closeGrout (logTaken k s) := by
    unfold stopWork
    simp [hs, hc, hp]
  exact ⟨(congrArg State.grout hstop).trans (by simp), (congrArg State.drives hstop).trans (by simp [hlog])⟩

/-- The third throttle, not masked: the refusal is taken, with its boundary held (R113, R167). -/
theorem onThrottle_refused {s : State} {c : Claim} (hs : s.seq.stage = .grout) (hp : s.grout.phase = .draw)
    (hn : s.faults.pending = []) (hc : s.grout.claim = some c) (ht : 2 ≤ c.throttles)
    (hm : s.masked .groutRefusal = false) {x : State} (hx : onThrottle reach s = x) :
    x.seq = { s.seq with runState := .faulted, held := some .refusal } ∧
    x.grout = { (throttleCounted s).grout with claim := none } ∧ x.drives = { s.drives with grout := false } ∧
    .groutRefusal ∈ x.faults.seen ∧ x.faults.pending = [] ∧ x.faults.taken.map TakenFault.kind = some .groutRefusal := by
  have hcount : ¬ (s.grout.claim.map Claim.throttles).getD 0 + 1 < 3 := by
    rw [hc, Option.map_some, Option.getD_some]; omega
  obtain ⟨rseq, rgrout, rdrives, rseen, rpend⟩ := refused_fields hs hn
  rw [hm] at rpend
  have hwork : x = reachWith (proceed chainBound) .refusal (refused s) := by
    rw [← hx, onThrottle_eq, if_neg hcount, if_neg (by simp [hm])]
    rfl
  obtain ⟨tseq, tkind, -, tpend, tseen⟩ := reachWith_taken rpend (by decide) (proceed chainBound) .refusal
  have htake : reachWith (proceed chainBound) .refusal (refused s) = takeAtBoundary .groutRefusal .none .refusal (refused s) := by
    unfold reachWith
    rw [rpend]
    rfl
  obtain ⟨tgrout, tdrives⟩ := takeFault_unclaimed .groutRefusal .none
    (s := { refused s with faults := { (refused s).faults with pending := [] } })
    (by rw [rseq]; exact hs) (by rw [rgrout]) (by rw [rgrout]; simp [throttleCounted, hp])
  rw [hwork]
  refine ⟨by rw [tseq, rseq], ?_, ?_, by rw [tseen]; exact rseen, tpend, tkind⟩
  · rw [htake]; exact tgrout.trans rgrout
  · rw [htake]; exact tdrives.trans (by rw [rdrives])

/-- The end of a GROUT stage shuts its valve (R4, R53). -/
theorem proceed_stageEnd_grout_valve (refused : Bool) {s : State} (h : s.seq.stage = .grout) :
    (proceed chainBound (.stageEnd refused) s).drives = { s.drives with grout := false } ∧
    (proceed chainBound (.stageEnd refused) s).chans.drainOpen = (s.drives.grout || s.chans.drainOpen) := by
  have hp : proceed chainBound (.stageEnd refused) s = endStage refused { s with seq := { s.seq with held := none } } :=
    rfl
  rw [hp]
  simp [endStage, h, updateGroutRecord]

/-- The third throttle, masked: the stage ends, its record marked as refused (R113). -/
theorem onThrottle_ends {s : State} {c : Claim} (hs : s.seq.stage = .grout) (hn : s.faults.pending = [])
    (hc : s.grout.claim = some c) (ht : 2 ≤ c.throttles) (hm : s.masked .groutRefusal = true)
    {x : State} (hx : onThrottle reach s = x) :
    x.seq = { s.seq.stageLess with progress := .grouted, cure := Cure.started 0 } ∧
    x.grout =
      { (throttleCounted s).grout.stageLess with
        record := (throttleCounted s).grout.record.map fun r => { r with mark := .refused } } ∧
    x.drives = { s.drives with grout := false } ∧ .groutRefusal ∈ x.faults.seen ∧ x.faults.pending = [] := by
  have hcount : ¬ (s.grout.claim.map Claim.throttles).getD 0 + 1 < 3 := by
    rw [hc, Option.map_some, Option.getD_some]; omega
  obtain ⟨rseq, rgrout, rdrives, rseen, rpend⟩ := refused_fields hs hn
  rw [if_pos hm] at rpend
  have hstage : (refused s).seq.stage = .grout := by rw [rseq]; exact hs
  have hwork : x = proceed chainBound (.stageEnd true) (refused s) := by
    rw [← hx, onThrottle_eq, if_neg hcount, if_pos hm]
    exact reachWith_pass rpend _ _
  obtain ⟨eseq, egrout, efaults⟩ := proceed_stageEnd_grout_fields true hstage
  rw [hwork, eseq, egrout, efaults, (proceed_stageEnd_grout_valve true hstage).1, rseq, rgrout, rdrives]
  exact ⟨rfl, rfl, rfl, rseen, rpend⟩

/-! ## The reopening (R112) -/

/-- A pressure below the reopen pressure opens the valve again, and within the limit it stays open (R110, R112). -/
theorem reopenDecision_opens {s : State} {r : GroutRecord} {p : Nat} (hr : s.grout.record = some r)
    (hg : s.grouting = true) (hp : s.grout.phase = .throttled) (hc : s.grout.claim.isSome = true)
    (hn : s.faults.pending = []) (hf : s.filtered .gp = some p) (hre : p < r.reopen) (hl : p ≤ r.limit) :
    reopenDecision reach s = setGroutPhase .draw { openGrout s with seq := { s.seq with held := none } } := by
  have hshort : Test.short.holds (compareNat (s.filtered .gp) r.reopen 0) = true := by
    rw [hf, compareNat_some, if_pos hre]; rfl
  have hn' : (openGrout s).faults.pending = [] := hn
  unfold reopenDecision
  simp only [hr, hg, hp, hc, hshort, beq_self_eq_true, Bool.and_self, if_true]
  rw [reach, reachWith_pass hn']
  have hopen := throttleDecision_open (reach := reachWith (proceed 31))
    (s := setGroutPhase .draw { openGrout s with seq := { s.seq with held := none } }) (r := r) hr hg rfl hc
    ((congrArg (fun v => Test.clear.holds (compareNat v r.limit 0)) hf).trans (clear_of_le hl))
  exact hopen.trans (if_pos rfl)

theorem reopenDecision_waits {s : State} {r : GroutRecord} {p : Nat} (hr : s.grout.record = some r)
    (hf : s.filtered .gp = some p) (hre : r.reopen ≤ p) : reopenDecision reach s = s := by
  have hshort : Test.short.holds (compareNat (s.filtered .gp) r.reopen 0) = false := by
    rw [hf, compareNat_some, if_neg (Nat.not_lt.mpr hre)]
    split <;> rfl
  unfold reopenDecision
  simp [hr, hshort]

/-! ## The end on volume (R114) -/

/-- The target volume reached ends the claim and the stage (R96, R114). -/
theorem volumeDecision_reached {s : State} {r : GroutRecord} {p : Nat} (hr : s.grout.record = some r)
    (hs : s.seq.stage = .grout) (hrun : s.seq.runState = .running ∨ s.seq.runState = .paused)
    (hh : s.stageEndHeld = false) (hn : s.faults.pending = []) (hf : s.filtered .gv = some p) (ht : r.target ≤ p)
    {x : State} (hx : volumeDecision reach s = x) :
    x.seq = { s.seq.stageLess with progress := .grouted, cure := Cure.started 0 } ∧
    x.grout = { s.grout.stageLess with record := some { r with mark := .complete } } ∧
    x.drives = { s.drives with grout := false } ∧ x.chans.drainOpen = (s.drives.grout || s.chans.drainOpen) := by
  have hreached : Test.reached.holds (compareNat (s.filtered .gv) r.target 0) = true := by
    rw [hf, compareNat_some, if_neg (Nat.not_lt.mpr ht)]
    split <;> rfl
  generalize hu : endClaim claimByVolume (closeGrout s) = u
  have hshut : (closeGrout s).drives.grout = false := by simp
  obtain ⟨udrives, udrain⟩ := endClaim_shut claimByVolume hshut
  rw [hu, closeGrout_drives] at udrives
  rw [hu, closeGrout_drainOpen] at udrain
  have useq : u.seq = s.seq := by rw [← hu]; simp
  have ugrout : u.grout = { s.grout with claim := none } := by rw [← hu]; simp
  have upend : u.faults.pending = [] := by rw [← hu]; simpa using hn
  have hstage : u.seq.stage = .grout := by rw [useq]; exact hs
  have hasked : (s.seq.stage == .grout && (s.seq.runState == .running || s.seq.runState == .paused) &&
      !s.stageEndHeld) = true := by simpa [hs, hh] using hrun
  have hwork : x = proceed chainBound (.stageEnd false) u := by
    rw [← hx, volumeDecision, hr]
    dsimp only
    rw [if_pos hasked, unaware_true _ _ s hreached, hu]
    exact reachWith_pass upend _ _
  obtain ⟨eseq, egrout, -⟩ := proceed_stageEnd_grout_fields false hstage
  obtain ⟨edrives, edrain⟩ := proceed_stageEnd_grout_valve false hstage
  rw [hwork, eseq, egrout, edrives, edrain, useq, ugrout, udrives, udrain]
  refine ⟨rfl, ?_, rfl, rfl⟩
  simp [GroutControl.stageLess, hr]

/-! ## GP sample events (R110 to R113) -/

section
variable {s x : State} {r : GroutRecord} {c : Claim} {m p : Nat} (hl : s.drivesLegal = true)
  (hs : s.seq.stage = .grout)

include hl hs in
/-- In a GROUT stage the grout valve shut leaves every drive off, and open it is the only one on (R53). -/
theorem drives_withGrout (b : Bool) : { s.drives with grout := b } = { Drives.off with grout := b } := by
  rw [State.drives_of_grout hl hs]

variable (hrec : s.grout.record = some r) (hr : s.seq.runState = .running) (hc : s.grout.claim = some c)
  (hf : (takeSample (.gp m) s).filtered .gp = some p)

section
variable (hp : s.grout.phase = .draw) (hx : workAt .gp (takeSample (.gp m) s) = x)

include hp hx in
theorem workAt_draw : x = throttleDecision reach (takeSample (.gp m) s) := by
  rw [← hx]
  exact if_neg (by rw [show (takeSample (.gp m) s).grout.phase = .draw from hp]; decide)

include hl hs hrec hr hc hf hp hx

/-- Within the limit the valve stands open, and the rest of the work stays (R110). -/
theorem gpWork_within (hle : p ≤ r.limit) :
    ClosesQuietly s x ∧ x.seq = s.seq ∧ x.grout = s.grout ∧ x.faults = s.faults ∧
    x.drives = { Drives.off with grout := true } := by
  have hwork : x = if s.drives.grout then takeSample (.gp m) s else openGrout (takeSample (.gp m) s) :=
    (workAt_draw hp hx).trans (throttleDecision_open (s := takeSample (.gp m) s) hrec (State.grouting_iff.mpr ⟨hs, hr⟩) hp
      (by rw [show (takeSample (.gp m) s).grout.claim = some c from hc]; rfl) (by rw [hf]; exact clear_of_le hle))
  obtain ⟨hseq, hgrout, hfaults, hdrives⟩ : x.seq = s.seq ∧ x.grout = s.grout ∧ x.faults = s.faults ∧
      x.drives = { s.drives with grout := true } := by
    rw [hwork]
    split
    · rename_i hg
      exact ⟨rfl, rfl, rfl, by rw [← hg]; rfl⟩
    · exact ⟨rfl, rfl, rfl, rfl⟩
  rw [drives_withGrout hl hs] at hdrives
  have hrow : x.claimView.InRow := by
    refine ⟨?_, .inr ⟨hdrives, ?_, ?_, ?_⟩⟩ <;> simp only [State.claimView, hseq, hgrout]
    · exact hs
    · exact hr
    · exact hp
    · rw [hc]; rfl
  exact ⟨.of_row hl hs hrow (by rw [hseq]), hseq, hgrout, hfaults, hdrives⟩

variable (hn : s.faults.pending = []) (hover : r.limit < p)
include hover

omit hl in
theorem gpWork_over : x = onThrottle reach (takeSample (.gp m) s) :=
  (workAt_draw hp hx).trans (throttleDecision_over (s := takeSample (.gp m) s) hrec (State.grouting_iff.mpr ⟨hs, hr⟩) hp
    (by rw [show (takeSample (.gp m) s).grout.claim = some c from hc]; rfl) hf hover)

include hn

/-- Above the limit, short of the third time, the work is throttled (R110, R111). -/
theorem gpWork_throttled (ht : c.throttles < 2) :
    ClosesQuietly s x ∧ x.seq = { s.seq with held := none } ∧
    x.grout =
      { s.grout with
        record := some { r with throttles := min (r.throttles + 1) 65535 }
        claim := some { c with throttles := c.throttles + 1 }, phase := .throttled } ∧
    x.drives = .off ∧ x.chans.drainOpen = true ∧ x.faults = s.faults := by
  obtain ⟨hseq, hgrout, hdrives, hdrain, hfaults⟩ := onThrottle_passes (s := takeSample (.gp m) s) hn hc ht
  rw [← gpWork_over hs hrec hr hc hf hp hx hover] at hseq hgrout hdrives hdrain hfaults
  have hoff : x.drives = .off := hdrives.trans (drives_withGrout hl hs false)
  have hrow : x.claimView.InRow := ⟨by simp only [State.claimView, hseq]; exact hs, .inl hoff⟩
  refine ⟨.of_row hl hs hrow (by rw [hseq]; rfl), hseq, ?_, hoff, hdrain, hfaults⟩
  rw [hgrout]
  simp [throttleCounted, takeSample, State.updateChan, hrec, hc]

variable (ht : 2 ≤ c.throttles) (hq : s.watchQuiet = true)
include ht hq

/-- A third throttle, not masked: GROUT_REFUSAL is taken, its boundary held (R113). -/
theorem gpWork_refused (hm : s.masked .groutRefusal = false) :
    ClosesQuietly s x ∧ x.seq = { s.seq with runState := .faulted, held := some .refusal } ∧
    x.grout =
      { s.grout with record := some { r with throttles := min (r.throttles + 1) 65535 }, claim := none } ∧
    x.drives = .off ∧ .groutRefusal ∈ x.faults.seen ∧ x.faults.pending = [] ∧
    x.faults.taken.map TakenFault.kind = some .groutRefusal := by
  have hwork := gpWork_over hs hrec hr hc hf hp hx hover
  obtain ⟨hseq, hgrout, hdrives, hflt⟩ := onThrottle_refused (s := takeSample (.gp m) s) hs hp hn hc ht hm hwork.symm
  have hoff : x.drives = .off := hdrives.trans (drives_withGrout hl hs false)
  have hdecided : Work (takeSample (.gp m) s) x :=
    workAt_draw hp hx ▸ throttleDecision_work reach_work (takeSample (.gp m) s)
  refine ⟨.of_off hoff hdecided rfl hq, hseq, ?_, hoff, hflt⟩
  rw [hgrout]
  simp [throttleCounted, takeSample, State.updateChan, hrec]

/-- A third throttle, masked: the stage ends, its record marked as refused (R113). -/
theorem gpWork_ends (hm : s.masked .groutRefusal = true) :
    ClosesQuietly s x ∧ x.seq = { s.seq.stageLess with progress := .grouted, cure := Cure.started 0 } ∧
    x.grout =
      { s.grout.stageLess with
        record := some { r with throttles := min (r.throttles + 1) 65535, mark := .refused } } ∧
    x.drives = .off ∧ .groutRefusal ∈ x.faults.seen ∧ x.faults.pending = [] := by
  have hwork := gpWork_over hs hrec hr hc hf hp hx hover
  obtain ⟨hseq, hgrout, hdrives, hflt⟩ := onThrottle_ends (s := takeSample (.gp m) s) hs hn hc ht hm hwork.symm
  have hoff : x.drives = .off := hdrives.trans (drives_withGrout hl hs false)
  have hdecided : Work (takeSample (.gp m) s) x :=
    workAt_draw hp hx ▸ throttleDecision_work reach_work (takeSample (.gp m) s)
  refine ⟨.of_off hoff hdecided rfl hq, hseq, ?_, hoff, hflt⟩
  rw [hgrout]
  simp [throttleCounted, takeSample, State.updateChan, hrec, GroutControl.stageLess]

end

section
variable (hp : s.grout.phase = .throttled) (hx : workAt .gp (takeSample (.gp m) s) = x)

include hp hx in
theorem workAt_throttled : x = reopenDecision reach (takeSample (.gp m) s) := by
  rw [← hx]
  exact if_pos hp

include hl hs hrec hr hc hf hp hx

/-- Below the reopen pressure the work goes back into DRAW, its valve open (R112). -/
theorem gpWork_reopens (hn : s.faults.pending = []) (hre : p < r.reopen) (hle : p ≤ r.limit) :
    ClosesQuietly s x ∧ x.seq = { s.seq with held := none } ∧ x.grout = { s.grout with phase := .draw } ∧
    x.faults = s.faults ∧ x.drives = { Drives.off with grout := true } ∧ x.chans.drainOpen = false := by
  have hwork := (workAt_throttled hp hx).trans (reopenDecision_opens (s := takeSample (.gp m) s) hrec
    (State.grouting_iff.mpr ⟨hs, hr⟩) hp (by rw [show (takeSample (.gp m) s).grout.claim = some c from hc]; rfl) hn hf hre hle)
  have hdrives : x.drives = { Drives.off with grout := true } := by
    rw [← drives_withGrout hl hs, hwork]; rfl
  have hrow : x.claimView.InRow := by
    refine ⟨?_, .inr ⟨hdrives, ?_, ?_, ?_⟩⟩ <;> rw [hwork]
    · exact hs
    · exact hr
    · rfl
    · exact Option.isSome_of_eq_some hc
  exact ⟨.of_row hl hs hrow (by rw [hwork]; rfl), by rw [hwork]; rfl, by rw [hwork]; rfl, by rw [hwork]; rfl, hdrives,
    by rw [hwork]; rfl⟩

omit hr hc in
/-- From the reopen pressure up THROTTLED goes on (R112). -/
theorem gpWork_waits (hre : r.reopen ≤ p) :
    ClosesQuietly s x ∧ x.seq = s.seq ∧ x.grout = s.grout ∧ x.faults = s.faults ∧ x.drives = s.drives := by
  have hwork := (workAt_throttled hp hx).trans (reopenDecision_waits (s := takeSample (.gp m) s) hrec hf hre)
  have hrow : x.claimView.InRow := by rw [hwork]; exact claimView_inRow (s := takeSample (.gp m) s) hl hs
  exact ⟨.of_row hl hs hrow (by rw [hwork]; rfl), by rw [hwork]; rfl, by rw [hwork]; rfl, by rw [hwork]; rfl,
    by rw [hwork]; rfl⟩

end

end

/-! ## GV sample events (R114) -/

section
variable {s x : State} {r : GroutRecord} {p : Nat} (hl : s.drivesLegal = true) (hs : s.seq.stage = .grout)
  (hrec : s.grout.record = some r) (hf : (takeSample .gv s).filtered .gv = some p)
  (hx : workAt .gv (takeSample .gv s) = x)
include hl hs hrec hf hx

/-- The target volume reached ends the stage (R114). -/
theorem gvWork_reached (hr : s.seq.runState = .running ∨ s.seq.runState = .paused) (hh : s.stageEndHeld = false)
    (hn : s.faults.pending = []) (hq : s.watchQuiet = true) (ht : r.target ≤ p) :
    ClosesQuietly s x ∧ x.seq = { s.seq.stageLess with progress := .grouted, cure := Cure.started 0 } ∧
    x.grout = { s.grout.stageLess with record := some { r with mark := .complete } } ∧ x.drives = .off ∧
    x.chans.drainOpen = (s.drives.grout || s.chans.drainOpen) := by
  obtain ⟨hseq, hgrout, hdrives, hdrain⟩ := volumeDecision_reached (s := takeSample .gv s) hrec hs hr hh hn hf ht hx
  have hoff : x.drives = .off := hdrives.trans (drives_withGrout hl hs false)
  have hdecided : Work (takeSample .gv s) x := hx ▸ volumeDecision_work reach_work (takeSample .gv s)
  exact ⟨.of_off hoff hdecided rfl hq, hseq, hgrout, hoff, hdrain⟩

/-- Below the target volume the stage goes on (R114). -/
theorem gvWork_below (ht : p < r.target) :
    ClosesQuietly s x ∧ x.seq = s.seq ∧ x.grout = s.grout ∧ x.faults = s.faults ∧ x.drives = s.drives := by
  have hwork : x = takeSample .gv s :=
    hx.symm.trans (volumeDecision_below hf (congrArg (Option.map GroutRecord.target) hrec) ht)
  have hrow : x.claimView.InRow := by rw [hwork]; exact claimView_inRow (s := takeSample .gv s) hl hs
  exact ⟨.of_row hl hs hrow (by rw [hwork]; rfl), by rw [hwork]; rfl, by rw [hwork]; rfl, by rw [hwork]; rfl,
    by rw [hwork]; rfl⟩

end

/-- Settles O52: the readings of the grout gate, the ends of intent, claim and REST at a tick through `ClaimView`, and the
decisions of GP and GV sample events through what they leave. -/
theorem groutTicksMoveTheClaim : Obligations.GroutTicksMoveTheClaim := by
  intro r c e p m g s hl hs hrec hcfg
  refine ⟨isDrawer_iff hcfg e, drawers_eq_countP hcfg, groutTotal_eq_countP hcfg,
    fun hb hf hle => ⟨?intentDraws, ?intentGivesWay, ?claimEnds, fun hn hp ht hh =>
      ⟨?restShared, ?restAlone, ?restPaused, ?restHalted⟩⟩,
    fun hr hp hc hf hn => ⟨?within, ?throttled, ?refused, ?ended⟩, fun hr hp hc hf => ⟨?reopens, ?waits⟩,
    fun hr hh hf => ⟨?reached, ?below⟩⟩
  case intentDraws =>
    intro hr hp hn ht hroom
    have h := tick_intentDraws hs hr hp hn ht hl hb hrec hf hle hroom
    exact ⟨_, groutIntentEnd_due hs hr hp ht hb, (congrArg ClaimView.run h).trans hr, congrArg ClaimView.phase h,
      congrArg ClaimView.claim h, congrArg ClaimView.record h, congrArg ClaimView.drives h, congrArg ClaimView.drainOpen h⟩
  case intentGivesWay =>
    intro hr hp hn ht hfull hm
    have h := tick_intentGivesWay hs hr hp hn ht hl hb hfull hm
    have hoff : s.drives = .off := State.drives_beside_draw hl hs (by rw [hp]; decide)
    exact ⟨_, groutIntentEnd_due hs hr hp ht hb, (congrArg ClaimView.run h).trans hr, (congrArg ClaimView.claim h).trans hn,
      congrArg ClaimView.phase h, (congrArg ClaimView.record h).trans hrec, (congrArg ClaimView.drives h).trans hoff⟩
  case claimEnds =>
    intro hc ht
    have h := tick_claimEnds hs hc ht hl hb
    have hclaim : (secure s (noticeTick s)).grout.claim = none := congrArg ClaimView.claim h
    exact ⟨_, claimLimit_due hs hc ht hb, congrArg ClaimView.run h, (congrArg ClaimView.stage h).trans hs, hclaim,
      congrArg ClaimView.phase h, congrArg ClaimView.restTicks h, (congrArg ClaimView.record h).trans hrec,
      congrArg ClaimView.drives h, congrArg ClaimView.drainOpen h, congrArg Option.isSome hclaim⟩
  case restShared =>
    intro hr hm
    have h := tick_restShared hl hs hb hp hn ht hh hr hm
    have hoff : s.drives = .off := State.drives_beside_draw hl hs (by rw [hp]; decide)
    exact ⟨_, restEnd_due hs hn hp ht hh hb, (congrArg ClaimView.run h).trans hr, (congrArg ClaimView.claim h).trans hn,
      congrArg ClaimView.phase h, (congrArg ClaimView.record h).trans hrec, (congrArg ClaimView.drives h).trans hoff⟩
  case restAlone =>
    intro hr hm
    have h := tick_restAlone hl hs hb hp hn ht hh hrec hf hle hr hm
    exact ⟨_, restEnd_due hs hn hp ht hh hb, (congrArg ClaimView.run h).trans hr, congrArg ClaimView.phase h,
      congrArg ClaimView.claim h, congrArg ClaimView.record h, congrArg ClaimView.drives h⟩
  case restPaused =>
    intro hr
    have h := tick_restPaused hl hs hb hp hn ht hh hr
    have hoff : s.drives = .off := State.drives_beside_draw hl hs (by rw [hp]; decide)
    exact ⟨_, restEnd_due hs hn hp ht hh hb, (congrArg ClaimView.run h).trans hr, congrArg ClaimView.phase h,
      (congrArg ClaimView.claim h).trans hn, (congrArg ClaimView.held h).trans hh, (congrArg ClaimView.drives h).trans hoff⟩
  case restHalted =>
    intro hr
    have h := tick_restHalted hl hs hb hp hn ht hh hr
    have hoff : s.drives = .off := State.drives_beside_draw hl hs (by rw [hp]; decide)
    exact ⟨_, restEnd_due hs hn hp ht hh hb, congrArg ClaimView.run h, (congrArg ClaimView.phase h).trans hp,
      congrArg ClaimView.held h, (congrArg ClaimView.drives h).trans hoff⟩
  case within =>
    intro hle
    obtain ⟨hq, hseq, hgrout, hfaults, hdrives⟩ := gpWork_within hl hs hrec hr hc hf hp rfl hle
    obtain ⟨t, he, k⟩ := groutSample (i := .gp m) (.inl rfl) hf rfl hq
    exact ⟨t, he, k.seq.trans hseq, k.grout.trans hgrout, k.faults.trans hfaults, k.drives.trans hdrives⟩
  case throttled =>
    intro hover ht
    obtain ⟨hq, hseq, hgrout, hdrives, hdrain, hfaults⟩ := gpWork_throttled hl hs hrec hr hc hf hp rfl hn hover ht
    obtain ⟨t, he, k⟩ := groutSample (i := .gp m) (.inl rfl) hf rfl hq
    refine ⟨t, he, ?_⟩
    rw [k.seq.trans hseq, k.grout.trans hgrout]
    exact ⟨hr, hs, rfl, rfl, rfl, k.drives.trans hdrives, k.drainOpen.trans hdrain, k.faults.trans hfaults⟩
  case refused =>
    intro hover ht hm hwatch
    obtain ⟨hq, hseq, hgrout, hdrives, hseen, hpend, htaken⟩ :=
      gpWork_refused hl hs hrec hr hc hf hp rfl hn hover ht hwatch hm
    obtain ⟨t, he, k⟩ := groutSample (i := .gp m) (.inl rfl) hf rfl hq
    refine ⟨t, he, ?_⟩
    rw [k.seq.trans hseq, k.grout.trans hgrout, k.faults]
    exact ⟨rfl, hs, rfl, rfl, hp, rfl, k.drives.trans hdrives, rfl, hseen, hpend, htaken⟩
  case ended =>
    intro hover ht hm hwatch
    obtain ⟨hq, hseq, hgrout, hdrives, hseen, hpend⟩ :=
      gpWork_ends hl hs hrec hr hc hf hp rfl hn hover ht hwatch hm
    obtain ⟨t, he, k⟩ := groutSample (i := .gp m) (.inl rfl) hf rfl hq
    refine ⟨t, he, ?_⟩
    rw [k.seq.trans hseq, k.grout.trans hgrout, k.faults]
    exact ⟨rfl, rfl, rfl, rfl, rfl, k.drives.trans hdrives, rfl, rfl, hseen, hpend⟩
  case reopens =>
    intro hre hle hn
    obtain ⟨hq, hseq, hgrout, hfaults, hdrives, hdrain⟩ := gpWork_reopens hl hs hrec hr hc hf hp rfl hn hre hle
    obtain ⟨t, he, k⟩ := groutSample (i := .gp m) (.inl rfl) hf rfl hq
    exact ⟨t, he, (congrArg Sequencer.runState (k.seq.trans hseq)).trans hr, k.grout.trans hgrout, k.faults.trans hfaults,
      k.drives.trans hdrives, k.drainOpen.trans hdrain⟩
  case waits =>
    intro hre
    obtain ⟨hq, hseq, hgrout, hfaults, hdrives⟩ := gpWork_waits hl hs hrec hf hp rfl hre
    obtain ⟨t, he, k⟩ := groutSample (i := .gp m) (.inl rfl) hf rfl hq
    exact ⟨t, he, k.seq.trans hseq, k.grout.trans hgrout, k.faults.trans hfaults, k.drives.trans hdrives⟩
  case reached =>
    intro ht hn hwatch
    obtain ⟨hq, hseq, hgrout, hdrives, hdrain⟩ := gvWork_reached hl hs hrec hf rfl hr hh hn hwatch ht
    obtain ⟨t, he, k⟩ := groutSample (i := .gv) (.inr rfl) hf rfl hq
    refine ⟨t, he, ?_⟩
    rw [k.seq.trans hseq, k.grout.trans hgrout]
    exact ⟨rfl, rfl, rfl, rfl, rfl, rfl, rfl, k.drives.trans hdrives, k.drainOpen.trans hdrain, rfl⟩
  case below =>
    intro ht
    obtain ⟨hq, hseq, hgrout, hfaults, hdrives⟩ := gvWork_below hl hs hrec hf rfl ht
    obtain ⟨t, he, k⟩ := groutSample (i := .gv) (.inr rfl) hf rfl hq
    exact ⟨t, he, k.seq.trans hseq, k.grout.trans hgrout, k.faults.trans hfaults, k.drives.trans hdrives⟩

end Sys2Proof.Machine
end

section
/-!
PROOF. What a LOAD sample event can do to a STRESS stage with the lower valve shut: the boundaries that its value can chain
leave the work going on, stopped by a kind of class maskable, or ended (O43).
-/
namespace Sys2Proof.Machine

/-! ## A STRESS stage that goes on with the lower valve shut -/

/-- A sound STRESS stage goes on in RUNNING with its lower valve shut: a closing of that valve is none, and asks nothing. -/
structure ValveShut (s : State) : Prop where
  stage : s.seq.stage = .stress
  run : s.seq.runState = .running
  standing : s.standing = true
  lower : s.drives.lower = false

section
variable {s t : State} (h : ValveShut s)
include h

theorem ValveShut.active : s.seq.stage ≠ .none := by rw [h.stage]; decide

theorem ValveShut.interruptible {n : Nat} : Interruptible .stress .running n s := ⟨h.stage, .inl h.run⟩

/-- Work that moves neither the sequencer nor the lower valve. -/
theorem ValveShut.after (hw : Work s t) (hq : t.seq = s.seq) (hl : t.drives.lower = s.drives.lower) : ValveShut t :=
  ⟨hq ▸ h.stage, hq ▸ h.run, hw.standing h.standing, hl.trans h.lower⟩

/-- The phase changed (R123). -/
theorem ValveShut.inPhase (p : StepPhase) : ValveShut (setStepPhase p s) :=
  h.after (setStepPhase_work p s) (by simp) (by simp)

/-- What a boundary has held is released. -/
theorem ValveShut.released : ValveShut { s with seq := { s.seq with held := none } } :=
  ⟨h.stage, h.run, h.standing, h.lower⟩

end

/-! ## A stop that gives true (R126, R129, R147, R155) -/

/-- The stage goes on with its lower valve shut, or a kind of class maskable has stopped it. -/
def ShutOrHalted (s : State) : Prop := ValveShut s ∨ ∃ f, Halted .stress f s ∧ 6 < f.kind.priority

/-- A detection of class maskable leaves the drives, unless it is VOID_TEST and stops the work (R164, R165). -/
theorem ValveShut.detect {s : State} (h : ValveShut s) {k : FaultKind} (d : Detail)
    (hk : k = .voidTest ∨ k = .lengthOut ∨ k = .lockLoss) : ShutOrHalted (detect k d s) := by
  have hwork : Work s (Machine.detect k d s) := detect_work d fun _ => h.active
  have hpends : k.maskable = true → k ≠ .voidTest → k ≠ .anchorDrift → ShutOrHalted (Machine.detect k d s) :=
    fun hm hv ha => by
      have hd := detect_maskable d s hm hv ha
      refine .inl (h.after hwork ?_ ?_) <;> rw [hd] <;> split <;> rfl
  rcases hk with rfl | rfl | rfl
  · rcases detect_voidTest_cases (.inl rfl) d h.interruptible with e | ⟨f, hf, hk⟩
    · exact .inl (h.after hwork (by rw [e]; rfl) (by rw [e]; rfl))
    · exact .inr ⟨f, hf, by rw [hk]; decide⟩
  · exact hpends rfl (by decide) (by decide)
  · exact hpends rfl (by decide) (by decide)

theorem judgeLength_shut {s : State} (h : ValveShut s) (l : Option Int) : ShutOrHalted (judgeLength l s) := by
  have hsummary : ∀ f, ValveShut (updateSummary f s) := fun f => h.after (.quiet rfl) rfl rfl
  cases l with
  | none => exact (hsummary _).detect _ (.inl rfl)
  | some l =>
    unfold judgeLength
    dsimp only
    split
    · exact (hsummary _).detect _ (.inr (.inl rfl))
    · exact (hsummary _).detect _ (.inr (.inl rfl))
    · exact .inl (hsummary _)

theorem takePair_shut {s : State} (h : ValveShut s) (p : LoadExt) : ShutOrHalted (takePair p s) := by
  unfold takePair
  split
  · unfold takeDatumPair
    dsimp only
    refine judgeLength_shut (?_ : ValveShut (updateSummary _ _)) _
    exact h.after (.quiet rfl) rfl rfl
  · split
    · exact .inl (h.after (.quiet rfl) rfl rfl)
    · exact .inl h

theorem stepReached_shut {s : State} (h : ValveShut s) : ShutOrHalted (stepReached s) := by
  have hreached : ValveShut (handReached s) := h.after (.quiet rfl) rfl rfl
  unfold stepReached
  dsimp only
  generalize handReached s = t at hreached
  have hdone : ValveShut (updateEntry (StepEntry.setOutcome .done) t) := hreached.after (.quiet rfl) rfl rfl
  split
  · split
    · exact takePair_shut hdone _
    · exact .inl hreached
  · exact .inl hreached

/-! ## The boundaries of a moment with the lower valve shut -/

/-- The boundaries that a LOAD sample event reaches in a STRESS stage, but for the stage's own end. -/
def LoadBoundary (b : Boundary) : Prop :=
  b ∈ [.raiseWaitEnd, .approachAbove, .approachWithin, .rampUpEnd, .rampDownEnd, .seatingEnd, .releaseEnd]

/-- A way of reaching these boundaries that leaves the work going on, or stopped by a kind of class maskable. -/
def LeavesInterruptible (reach : Boundary → State → State) : Prop :=
  ∀ b s, LoadBoundary b → ValveShut s → Interruptible .stress .running 6 (reach b s)

section
variable {reach : Boundary → State → State} (hr : LeavesInterruptible reach) {s : State} (h : ValveShut s)
include hr h

theorem finishPhase_interruptible {b : Boundary} (hb : LoadBoundary b) :
    Interruptible .stress .running 6 (finishPhase reach b (stepReached s)) := by
  unfold finishPhase
  rcases stepReached_shut h with hs | ⟨f, hf, hp⟩
  · rw [if_pos hs.run]
    exact hr b _ hb hs
  · rw [if_neg (by simp [hf.run])]
    exact ⟨hf.stage, .inr ⟨f, ⟨hf.stage, hf.run, hf.taken, hf.claim⟩, hp⟩⟩

theorem raiseGate_interruptible : Interruptible .stress .running 6 (raiseGate reach s) := by
  unfold raiseGate
  split
  · exact hr _ s (by simp [LoadBoundary]) h
  · exact h.interruptible

theorem rampStop_interruptible (b : Bool) : Interruptible .stress .running 6 (rampStop reach b s) := by
  have hstopped : Interruptible .stress .running 6 (rampStopped reach s) := by
    unfold rampStopped
    dsimp only
    refine finishPhase_interruptible hr ?_ (by simp [LoadBoundary])
    split
    · exact h.after (.quiet rfl) rfl rfl
    · exact h.after (.quiet rfl) rfl rfl
  unfold rampStop
  split
  · exact unaware_interruptible (.inl rfl) h.interruptible hstopped fun _ hu => hu.of_eq rfl rfl rfl
  · exact h.interruptible

theorem rampSample_interruptible : Interruptible .stress .running 6 (rampSample reach s) := by
  unfold rampSample
  dsimp only
  refine rampStop_interruptible hr (?_ : ValveShut _) _
  exact h.after (.quiet rfl) rfl rfl

theorem unloadStop_interruptible : Interruptible .stress .running 6 (unloadStop reach s) := by
  have hstopped : Interruptible .stress .running 6 (unloadStopped reach s) := by
    unfold unloadStopped
    rw [shutLower_shut h.lower]
    split
    · exact finishPhase_interruptible hr h (by simp [LoadBoundary])
    · exact h.interruptible
  unfold unloadStop
  split
  · exact unaware_interruptible (.inl rfl) h.interruptible hstopped fun _ hu => hu.of_eq rfl rfl rfl
  · exact h.interruptible

theorem startSeating_interruptible : Interruptible .stress .running 6 (startSeating reach s) := by
  unfold startSeating
  dsimp only
  split
  · exact hr _ _ (by simp [LoadBoundary]) (h.after (.quiet rfl) rfl rfl)
  · exact h.interruptible.of_eq rfl rfl rfl

theorem enterSeating_interruptible : Interruptible .stress .running 6 (enterSeating reach s) :=
  startSeating_interruptible hr ((h.inPhase .seating).after (.quiet rfl) rfl rfl)

theorem enterRelease_interruptible : Interruptible .stress .running 6 (enterRelease reach s) := by
  have hp := h.inPhase .release
  unfold enterRelease startRelease
  dsimp only
  split
  · exact hr _ _ (by simp [LoadBoundary])
      ⟨hp.stage, hp.run, (Work.quiet rfl : Work (setStepPhase .release s) _).standing hp.standing, rfl⟩
  · exact hp.interruptible.of_eq rfl rfl rfl

theorem lockApproach_interruptible (atStart : Bool) :
    Interruptible .stress .running 6 (lockApproach reach atStart s) := by
  have hmade : ValveShut { s with jack := { s.jack with approach := .made } } := h.after (.quiet rfl) rfl rfl
  unfold lockApproach
  split
  · dsimp only
    split
    · exact h.interruptible
    · exact raiseGate_interruptible hr hmade
    · split
      · exact unloadStop_interruptible hr (hmade.inPhase .rampDown)
      · exact hr _ _ (by simp [LoadBoundary]) hmade
    · split
      · exact enterSeating_interruptible hr hmade
      · exact hr _ _ (by simp [LoadBoundary]) hmade
  · exact h.interruptible

theorem beginStep_interruptible (i : Nat) : Interruptible .stress .running 6 (beginStep reach i s) := by
  have hopen : ValveShut (logEvent .stepStart i { s with jack := { s.jack with stepIndex := i, approach := .none } }) :=
    h.after (.after (logEvent_work _ _ _) rfl) (by simp) (by simp)
  unfold beginStep
  dsimp only
  generalize logEvent .stepStart i { s with jack := { s.jack with stepIndex := i, approach := .none } } = t at hopen
  split
  · exact hopen.interruptible
  · rename_i x _
    have hentry : ValveShut { t with eval := { t.eval with results := t.eval.results ++ [StepEntry.opened i x] } } :=
      hopen.after (.quiet rfl) rfl rfl
    generalize ({ t with eval := { t.eval with results := t.eval.results ++ [StepEntry.opened i x] } } : State) = u at hentry
    have hwait : ValveShut (resetGateTimer (setStepPhase .raiseWait u)) :=
      (hentry.inPhase .raiseWait).after (.quiet rfl) rfl rfl
    split
    · exact raiseGate_interruptible hr hwait
    · exact unloadStop_interruptible hr (hentry.inPhase .rampDown)
    · exact lockApproach_interruptible hr (s := { resetGateTimer (setStepPhase .raiseWait u) with
        jack := { (resetGateTimer (setStepPhase .raiseWait u)).jack with approach := .pending } })
        (hwait.after (.quiet rfl) rfl rfl) true

theorem afterRamp_interruptible : Interruptible .stress .running 6 (afterRamp reach s) := by
  unfold afterRamp
  split
  · split
    · exact enterSeating_interruptible hr h
    · split
      · exact beginStep_interruptible hr h _
      · exact loadMaintenance_interruptible (.inl rfl) ((h.inPhase .hold).interruptible.of_eq rfl rfl rfl)
  · exact h.interruptible

end

theorem reachWith_leavesInterruptible {pass : Boundary → State → State} (hp : LeavesInterruptible pass) :
    LeavesInterruptible (reachWith pass) := fun b s hb h =>
  reachWith_interruptible (State.pendingSound_of_standing h.standing) h.stage fun _ => hp b s hb h

theorem proceed_leavesInterruptible (n : Nat) : LeavesInterruptible (proceed n) := by
  induction n with
  | zero => exact fun _ _ _ h => h.interruptible
  | succ n ih =>
    intro b s hb h
    have hr := reachWith_leavesInterruptible ih
    have h' := h.released
    unfold proceed
    dsimp only
    simp only [LoadBoundary, List.mem_cons, List.not_mem_nil, or_false] at hb
    rcases hb with rfl | rfl | rfl | rfl | rfl | rfl | rfl
    case inl => exact (h'.inPhase .raiseIntent).interruptible.of_eq rfl rfl rfl
    case inr.inl => exact unloadStop_interruptible hr (h'.inPhase .rampDown)
    case inr.inr.inl => exact enterSeating_interruptible hr h'
    case inr.inr.inr.inl => exact afterRamp_interruptible hr h'
    case inr.inr.inr.inr.inl => exact afterRamp_interruptible hr h'
    case inr.inr.inr.inr.inr.inl => exact enterRelease_interruptible hr h'
    case inr.inr.inr.inr.inr.inr => exact (h'.inPhase .settle).interruptible.of_eq rfl rfl rfl

theorem reach_leavesInterruptible : LeavesInterruptible reach :=
  reachWith_leavesInterruptible (proceed_leavesInterruptible _)

/-! ## The decisions on LOAD (R125, R126, R129, R131, R135) -/

/-- The end of SETTLE ends the stage, unless a kind that waits for a boundary is taken there (R135, R136, R167). -/
theorem settleEnd_course {s : State} (h : ValveShut s) : Course .stress .running 6 (settleEnd reach s) := by
  have hends : ∀ {u}, ValveShut u → Course .stress .running 6 (reach (.stageEnd false) u) := fun {u} hu => by
    by_cases hn : u.faults.pending = []
    · right
      rw [reach, reachWith_pass hn, (proceed_stageEnd_stress_fields false hu.stage).1]
      rfl
    · obtain ⟨f, hf, hp⟩ := reachWith_pending (proceed chainBound) (.stageEnd false)
        (State.pendingSound_of_standing hu.standing) hu.stage hn
      exact .inl (hf.interruptible _ hp)
  unfold settleEnd
  split
  · split
    · exact .inl h.interruptible
    · dsimp only
      split
      · have hm : FaultKind.lockLoss.maskable = true := rfl
        refine hends (h.after (.after (detect_work _ (by simp)) rfl) ?_ ?_)
        · rw [detect_runState _ _ hm (by decide)]; rfl
        · rw [detect_maskable _ _ hm (by decide) (by decide)]; split <;> rfl
      · exact hends (h.after (.quiet rfl) rfl rfl)
  · exact .inl h.interruptible

/-- Beside RUNNING and an abort's lowering LOAD is read in HOLD only (R131). -/
theorem loadWork_held {s : State} (hs : s.seq.stage ≠ .none) (hr : s.seq.runState ≠ .running)
    (ha : s.seq.runState ≠ .aborting) :
    loadWork s = if s.seq.stage = .stress ∧ s.jack.phase = .hold then loadMaintenance s else s := by
  have hidle : ∀ p, s.stressing p = false := fun p => by simp [State.stressing, hr]
  unfold loadWork
  split
  · exact absurd ‹_› hs
  · simp [*]
  · simp [*]
  · split <;> simp [*, lockApproach, settleEnd, unloadStop_other hr, lowering_other ha]

/-- With the lower valve shut the decisions on LOAD leave the work of a sound stage going on, stopped by a kind of class
maskable, or ended. -/
theorem loadWork_course {s : State} (hst : s.standing = true) (hs : s.seq.stage ≠ .none)
    (hr : s.seq.runState = .running ∨ s.seq.runState = .paused) (hl : s.drives.lower = false) :
    Course s.seq.stage s.seq.runState 6 (loadWork s) := by
  have hi : Interruptible s.seq.stage s.seq.runState 6 s := ⟨rfl, .inl rfl⟩
  rcases hr with hr | hr
  · by_cases hstress : s.seq.stage = .stress
    · have h : ValveShut s := ⟨hstress, hr, hst, hl⟩
      rw [hstress, hr] at hi ⊢
      unfold loadWork
      simp only [hstress]
      split
      · exact .inl (lockApproach_interruptible reach_leavesInterruptible h false)
      · split
        · exact .inl (rampSample_interruptible reach_leavesInterruptible h)
        · exact .inl hi
      · exact .inl (loadMaintenance_interruptible (.inl rfl) hi)
      · have hstop := unloadStop_interruptible reach_leavesInterruptible h
        rw [lowering_other (hstop.ne_aborting (by decide))]
        exact .inl hstop
      · exact settleEnd_course h
      all_goals exact .inl hi
    · have hidle : loadWork s = s := by unfold loadWork; split <;> simp_all
      rw [hidle]
      exact .inl hi
  · rw [loadWork_held hs (by simp [hr]) (by simp [hr])]
    split
    · exact .inl (loadMaintenance_interruptible (.inr (.inl hr)) hi)
    · exact .inl hi

end Sys2Proof.Machine
end

section
/-!
PROOF. Overload and stroke at a sample event: with a stage they are taken whatever else the value brings, at a closing of the
lower valve too (O43).
-/
namespace Sys2Proof.Machine

/-! ## Kinds seen beside work (R164, R168) -/

/-- A kind that is detected where the stage stands active is seen, whether it acts before or after the work. -/
theorem besideKinds_seen {k : FaultKind} {kinds work : State → State} {v : State} (hs : v.seq.stage ≠ .none)
    (ha : v.seq.runState ≠ .aborting) (hk : ∀ u, u.seq.stage ≠ .none → k ∈ (kinds u).faults.seen)
    (hw : ∀ u, Work u (work u)) : k ∈ (besideKinds kinds work v).faults.seen := by
  refine besideKinds_elim (p := fun t => k ∈ t.faults.seen) (fun hactive => hk _ ?_) ((hw _).seen k (hk v hs))
    fun _ _ h => h
  simpa [State.stageActive] using hactive (by simpa [State.stageActive] using hs) ha

/-- Both kinds that are due at a closing of the lower valve are seen, in either order (R172). -/
theorem watchAsked_seen {u s : State} (hs : s.seq.stage ≠ .none) (hu : u.strokeEnded = true) :
    .strokeEnd ∈ (watchAsked u s).faults.seen := by
  have hstroke : ∀ t : State, t.seq.stage ≠ .none →
      .strokeEnd ∈ (detectIf u.strokeEnded .strokeEnd .none t).faults.seen := fun t ht => by
    rw [hu]; exact detect_seen _ ht rfl (by decide)
  refine eitherOrder_elim (p := fun t => .strokeEnd ∈ t.faults.seen) (hstroke _ ?_) ?_ fun _ _ h => h
  · exact detectIf_elim (p := fun t => t.seq.stage ≠ .none) (fun _ => hs) fun _ => by rwa [detect_stage]
  · exact (detectIf_work _ _ (by decide) _).seen _ (hstroke s hs)

/-! ## The two decisions on a value -/

theorem State.overloaded_of_value {g : Setup} {v : Nat} {s : State} (hg : s.seq.config = some g)
    (hv : s.filtered .load = some v) (h : g.loadLimit < v) (hl : s.drives.lower = false) : s.overloaded = true := by
  simp only [State.overloaded, hg, hv, hl, compareNat_some]
  rw [if_neg (by omega), if_pos h]
  rfl

theorem State.strokeEnded_of_value {g : Setup} {v : Nat} {s : State} (hg : s.seq.config = some g)
    (hv : s.filtered .ext = some v) (h : g.strokeLimit ≤ v) (hl : s.drives.lower = false) : s.strokeEnded = true := by
  simp only [State.strokeEnded, hg, hv, hl, compareNat_some]
  rw [if_neg (by omega)]
  split <;> rfl

/-! ## A kind taken at once in FAULTED or STOPPED (R170, R171) -/

@[simp] theorem logTaken_drives (k : FaultKind) (s : State) : (logTaken k s).drives = s.drives := by
  unfold logTaken; split <;> simp

/-- In FAULTED and STOPPED a detection leaves the sequencer and the drives. -/
theorem detect_stopped_fields {k : FaultKind} (d : Detail) {s : State} (hs : s.seq.stage ≠ .none)
    (hm : k.maskable = false) (hk : k ≠ .wallStop) (hst : s.faultMatches = true)
    (hr : s.seq.runState = .faulted ∨ s.seq.runState = .stopped) :
    (detect k d s).seq = s.seq ∧ (detect k d s).drives = s.drives := by
  rw [detect_atOnce d hs hm hk]
  rcases hr with hr | hr
  · cases ht : s.faults.taken with
    | none => simp [State.faultMatches, ht, hr] at hst
    | some f =>
      simp only [takeAtOnce, seeKind, hr, ht]
      split
      · simp [replaceTaken, writeTaken, hk]
      · exact ⟨rfl, rfl⟩
  · simp [takeAtOnce, seeKind, hr]

/-- In FAULTED the kind stands taken after its detection, or one of no lower priority other than WALL_STOP. -/
theorem detect_faulted_taken {k : FaultKind} (d : Detail) {s : State} (hs : s.seq.stage ≠ .none)
    (hm : k.maskable = false) (hk : k ≠ .wallStop) (hst : s.faultMatches = true)
    (hr : s.seq.runState = .faulted) :
    ∃ f, (detect k d s).faults.taken = some f ∧ f.kind.priority ≤ k.priority ∧ f.kind ≠ .wallStop := by
  rw [detect_atOnce d hs hm hk]
  cases ht : s.faults.taken with
  | none => simp [State.faultMatches, ht, hr] at hst
  | some f =>
    have hf : f.kind ≠ .wallStop := fun e => by simp [State.faultMatches, ht, hr, e] at hst
    simp only [takeAtOnce, seeKind, hr, ht]
    split
    · exact ⟨_, rfl, Nat.le_refl _, hk⟩
    · exact ⟨f, rfl, by omega, hf⟩

/-- In STOPPED a detection leaves WALL_STOP taken. -/
theorem detect_stopped_taken {k : FaultKind} (d : Detail) {s : State} (hs : s.seq.stage ≠ .none)
    (hm : k.maskable = false) (hk : k ≠ .wallStop) (hst : s.faultMatches = true)
    (hr : s.seq.runState = .stopped) :
    ∃ f, (detect k d s).faults.taken = some f ∧ f.kind = .wallStop := by
  rw [detect_atOnce d hs hm hk]
  cases ht : s.faults.taken with
  | none => simp [State.faultMatches, ht, hr] at hst
  | some f =>
    refine ⟨f, by simp [takeAtOnce, seeKind, hr, ht], ?_⟩
    by_contra hf
    simp [State.faultMatches, ht, hr, hf] at hst

/-! ## The event that takes the kind -/

/-- An event that detects `k` at once with a stage active: the kind is seen, every drive is off, and the stage stands stopped
with a kind taken that is `k` or higher, WALL_STOP in STOPPED alone. -/
structure StopsStage (k : FaultKind) (s t : State) : Prop where
  seen : k ∈ t.faults.seen
  run : t.seq.runState = if s.seq.runState = .stopped then .stopped else .faulted
  drives : t.drives = .off
  stage : t.seq.stage = s.seq.stage
  taken : ∃ f, t.faults.taken = some f ∧ f.kind.priority ≤ k.priority ∧
    (f.kind = .wallStop ↔ s.seq.runState = .stopped)

theorem sampleEvent_standing {s : State} (i : SampleInput) (r : Option ContactRead) (h : s.standing = true) :
    (finish s (sampleWork i r s)).standing = true := by
  obtain ⟨v, hp, hk⟩ := exec_acts (c := .sampleEvent i r) (by simp) rfl
  exact hk.standing (hp.standing h)

/-- The taken kind of a sound station in FAULTED is not WALL_STOP, in STOPPED it is (R50). -/
theorem State.taken_wallStop {s : State} {f : TakenFault} (h : s.standing = true) (hf : s.faults.taken = some f) :
    f.kind = .wallStop ↔ s.seq.runState = .stopped := by
  have hm := (State.standing_iff.mp h).1
  simp only [State.faultMatches, hf, beq_iff_eq] at hm
  rw [hm]
  split <;> simp [*]

/-- Effects that stand FAULTED at the close of the event. -/
theorem StopsStage.of_halted {k : FaultKind} {s x : State} (hr : s.seq.runState ≠ .stopped)
    (h : HaltedAbove s.seq.stage k.priority (finish s x)) (hst : (finish s x).standing = true)
    (hseen : k ∈ x.faults.seen) : StopsStage k s (finish s x) := by
  obtain ⟨f, hf, hp⟩ := h
  refine ⟨finish_seen hseen, by rw [hf.run, if_neg hr], finish_halted_drives hf, hf.stage, f, hf.taken, hp, ?_⟩
  rw [State.taken_wallStop hst hf.taken, hf.run]
  simp [hr]

/-- At the close of a sample event the kind that overload and stroke come to on its values stays taken (R137, R138, R170). -/
theorem Halted.finish_sample {st : Stage} {f : TakenFault} {i : SampleInput} {r : Option ContactRead} {s : State}
    (h : Halted st f (sampleWork i r s)) (hk : f.kind = State.watchTaken { takeSample i s with drives := .off }) :
    Halted st f (Machine.finish s (sampleWork i r s)) := by
  have hfield := (sampleWork_readBy i r s).field
  have hshut : SameField { takeSample i s with drives := .off } { sampleWork i r s with drives := .off } := ⟨
    hfield.reading, hfield.gvCount, hfield.gvOver, hfield.entries, hfield.lineQueue, hfield.lineState, hfield.port,
    hfield.config, hfield.mask⟩
  exact h.finish (.inr (hk.trans (hshut.watchTaken rfl).symm))

/-- Where the station stands stopped already, the detection acts alone and the event closes with it. -/
theorem StopsStage.of_stopped {k : FaultKind} {s x u : State} (hl : s.drivesLegal = true) (hst : s.standing = true)
    (hs : s.seq.stage ≠ .none) (hr : s.seq.runState = .faulted ∨ s.seq.runState = .stopped)
    (hm : k.maskable = false) (hk : k ≠ .wallStop) (huq : u.seq = s.seq) (huf : u.faults = s.faults)
    (hud : u.drives = s.drives) (hxq : x.seq = (detect k .none u).seq)
    (hxf : x.faults = (detect k .none u).faults) (hxd : x.drives = (detect k .none u).drives) :
    StopsStage k s (finish s x) := by
  have hoff : s.drives = .off := by
    refine State.drives_off hl ?_ ?_ ?_ <;> rcases hr with e | e <;> simp [e]
  have hmatch : u.faultMatches = true := by
    have := (State.standing_iff.mp hst).1
    simpa only [State.faultMatches, huq, huf] using this
  have hsu : u.seq.stage ≠ .none := huq ▸ hs
  obtain ⟨hdq, hdd⟩ := detect_stopped_fields .none hsu hm hk hmatch (huq ▸ hr)
  have hxoff : x.drives = .off := by rw [hxd, hdd, hud, hoff]
  have hxs : x.seq = s.seq := by rw [hxq, hdq, huq]
  have hlegal := State.drivesLegal_of_off hxoff
  obtain ⟨fq, -, fd, ff, -⟩ :=
    finish_fields (s := s) (settle_same hlegal (by rw [hxs]) (by rw [hxoff, hoff])) hlegal
  have hseen := detect_seen .none hsu hm hk
  refine ⟨by rw [ff, hxf]; exact hseen, ?_, fd.trans hxoff, by rw [fq, hxs], ?_⟩
  · rw [fq, hxs]; rcases hr with e | e <;> simp [e]
  · rw [ff, hxf]
    rcases hr with e | e
    · obtain ⟨f, hf, hp, hw⟩ := detect_faulted_taken .none hsu hm hk hmatch (by rw [huq, e])
      exact ⟨f, hf, hp, by simp [hw, e]⟩
    · obtain ⟨f, hf, hw⟩ := detect_stopped_taken .none hsu hm hk hmatch (by rw [huq, e])
      exact ⟨f, hf, by rw [hw]; cases k <;> decide, by simp [hw, e]⟩

/-- The run states of an active stage (R32). -/
theorem State.runState_cases {s : State} (hst : s.standing = true) (hs : s.seq.stage ≠ .none) :
    Working s.seq.runState ∨ s.seq.runState = .faulted ∨ s.seq.runState = .stopped := by
  have hn : ∀ r, s.seq.runState = r → r ≠ .unconfigured ∧ r ≠ .idle := fun r e =>
    ⟨fun h => hs (State.stage_none hst (.inl (e.trans h))), fun h => hs (State.stage_none hst (.inr (e.trans h)))⟩
  unfold Working
  cases e : s.seq.runState <;> simp_all

/-! ## Overload (R137) -/

section
variable {g : Setup} {m v : Nat} {s : State} (hg : s.seq.config = some g)
  (hv : (takeSample (.load m) s).filtered .load = some v)

/-- What a LOAD value above the limit detects with the stage active, beside the mark of the drift watch. -/
def overloadKinds : State → State := watchAt .load (some .loadLimit) false

theorem overloadKinds_staged {u : State} (hu : u.seq.stage ≠ .none) :
    overloadKinds u =
      { detect .loadLimit .none u with
        chans := { (detect .loadLimit .none u).chans with driftLostBefore := false } } := by
  rw [overloadKinds, watchAt_eq, if_pos rfl]
  have hd : (detect .loadLimit .none u).seq.stage ≠ .none := by rwa [detect_stage]
  exact driftLossWatch_staged hd

theorem overloadKinds_seen {u : State} (hu : u.seq.stage ≠ .none) : .loadLimit ∈ (overloadKinds u).faults.seen := by
  rw [overloadKinds_staged hu]
  exact detect_seen _ hu rfl (by decide)

include hg hv in
/-- A LOAD value above the limit detects the overload beside the decisions on LOAD. -/
theorem sampleWork_overload (h : g.loadLimit < v) (hl : s.drives.lower = false) :
    sampleWork (.load m) none s =
      markLost .load false (besideKinds overloadKinds loadWork (takeSample (.load m) s)) := by
  have ho : (takeSample (.load m) s).overloaded = true := State.overloaded_of_value hg hv h hl
  have hlost : (takeSample (.load m) s).standsLost .load = false := standsLost_of_value hv
  simp only [sampleWork, show inputChannel (.load m) = .load from rfl, State.watchKind, ho, if_true, hlost]
  rfl

include hg hv in
/-- While the work goes on the overload stands taken after the event, beside whatever boundary the value reaches. -/
theorem overload_halts (h : g.loadLimit < v) (hl : s.drives.lower = false) (hst : s.standing = true)
    (hs : s.seq.stage ≠ .none) (hr : s.seq.runState = .running ∨ s.seq.runState = .paused) :
    .loadLimit ∈ (sampleWork (.load m) none s).faults.seen ∧
    ∃ f, Halted s.seq.stage f (sampleWork (.load m) none s) ∧ f.kind = .loadLimit := by
  rw [sampleWork_overload hg hv h hl]
  have hstu : (takeSample (.load m) s).standing = true := hst
  have hul : (takeSample (.load m) s).drives.lower = false := hl
  have huq : (takeSample (.load m) s).seq = s.seq := rfl
  generalize takeSample (.load m) s = u at *
  have hsu : u.seq.stage ≠ .none := by rw [huq]; exact hs
  have ha : u.seq.runState ≠ .aborting := by rw [huq]; rcases hr with e | e <;> simp [e]
  have hworking : Working u.seq.runState := by rw [huq]; exact hr.imp id .inl
  refine ⟨besideKinds_seen hsu ha (fun _ => overloadKinds_seen) loadWork_work, ?_⟩
  obtain ⟨f, hf, hk⟩ : ∃ f, Halted s.seq.stage f (besideKinds overloadKinds loadWork u) ∧ f.kind = .loadLimit := by
    refine besideKinds_halts (n := 6) hs (by rw [huq]) rfl ha (fun w hw => ?_) ?_ fun f w hw => workAt_halted hs .load hw
    · obtain ⟨f, hf, hk, -⟩ := detect_halts (k := .loadLimit) .none hworking hs (hw.mono (by decide)) rfl (by decide)
      refine ⟨f, ?_, hk⟩
      rw [overloadKinds_staged (hw.stage ▸ hs)]
      exact hf.of_eq rfl rfl rfl
    · rw [← huq]
      exact loadWork_course hstu hsu (by rw [huq]; exact hr) hul
  exact ⟨f, hf.of_eq rfl rfl rfl, hk⟩

include hg hv in
/-- Once a fault has stopped the work, the overload is detected alone. -/
theorem overload_alone (h : g.loadLimit < v) (hl : s.drives.lower = false) (hst : s.standing = true)
    (hs : s.seq.stage ≠ .none) (hr : s.seq.runState = .faulted ∨ s.seq.runState = .stopped) :
    sampleWork (.load m) none s = markLost .load false (overloadKinds (takeSample (.load m) s)) := by
  have hsu : (takeSample (.load m) s).seq.stage ≠ .none := hs
  have hidle : ∀ u : State, u.seq = s.seq → loadWork u = u := fun u hu => by
    rw [loadWork_held (by rw [hu]; exact hs) (by rw [hu]; rcases hr with e | e <;> simp [e])
      (by rw [hu]; rcases hr with e | e <;> simp [e])]
    split
    · rcases hr with e | e <;> simp [loadMaintenance, hu, e]
    · rfl
  have hkinds : (overloadKinds (takeSample (.load m) s)).seq = s.seq := by
    rw [overloadKinds_staged hsu]
    exact (detect_stopped_fields .none hsu rfl (by decide) (State.standing_iff.mp hst).1 hr).1
  rw [sampleWork_overload hg hv h hl, besideKinds_eq (by rw [hidle (takeSample (.load m) s) rfl, hidle _ hkinds]), hidle _ hkinds]

include hg hv in
theorem overload_stops (h : g.loadLimit < v) (hl : s.drives.lower = false) (hlegal : s.drivesLegal = true)
    (hst : s.standing = true) (hs : s.seq.stage ≠ .none) (ha : s.seq.runState ≠ .aborting) :
    StopsStage .loadLimit s (finish s (sampleWork (.load m) none s)) := by
  rcases State.runState_cases hst hs with hr | hr
  · have hrun : s.seq.runState = .running ∨ s.seq.runState = .paused := hr.imp id (Or.resolve_right · ha)
    obtain ⟨hseen, f, hf, hk⟩ := overload_halts hg hv h hl hst hs hrun
    have hover := State.overloaded_of_value (s := { takeSample (.load m) s with drives := .off }) hg hv h rfl
    have hclosed := hf.finish_sample (hk.trans (by rw [State.watchTaken, if_pos hover]))
    exact StopsStage.of_halted (by rcases hrun with e | e <;> simp [e]) ⟨f, hclosed, by rw [hk]⟩
      (sampleEvent_standing _ _ hst) hseen
  · rw [overload_alone hg hv h hl hst hs hr, overloadKinds_staged (u := takeSample (.load m) s) hs]
    exact StopsStage.of_stopped hlegal hst hs hr rfl (by decide) (u := takeSample (.load m) s) rfl rfl rfl rfl rfl rfl

end

/-! ## Overload with no stage (R164) -/

/-- With no stage active an event's effects have left the sequencer, the drives and the taken record. -/
structure Untaken (s t : State) : Prop where
  seq : t.seq = s.seq
  drives : t.drives = s.drives
  taken : t.faults.taken = s.faults.taken
  seen : ∀ k, k ∈ s.faults.seen → k ∈ t.faults.seen

theorem Untaken.refl (s : State) : Untaken s s := ⟨rfl, rfl, rfl, fun _ => id⟩

theorem Untaken.trans {s t u : State} (h : Untaken s t) (k : Untaken t u) : Untaken s u :=
  ⟨k.seq.trans h.seq, k.drives.trans h.drives, k.taken.trans h.taken,
    fun j hj => k.seen j (h.seen j hj)⟩

theorem detect_untaken {k : FaultKind} (d : Detail) {s : State} (h : s.seq.stage = .none) (hw : k ≠ .wallStop)
    (hv : k ≠ .voidTest) : Untaken s (detect k d s) := by
  rw [detect_stageless d h hw hv]
  split
  · exact .refl s
  · exact ⟨rfl, rfl, rfl, fun _ hj => mem_insertKind.mpr (.inr hj)⟩

theorem driftLossWatch_untaken {s : State} (h : s.seq.stage = .none) : Untaken s (driftLossWatch s) := by
  have hmark : ∀ b : Bool, Untaken s { s with chans := { s.chans with driftLostBefore := b } } := fun _ =>
    ⟨rfl, rfl, rfl, fun _ => id⟩
  unfold driftLossWatch
  dsimp only
  split
  · exact (hmark _).trans (detect_untaken (k := .anchorDrift) _ h (by decide) (by decide))
  · exact hmark _

theorem driftDecision_untaken {s : State} (h : s.seq.stage = .none) : Untaken s (driftDecision s) := by
  have hmark : ∀ b : Bool, Untaken s { s with table := { s.table with drift := b } } := fun _ =>
    ⟨rfl, rfl, rfl, fun _ => id⟩
  unfold driftDecision
  dsimp only
  split
  · split
    · split
      · exact hmark _
      · exact .refl s
    · split
      · exact (hmark _).trans (detect_untaken (k := .anchorDrift) _ h (by decide) (by decide))
      · exact .refl s
  · exact .refl s

theorem overload_stageless {g : Setup} {m v : Nat} {s : State} (hg : s.seq.config = some g)
    (hv : (takeSample (.load m) s).filtered .load = some v) (h : g.loadLimit < v) (hl : s.drives.lower = false)
    (hlegal : s.drivesLegal = true) (hs : s.seq.stage = .none) :
    .loadLimit ∈ (finish s (sampleWork (.load m) none s)).faults.seen ∧
    (finish s (sampleWork (.load m) none s)).seq = s.seq ∧
    (finish s (sampleWork (.load m) none s)).faults.taken = s.faults.taken := by
  have hoff : s.drives = .off := by
    rw [State.drives_rows hlegal]
    simp [Drives.off, State.raiseAllowed, State.lowerAllowed, State.seatingAllowed, State.groutAllowed,
      State.winchAllowed, hs]
  have hkinds : ∀ u : State, u.seq.stage = .none →
      Untaken u (overloadKinds u) ∧ .loadLimit ∈ (overloadKinds u).faults.seen := fun u hu => by
    rw [overloadKinds, watchAt_eq, if_pos rfl]
    have hd := detect_untaken (k := .loadLimit) .none hu (by decide) (by decide)
    have hseen : .loadLimit ∈ (detect .loadLimit .none u).faults.seen := by
      rw [detect_stageless _ hu (by decide) (by decide), if_neg (by simp)]
      exact mem_insertKind.mpr (.inl rfl)
    have hdrift := driftLossWatch_untaken (s := detect .loadLimit .none u) (by rw [hd.seq]; exact hu)
    exact ⟨hd.trans hdrift, hdrift.seen _ hseen⟩
  have hwork : ∀ u : State, u.seq.stage = .none → Untaken u (loadWork u) := fun u hu => by
    rw [loadWork, hu]; exact driftDecision_untaken hu
  obtain ⟨hx, hseen⟩ : Untaken s (sampleWork (.load m) none s) ∧
      .loadLimit ∈ (sampleWork (.load m) none s).faults.seen := by
    rw [sampleWork_overload hg hv h hl]
    have hu : Untaken s (takeSample (.load m) s) := ⟨rfl, rfl, rfl, fun _ => id⟩
    have hsu : (takeSample (.load m) s).seq.stage = .none := hs
    generalize takeSample (.load m) s = u at hu hsu
    refine besideKinds_elim
      (p := fun t => Untaken s (markLost .load false t) ∧ .loadLimit ∈ (markLost .load false t).faults.seen)
      (fun _ => ?_) ?_ fun _ _ k => ⟨⟨k.1.seq, k.1.drives, k.1.taken, k.1.seen⟩, k.2⟩
    · have hw := hwork u hsu
      obtain ⟨hk, hin⟩ := hkinds _ (by rw [hw.seq]; exact hsu)
      exact ⟨(hu.trans (hw.trans hk)).trans ⟨rfl, rfl, rfl, fun _ => id⟩, hin⟩
    · obtain ⟨hk, hin⟩ := hkinds u hsu
      have hw := hwork _ (by rw [hk.seq]; exact hsu)
      exact ⟨(hu.trans (hk.trans hw)).trans ⟨rfl, rfl, rfl, fun _ => id⟩, (loadWork_work _).seen _ hin⟩
  have hclose := finish_stageless s (by rw [hx.seq]; exact hs) (by rw [hx.drives]; exact hoff)
  exact ⟨finish_seen hseen, (congrArg State.seq hclose).trans hx.seq,
    (congrArg (fun w => w.faults.taken) hclose).trans hx.taken⟩

/-! ## Stroke (R138) -/

section
variable {g : Setup} {m v : Nat} {s : State} (hg : s.seq.config = some g)
  (hv : (takeSample (.ext m) s).filtered .ext = some v)
include hg hv

/-- An EXT value at the stroke limit detects the stroke with the lower valve shut, and no decision of the work reads EXT. -/
theorem sampleWork_stroke (h : g.strokeLimit ≤ v) (hl : s.drives.lower = false) :
    sampleWork (.ext m) none s = markLost .ext false (detect .strokeEnd .none (takeSample (.ext m) s)) := by
  have he : (takeSample (.ext m) s).strokeEnded = true := State.strokeEnded_of_value hg hv h hl
  have hlost : (takeSample (.ext m) s).standsLost .ext = false := standsLost_of_value hv
  simp only [sampleWork, show inputChannel (.ext m) = .ext from rfl, State.watchKind, he, if_true, hlost]
  exact congrArg (markLost .ext false) (besideKinds_eq rfl)

theorem stroke_stops (h : g.strokeLimit ≤ v) (hl : s.drives.lower = false) (hlegal : s.drivesLegal = true)
    (hst : s.standing = true) (hs : s.seq.stage ≠ .none) :
    StopsStage .strokeEnd s (finish s (sampleWork (.ext m) none s)) := by
  rw [sampleWork_stroke hg hv h hl]
  rcases State.runState_cases hst hs with hr | hr
  · have hsu : (takeSample (.ext m) s).seq.stage ≠ .none := hs
    obtain ⟨f, hf, hk, -⟩ := detect_halts (k := .strokeEnd) .none hr hs
      (s := takeSample (.ext m) s) ⟨rfl, .inl rfl⟩ rfl (by decide)
    have hseen : .strokeEnd ∈ (detect .strokeEnd .none (takeSample (.ext m) s)).faults.seen :=
      detect_seen _ hsu rfl (by decide)
    refine StopsStage.of_halted (by rcases hr with e | e | e <;> simp [e])
      (HaltedAbove.finish ⟨f, hf.of_eq rfl rfl rfl, by rw [hk]⟩) ?_ hseen
    rw [← sampleWork_stroke hg hv h hl]
    exact sampleEvent_standing _ _ hst
  · exact StopsStage.of_stopped hlegal hst hs hr rfl (by decide) (u := takeSample (.ext m) s) rfl rfl rfl rfl rfl rfl

omit hg in
/-- With the lower valve open the stroke is not detected. -/
theorem stroke_open (hl : s.drives.lower = true) (hlegal : s.drivesLegal = true) :
    (finish s (sampleWork (.ext m) none s)).seq = s.seq ∧
    (finish s (sampleWork (.ext m) none s)).faults = s.faults ∧
    (finish s (sampleWork (.ext m) none s)).drives = s.drives := by
  have hkind : (takeSample (.ext m) s).watchKind .ext = none := by
    have : (takeSample (.ext m) s).strokeEnded = false := by
      have hlu : (takeSample (.ext m) s).drives.lower = true := hl
      unfold State.strokeEnded
      split
      · rfl
      · simp [hlu]
    simp [State.watchKind, this]
  have hlu : (sampleWork (.ext m) none s).drivesLegal = true ∧ (sampleWork (.ext m) none s).seq = s.seq ∧
      (sampleWork (.ext m) none s).drives = s.drives ∧ (sampleWork (.ext m) none s).faults = s.faults := by
    rw [sampleWork_quiet (i := .ext m) (by simp [inputChannel]) hkind (standsLost_of_value hv)]
    exact ⟨hlegal, rfl, rfl, rfl⟩
  obtain ⟨hleg, hq, hd, hf⟩ := hlu
  obtain ⟨fq, -, fd, ff, -⟩ := finish_fields (s := s) (settle_same hleg (by rw [hq]) (by rw [hd])) hleg
  exact ⟨fq.trans hq, ff.trans hf, fd.trans hd⟩

end

/-! ## The closing of the lower valve at the unload stop (R129, R168) -/

/-- The phase's end at the unload stop, as the closing of the lower valve asks for it. -/
def rampDownWork (s : State) : State :=
  if s.stressing .rampDown then finishPhase reach .rampDownEnd (stepReached s) else s

theorem rampDownWork_work (s : State) : Work s (rampDownWork s) := by
  unfold rampDownWork
  split
  · rename_i h
    obtain ⟨hs, -, -⟩ := State.stressing_iff.mp h
    have hn : s.seq.stage ≠ .none := by simp [hs]
    exact .since (finishPhase_work reach_work (by simpa using hn) (by simp)) (stepReached_work hn)
  · exact .refl s

/-- At the target, within its tolerance, the unload stop shuts the lower valve. -/
theorem unloadStop_closes {g : Setup} {s : State} (hg : s.seq.config = some g) (h : s.stressing .rampDown = true)
    (hl : s.drives.lower = true) {v : Nat} (hv : s.filtered .load = some v) (hn : v ≤ s.stepTarget + g.loadTolerance) :
    unloadStop reach s =
      besideKinds (watchAsked { s with drives := { s.drives with lower := false } }) rampDownWork
        { s with drives := { s.drives with lower := false } } := by
  have hclear : Test.clear.holds (s.loadAgainst s.stepTarget) = true := by
    have hnot : ¬ ((s.stepTarget : Int) + (g.loadTolerance : Int) < (v : Int)) := by omega
    simp only [State.loadAgainst, State.cfg_some hg, hv, compareNat, compare, Option.map_some, Int.ofNat_eq_natCast,
      if_neg hnot]
    split <;> rfl
  unfold unloadStop
  rw [if_pos h, unaware_true _ _ _ hclear, unloadStopped, shutLower]
  simp only [hl, if_true]
  rfl

/-- A stroke due at the closing is seen, and it or the overload due there stands taken, whatever the step goes on to. -/
theorem unloadStop_due {s u : State} (h : s.stressing .rampDown = true) (hst : s.standing = true)
    (hu : u = { s with drives := { s.drives with lower := false } }) (hdue : u.strokeEnded = true) :
    .strokeEnd ∈ (besideKinds (watchAsked u) rampDownWork u).faults.seen ∧
    ∃ f, Halted .stress f (besideKinds (watchAsked u) rampDownWork u) ∧ f.kind = u.watchTaken := by
  obtain ⟨hs, hr, -⟩ := State.stressing_iff.mp h
  have hshut : ValveShut u := by rw [hu]; exact ⟨hs, hr, hst, rfl⟩
  have hstress : u.stressing .rampDown = true := by rw [hu]; exact h
  refine ⟨besideKinds_seen hshut.active (by rw [hshut.run]; decide) (fun _ ht => watchAsked_seen ht hdue)
    rampDownWork_work, ?_⟩
  refine besideKinds_halts (r := .running) (n := 6) (by decide) hshut.stage hshut.run (by decide)
    (fun w hw => watchAsked_halts (.inl rfl) (by decide) (hw.mono (by decide)) (.inr hdue)) (.inl ?_) fun f w hw => ?_
  · rw [rampDownWork, if_pos hstress]
    exact finishPhase_interruptible reach_leavesInterruptible hshut (by simp [LoadBoundary])
  · have hstop : w.stressing .rampDown = false := by simp [State.stressing, hw.run]
    simpa [rampDownWork, hstop] using hw

/-- What overload and stroke come to on values with the lower valve shut. -/
theorem State.watchTaken_of_value {g : Setup} {v : Nat} {s : State} (hg : s.seq.config = some g)
    (hv : s.filtered .load = some v) (hl : s.drives.lower = false) :
    s.watchTaken = if g.loadLimit < v then .loadLimit else .strokeEnd := by
  by_cases h : g.loadLimit < v
  · rw [State.watchTaken, State.overloaded_of_value hg hv h hl, if_pos h, if_pos rfl]
  · have ho : s.overloaded = false := by
      simp only [State.overloaded, hg, hv, compareNat_some, if_neg h]
      split <;> simp [Test.holds]
    rw [State.watchTaken, ho, if_neg h]
    rfl

section
variable {g : Setup} {s : State} {v e : Nat} (hg : s.seq.config = some g) (h : s.stressing .rampDown = true)
  (hst : s.standing = true) (hl : s.drives.lower = true) (hv : s.filtered .load = some v)
  (hn : v ≤ s.stepTarget + g.loadTolerance) (he : s.filtered .ext = some e) (hle : g.strokeLimit ≤ e)
include hg h hst hl hv hn he hle

theorem loadWork_closes :
    .strokeEnd ∈ (loadWork s).faults.seen ∧
    ∃ f, Halted .stress f (loadWork s) ∧ f.kind = if g.loadLimit < v then .loadLimit else .strokeEnd := by
  obtain ⟨hs, -, hp⟩ := State.stressing_iff.mp h
  have hdue : State.strokeEnded { s with drives := { s.drives with lower := false } } = true :=
    State.strokeEnded_of_value hg he hle rfl
  obtain ⟨hseen, f, hf, hk⟩ := unloadStop_due h hst rfl hdue
  have hwork : loadWork s = lowering (unloadStop reach s) := by simp only [loadWork, hs, hp]
  rw [hwork, unloadStop_closes hg h hl hv hn, lowering_other (by rw [hf.run]; decide)]
  exact ⟨hseen, f, hf, hk.trans (State.watchTaken_of_value hg hv rfl)⟩

end

/-- The LOAD value that stops an unloading with a stroke due. -/
theorem unloading_stops {g : Setup} {m v : Nat} {s : State} (hg : s.seq.config = some g) (hst : s.standing = true)
    (h : s.stressing .rampDown = true) (hl : s.drives.lower = true)
    (hv : (takeSample (.load m) s).filtered .load = some v) (hn : v ≤ s.stepTarget + g.loadTolerance)
    (he : ((takeSample (.load m) s).filtered .ext).any (fun e => decide (g.strokeLimit ≤ e)) = true) :
    .strokeEnd ∈ (finish s (sampleWork (.load m) none s)).faults.seen ∧
    ∃ f, Halted .stress f (finish s (sampleWork (.load m) none s)) ∧
      f.kind = if g.loadLimit < v then .loadLimit else .strokeEnd := by
  obtain ⟨e, he, hle⟩ : ∃ e, (takeSample (.load m) s).filtered .ext = some e ∧ g.strokeLimit ≤ e := by
    simpa [Option.any_eq_true] using he
  have hkind : (takeSample (.load m) s).watchKind .load = none := by
    have ho : (takeSample (.load m) s).overloaded = false := by
      unfold State.overloaded
      split
      · rfl
      · rw [show (takeSample (.load m) s).drives.lower = true from hl]; rfl
    simp [State.watchKind, ho]
  have hsample : sampleWork (.load m) none s =
      markLost .load false (besideKinds (watchAt .load none false) loadWork (takeSample (.load m) s)) := by
    have hlost : (takeSample (.load m) s).standsLost .load = false := standsLost_of_value hv
    simp only [sampleWork, show inputChannel (.load m) = .load from rfl, hkind, hlost]
    rfl
  have hstays : ∀ u : State, u.seq.stage = .stress →
      watchAt .load none false u = { u with chans := { u.chans with driftLostBefore := false } } := fun u hu =>
    driftLossWatch_staged (s := u) (by rw [hu]; decide)
  have hu : (takeSample (.load m) s).seq.stage = .stress := (State.stressing_iff.mp h).1
  obtain ⟨hseen, f, hf, hk⟩ : .strokeEnd ∈ (sampleWork (.load m) none s).faults.seen ∧
      ∃ f, Halted .stress f (sampleWork (.load m) none s) ∧
        f.kind = if g.loadLimit < v then .loadLimit else .strokeEnd := by
    rw [hsample]
    refine besideKinds_elim (p := fun t => .strokeEnd ∈ (markLost .load false t).faults.seen ∧
      ∃ f, Halted .stress f (markLost .load false t) ∧ f.kind = if g.loadLimit < v then .loadLimit else .strokeEnd)
      (fun _ => ?_) ?_ fun _ _ ⟨k, f, hf, e⟩ => ⟨k, f, hf.of_eq rfl rfl rfl, e⟩
    · obtain ⟨hseen, f, hf, hk⟩ := loadWork_closes (s := takeSample (.load m) s) hg h hst hl hv hn he hle
      rw [hstays _ hf.stage]
      exact ⟨hseen, f, hf.of_eq rfl rfl rfl, hk⟩
    · rw [hstays _ hu]
      obtain ⟨hseen, f, hf, hk⟩ := loadWork_closes
        (s := { takeSample (.load m) s with chans := { (takeSample (.load m) s).chans with driftLostBefore := false } })
        hg h hst hl hv hn he hle
      exact ⟨hseen, f, hf.of_eq rfl rfl rfl, hk⟩
  refine ⟨finish_seen hseen, f, hf.finish_sample (hk.trans ?_), hk⟩
  exact (State.watchTaken_of_value (s := { takeSample (.load m) s with drives := .off }) hg hv rfl).symm

end Sys2Proof.Machine
end

section
/-!
PROOF. The limits counted by the job clock: the stall of the winch, SEATING and RELEASE (O43).
-/
namespace Sys2Proof.Machine

/-! ## The winch record beside a taking -/

@[simp] theorem endClaim_winch (cause : Nat) (s : State) : (endClaim cause s).winch = s.winch := by
  unfold endClaim; split <;> simp

@[simp] theorem stopWork_winch (s : State) : (stopWork s).winch = s.winch := by
  unfold stopWork
  split
  · rfl
  · rfl
  · dsimp only
    split
    · simp
    · split <;> simp
  · dsimp only
    split <;> simp

@[simp] theorem logTaken_winch (k : FaultKind) (s : State) : (logTaken k s).winch = s.winch := by
  unfold logTaken; split <;> simp

@[simp] theorem takeFault_winch (k : FaultKind) (d : Detail) (s : State) : (takeFault k d s).winch = s.winch := by
  simp [takeFault, writeTaken, setRunState]

@[simp] theorem takeAtOnce_winch (k : FaultKind) (d : Detail) (s : State) : (takeAtOnce k d s).winch = s.winch := by
  have hreplace : (replaceTaken k d s).winch = s.winch := by
    unfold replaceTaken
    dsimp only
    split <;> simp [writeTaken, setRunState]
  unfold takeAtOnce
  split
  · rfl
  · split
    · split
      · exact hreplace
      · rfl
    · simp
  · simp

@[simp] theorem detect_winch (k : FaultKind) (d : Detail) (s : State) : (detect k d s).winch = s.winch := by
  have honce : (takeAtOnce k d (seeKind k s)).winch = s.winch := by simp [seeKind]
  unfold detect
  split
  · rfl
  · dsimp only
    split
    · split
      · rfl
      · exact honce
    · split
      · split
        · exact honce
        · rfl
      · split
        · rfl
        · split
          · exact honce
          · split <;> rfl

@[simp] theorem watchAsked_winch (u s : State) : (watchAsked u s).winch = s.winch := by
  have hd : ∀ (b : Bool) (k : FaultKind) (t : State), (detectIf b k .none t).winch = t.winch := fun b k t =>
    detectIf_elim (p := fun x => x.winch = t.winch) (fun _ => rfl) fun _ => detect_winch _ _ _
  exact eitherOrder_elim (p := fun x => x.winch = s.winch) (by rw [hd, hd]) (by rw [hd, hd]) fun _ _ h => h

@[simp] theorem settle_winch (s t : State) : (settle s t).winch = t.winch :=
  settle_elim (p := fun x => x.winch = t.winch) (by simp) (by simp [watchDecisions])

/-! ## Work that a detection stops (R50, R164, R166) -/

/-- From `u`, whose work went on, to `w` the work has been stopped, its STRESS phase other than RAISE_INTENT kept. -/
structure StopsWork (u w : State) : Prop where
  seq : w.seq = { u.seq with runState := .faulted }
  jack : u.seq.stage = .stress → w.jack = { u.jack with topUp := false }
  winch : w.winch = u.winch
  taken : w.faults.taken.isSome = true

/-- Nothing of the work has moved from `u` to `w`. -/
structure KeepsWork (u w : State) : Prop where
  seq : w.seq = u.seq
  jack : w.jack = u.jack
  winch : w.winch = u.winch

theorem KeepsWork.refl (u : State) : KeepsWork u u := ⟨rfl, rfl, rfl⟩

section
variable {u w : State} (hs : u.seq.stage ≠ .none) (hr : u.seq.runState = .running)
  (hp : u.seq.stage = .stress → u.jack.phase ≠ .raiseIntent) {k : FaultKind} (d : Detail) (hm : k.maskable = false)
  (hk : k ≠ .wallStop)
include hs hm hk

/-- A kind detected once the work is stopped leaves it so (R170). -/
theorem StopsWork.detect (h : StopsWork u w) : StopsWork u (detect k d w) := by
  have hw := StaysFaulted.detect d (by rw [h.seq]; exact hs) (by rw [h.seq]) h.taken hm hk
  exact ⟨hw.seq.trans h.seq, fun e => hw.jack.trans (h.jack e), (detect_winch _ _ _).trans h.winch, hw.taken⟩

include hr hp in
/-- A kind of class not maskable stops the work. -/
theorem KeepsWork.detect (h : KeepsWork u w) :
    StopsWork u (detect k d w) ∧
    (detect k d w).faults.taken.map (fun f => (f.kind, f.detail)) = some (k, d) := by
  have hrun : w.seq.runState = .running := by rw [h.seq, hr]
  have htake : Machine.detect k d w = takeFault k d (seeKind k w) := by
    rw [detect_atOnce d (by rw [h.seq]; exact hs) hm hk]
    simp [takeAtOnce, seeKind, hrun]
  have htaken : (takeFault k d (seeKind k w)).faults.taken.map (fun f => (f.kind, f.detail)) = some (k, d) := rfl
  rw [htake]
  refine ⟨⟨?_, fun e => ?_, ?_, ?_⟩, htaken⟩
  · rw [← h.seq]
    simp [takeFault, writeTaken, setRunState, seeKind, runStateOf, hk]
  · have hphase : (seeKind k w).jack.phase ≠ .raiseIntent := by rw [seeKind, h.jack]; exact hp e
    rw [(takeFault_stress d (s := seeKind k w) (by rw [seeKind, h.seq]; exact e) hphase).1, seeKind, h.jack]
  · rw [takeFault_winch, seeKind, h.winch]
  · rfl

end

section
variable {u : State} (hs : u.seq.stage ≠ .none)
include hs

/-- Overload and stroke leave stopped work stopped. -/
theorem StopsWork.watchAsked {w : State} (x : State) (h : StopsWork u w) : StopsWork u (watchAsked x w) := by
  have hd : ∀ (b : Bool) {k : FaultKind} {t : State}, k.maskable = false → k ≠ .wallStop → StopsWork u t →
      StopsWork u (detectIf b k .none t) := fun b k t hm hk ht =>
    detectIf_elim (fun _ => ht) fun _ => ht.detect hs .none hm hk
  exact eitherOrder_elim (hd _ rfl (by decide) (hd _ rfl (by decide) h)) (hd _ rfl (by decide) (hd _ rfl (by decide) h))
    fun _ _ k => ⟨k.seq, k.jack, k.winch, k.taken⟩

/-- Overload and stroke stop the work, or leave it where neither is due. -/
theorem KeepsWork.watchAsked (hr : u.seq.runState = .running)
    (hp : u.seq.stage = .stress → u.jack.phase ≠ .raiseIntent) (x : State) :
    KeepsWork u (watchAsked x u) ∨ StopsWork u (watchAsked x u) := by
  have hd : ∀ (b : Bool) {k : FaultKind} {t : State}, k.maskable = false → k ≠ .wallStop →
      KeepsWork u t ∨ StopsWork u t → KeepsWork u (detectIf b k .none t) ∨ StopsWork u (detectIf b k .none t) :=
    fun b k t hm hk ht => detectIf_elim (p := fun y => KeepsWork u y ∨ StopsWork u y) (fun _ => ht) fun _ =>
      .inr (ht.elim (fun h => (h.detect hs hr hp .none hm hk).1) fun h => h.detect hs .none hm hk)
  exact eitherOrder_elim (p := fun y => KeepsWork u y ∨ StopsWork u y)
    (hd _ rfl (by decide) (hd _ rfl (by decide) (.inl (.refl u))))
    (hd _ rfl (by decide) (hd _ rfl (by decide) (.inl (.refl u))))
    fun _ _ k => k.imp (fun h => ⟨h.seq, h.jack, h.winch⟩) fun h => ⟨h.seq, h.jack, h.winch, h.taken⟩

end

/-- The close of an event leaves stopped work stopped, and without overload and stroke its taken kind (R53, R170). -/
theorem StopsWork.settle {u w : State} (hs : u.seq.stage ≠ .none) (h : StopsWork u w) (s : State) :
    StopsWork u (settle s w) ∧ (∀ k, k ∈ w.faults.seen → k ∈ (Machine.settle s w).faults.seen) ∧
    (w.watchQuiet = true → (Machine.settle s w).faults.taken = w.faults.taken) := by
  obtain ⟨k, hq⟩ := settle_staysFaulted (s := s) (by rw [h.seq]; exact hs) (by rw [h.seq]) h.taken
  exact ⟨⟨k.seq.trans h.seq, fun e => k.jack.trans (h.jack e), (settle_winch s w).trans h.winch, k.taken⟩, k.seen, hq⟩

/-- In FAULTED every drive is off (R53). -/
theorem State.drives_off_faulted {s : State} (h : s.drivesLegal = true) (hr : s.seq.runState = .faulted) :
    s.drives = .off := by
  refine State.drives_off h ?_ ?_ ?_ <;> rw [hr] <;> decide

/-! ## What a tick's counts leave of the work (R37, R79) -/

/-- The ageing of the table touches neither the jack, nor the winch, nor a drive. -/
theorem ageEntries_units (s : State) :
    (ageEntries s).jack = s.jack ∧ (ageEntries s).winch = s.winch ∧ (ageEntries s).drives = s.drives := by
  have hlost : ∀ (gone : List Entry) (u : State),
      (gone.foldl (fun s e => detect .neighbourLost (.station e.station) s) u).jack = u.jack ∧
      (gone.foldl (fun s e => detect .neighbourLost (.station e.station) s) u).winch = u.winch ∧
      (gone.foldl (fun s e => detect .neighbourLost (.station e.station) s) u).drives = u.drives := fun gone => by
    induction gone with
    | nil => exact fun _ => ⟨rfl, rfl, rfl⟩
    | cons e rest ih =>
      intro u
      have hd : ∀ t, t = detect .neighbourLost (.station e.station) u →
          t.jack = u.jack ∧ t.winch = u.winch ∧ t.drives = u.drives := fun t ht => by
        rw [ht, detect_maskable _ u rfl (by decide) (by decide)]
        split <;> exact ⟨rfl, rfl, rfl⟩
      obtain ⟨hj, hw, hdr⟩ := ih (detect .neighbourLost (.station e.station) u)
      obtain ⟨dj, dw, ddr⟩ := hd _ rfl
      exact ⟨hj.trans dj, hw.trans dw, hdr.trans ddr⟩
  unfold ageEntries
  split
  · exact ⟨rfl, rfl, rfl⟩
  · exact hlost _ _

theorem worked_winch {s t : State} (h : t.worked = s.worked) : t.winch = s.winch := (congrArg State.winch h :)

/-- The station `v` at which a tick's work acts, but for the table, the fault unit and the clocks. -/
structure TickWorks (s v : State) : Prop where
  stage : v.seq.stage = s.seq.stage
  run : v.seq.runState = s.seq.runState
  held : v.seq.held = s.seq.held
  jack : v.jack = s.jack
  winch : v.winch = s.winch
  drives : v.drives = s.drives
  quiet : v.watchQuiet = s.watchQuiet

theorem TickWorks.of_counts {s v : State} (h : v.worked = (tickCounts s).worked) : TickWorks s v := by
  have hseq := (ageEntries_fields s).1
  obtain ⟨hj, hw, hd⟩ := ageEntries_units s
  have hquiet : (tickCounts s).watchQuiet = s.watchQuiet := by
    obtain ⟨-, -, hc, -, -, hload⟩ := tickCounts_field s .load
    obtain ⟨-, -, -, -, -, hext⟩ := tickCounts_field s .ext
    have hf : ∀ {c}, ((tickCounts s).chan c).reading = (s.chan c).reading → (tickCounts s).filtered c = s.filtered c :=
      fun {c} h => by
        have h1 : ((tickCounts s).chan c).window = (s.chan c).window := (congrArg Prod.fst h :)
        have h2 : ((tickCounts s).chan c).filterLen = (s.chan c).filterLen := (congrArg (fun r => r.2.1) h :)
        simp only [State.filtered, Channel.value, h1, h2]
    simp only [State.watchQuiet, hc, hf hload, hf hext]
  have hcounts : ∀ c, c = tickCounts s → c.seq.stage = s.seq.stage ∧ c.seq.runState = s.seq.runState ∧
      c.seq.held = s.seq.held ∧ c.jack = s.jack ∧ c.winch = s.winch ∧ c.drives = s.drives := fun c hc => by
    rw [hc, tickCounts, jobTick_shape]
    exact ⟨(congrArg Sequencer.stage hseq :), (congrArg Sequencer.runState hseq :), (congrArg Sequencer.held hseq :),
      hj, hw, hd⟩
  obtain ⟨cs, cr, ch, cj, cw, cd⟩ := hcounts _ rfl
  exact ⟨by rw [worked_seq h, cs], by rw [worked_seq h, cr], by rw [worked_seq h, ch], (worked_jack h).trans cj,
    (worked_winch h).trans cw, (worked_drives h).trans cd, (worked_watchQuiet h).trans hquiet⟩

/-! ## The tick on which a limit stops the work -/

/-- The gates and the claim do nothing once a WINCH or STRESS stage is stopped (R50). -/
theorem gateWork_stopped {w : State} (hs : w.seq.stage ≠ .grout) (hr : w.seq.runState = .faulted) : gateWork w = w := by
  have hraise : raisePart w = w := by simp [raisePart, State.stressing, hr]
  rw [gateWork, claimPart_other hs, hraise, groutPart_other (grouting_of_stage hs)]

/-- What a tick leaves that stops the work of `s` with `k` seen: the winch record `wr`, the jack `j` in a STRESS stage, and the
kind taken with its detail where neither overload nor stroke is due. -/
structure TickStops (k : FaultKind) (d : Detail) (j : Jack) (wr : Option WinchRecord) (s w : State) : Prop where
  seen : k ∈ w.faults.seen
  run : w.seq.runState = .faulted
  stage : w.seq.stage = s.seq.stage
  held : w.seq.held = s.seq.held
  jack : s.seq.stage = .stress → w.jack = j
  winch : w.winch = wr
  taken : w.faults.taken.isSome = true
  named : s.watchQuiet = true → w.faults.taken.map (fun f => (f.kind, f.detail)) = some (k, d)
  quiet : w.watchQuiet = s.watchQuiet

section
variable {k : FaultKind} {d : Detail} {j : Jack} {wr : Option WinchRecord} {s : State}

theorem TickStops.congr {t v : State} (h : t.worked = v.worked) (x : TickStops k d j wr s v) : TickStops k d j wr s t :=
  ⟨by rw [worked_faults h]; exact x.seen, by rw [worked_seq h, x.run], by rw [worked_seq h, x.stage],
    by rw [worked_seq h, x.held], fun e => (worked_jack h).trans (x.jack e), (worked_winch h).trans x.winch,
    by rw [worked_faults h]; exact x.taken, fun hq => by rw [worked_faults h]; exact x.named hq,
    (worked_watchQuiet h).trans x.quiet⟩

/-- The tick whose clocks stop the work closes with it, every drive off. -/
theorem tick_stops (hadv : s.jobAdvances = true) (hs : s.seq.stage ≠ .none) (hg : s.seq.stage ≠ .grout)
    (hw : s.stressing .raiseWait = false) (hi : s.stressing .raiseIntent = false)
    (h : ∀ v, TickWorks s v → TickStops k d j wr s (stageClocks v)) :
    TickStops k d j wr s (secure s (noticeTick s)) ∧ (secure s (noticeTick s)).drives = .off := by
  have hstops : TickStops k d j wr s (tickWork s.jobAdvances (tickCounts s)) := by
    refine tickWork_elim TickStops.congr fun v hv => ?_
    have hv' := TickWorks.of_counts hv
    have hx := h v hv'
    have hdue : v.timeoutDue = false := by
      have hstress : ∀ p, v.stressing p = s.stressing p := fun p => by
        simp only [State.stressing, hv'.stage, hv'.run, hv'.jack]
      simp [State.timeoutDue, hstress, hw, hi]
    have hwork : workOfTick s.jobAdvances v = stageClocks v := by
      simp only [workOfTick, hadv, hdue, if_true, Bool.false_eq_true, if_false]
      exact gateWork_stopped (by rw [hx.stage]; exact hg) hx.run
    rwa [hwork]
  generalize hx : tickWork s.jobAdvances (tickCounts s) = w at hstops
  obtain ⟨f, hquiet⟩ := settle_staysFaulted (s := s) (by rw [hstops.stage]; exact hs) hstops.run hstops.taken
  have hsettled : TickStops k d j wr s (settle s w) :=
    ⟨f.seen _ hstops.seen, by rw [f.seq, hstops.run], by rw [f.seq, hstops.stage], by rw [f.seq, hstops.held],
      fun e => f.jack.trans (hstops.jack e), (settle_winch s w).trans hstops.winch, f.taken,
      fun hq => by rw [hquiet (hstops.quiet.trans hq)]; exact hstops.named hq,
      (settle_work s w).sameField.watchQuiet.trans hstops.quiet⟩
  have hworked := noticeTick_worked hx fun _ hgate => by
    have hrun := (State.grouting_iff.mp hgate.1).2
    rw [hsettled.run] at hrun
    cases hrun
  have hclosed := hsettled.congr hworked
  have hlegal : (secure s (noticeTick s)).drivesLegal = true := (worked_legal hworked).trans (settle_legal _ _)
  exact ⟨hclosed, State.drives_off_faulted hlegal hclosed.run⟩

/-- Work stopped in a tick of `s`. -/
theorem TickStops.of_stopsWork {u v w : State} (hv : TickWorks s v) (hq : u.seq = v.seq) (hw : StopsWork u w)
    (hj : s.seq.stage = .stress → ({ u.jack with topUp := false } : Jack) = j) (hwr : u.winch = wr)
    (hseen : k ∈ w.faults.seen)
    (hnamed : s.watchQuiet = true → w.faults.taken.map (fun f => (f.kind, f.detail)) = some (k, d))
    (hwork : Work v w) : TickStops k d j wr s w := by
  refine ⟨hseen, by rw [hw.seq], by rw [hw.seq, hq, ← hv.stage], by rw [hw.seq, hq, ← hv.held], fun e => ?_,
    hw.winch.trans hwr, hw.taken, hnamed, hwork.sameField.watchQuiet.trans hv.quiet⟩
  rw [hw.jack (by rw [hq, hv.stage]; exact e), hj e]

end

/-! ## The stall timer of the winch (R105) -/

/-- The stall timer at its limit turns the winch drive off and takes the snag. -/
theorem stallClock_due {w : WinchRecord} {v : State} (hs : v.winching = true) (hd : v.drives.winch = true)
    (hw : v.winch = some w) (ht : 9 ≤ w.stallTimer) :
    ∃ u, u.seq = v.seq ∧ u.winch = some { w with stallTimer := 10 } ∧ Work v u ∧
      stallClock v = detect .winchSnag .stall u := by
  refine ⟨winchOff (updateWinch (fun w => { w with stallTimer := min (w.stallTimer + 1) 10 }) v), rfl, ?_, .quiet rfl, ?_⟩
  · rw [winchOff_winch, updateWinch_winch, hw, Option.map_some, Nat.min_eq_right (by omega)]
  · unfold stallClock
    rw [hw]
    dsimp only
    rw [hs, hd, Bool.and_self, if_pos rfl, if_pos (by omega)]

theorem stall_stops {w : WinchRecord} {s : State} (hadv : s.jobAdvances = true) (hr : s.seq.runState = .running)
    (hs : s.seq.stage = .winch) (hd : s.drives.winch = true) (hw : s.winch = some w) (ht : 9 ≤ w.stallTimer) :
    TickStops .winchSnag .stall s.jack (some { w with stallTimer := 10 }) s (secure s (noticeTick s)) ∧
    (secure s (noticeTick s)).drives = .off := by
  have hstress : ∀ p, s.stressing p = false := fun p => by simp [State.stressing, hs]
  refine tick_stops hadv (by rw [hs]; decide) (by rw [hs]; decide) (hstress _) (hstress _) fun v hv => ?_
  have hvs : v.seq.stage = .winch := hv.stage.trans hs
  have hvr : v.seq.runState = .running := hv.run.trans hr
  obtain ⟨u, hq, huw, hwork, hclock⟩ := stallClock_due (State.winching_iff.mpr ⟨hvs, hvr⟩)
    (by rw [hv.drives]; exact hd) (hv.winch.trans hw) ht
  have hclocks : stageClocks v = detect .winchSnag .stall u := by rw [← hclock, stageClocks, hvs]
  have hus : u.seq.stage ≠ .none := by rw [hq, hvs]; decide
  obtain ⟨hstop, hnamed⟩ := (KeepsWork.refl u).detect hus (by rw [hq, hvr]) (by rw [hq, hvs]; nofun) (k := .winchSnag)
    .stall rfl (by decide)
  rw [hclocks]
  exact .of_stopsWork hv hq hstop (by rw [hs]; nofun) huw (detect_seen _ hus rfl (by decide)) (fun _ => hnamed)
    (hwork.trans (detect_work _ (by simp)))

/-! ## The limits of SEATING and RELEASE (R133, R134) -/

/-- SEAT_FAIL at the closing of the lower valve stops the work beside an overload or a stroke due there, and is what stands
taken where neither is due. -/
theorem shutLower_seatFail {u : State} (hs : u.seq.stage ≠ .none) (hr : u.seq.runState = .running)
    (hp : u.jack.phase ≠ .raiseIntent) :
    StopsWork { u with drives := { u.drives with lower := false } } (shutLower (detect .seatFail .release) u) ∧
    .seatFail ∈ (shutLower (detect .seatFail .release) u).faults.seen ∧
    (u.watchQuiet = true →
      (shutLower (detect .seatFail .release) u).faults.taken.map (fun f => (f.kind, f.detail)) =
        some (.seatFail, .release)) := by
  obtain ⟨x, hx⟩ : ∃ x : State, x = { u with drives := { u.drives with lower := false } } := ⟨_, rfl⟩
  have hxs : x.seq.stage ≠ .none := by rw [hx]; exact hs
  have hxr : x.seq.runState = .running := by rw [hx]; exact hr
  have hxp : x.seq.stage = .stress → x.jack.phase ≠ .raiseIntent := fun _ => by rw [hx]; exact hp
  obtain ⟨hstop, hnamed⟩ := (KeepsWork.refl x).detect hxs hxr hxp (k := .seatFail) .release rfl (by decide)
  have hseen : .seatFail ∈ (detect .seatFail .release x).faults.seen := detect_seen _ hxs rfl (by decide)
  refine ⟨?_, ?_, fun hq => by rw [shutLower_quiet hq, ← hx]; exact hnamed⟩
  all_goals
    unfold shutLower
    dsimp only
    rw [← hx]
  · split
    · refine besideKinds_elim (p := StopsWork x) (fun _ => hstop.watchAsked hxs x) ?_
        fun _ _ h => ⟨h.seq, h.jack, h.winch, h.taken⟩
      exact (KeepsWork.watchAsked hxs hxr hxp x).elim
        (fun h => (h.detect hxs hxr hxp .release rfl (by decide)).1) fun h => h.detect hxs .release rfl (by decide)
    · exact hstop
  · split
    · refine besideKinds_elim (p := fun t => .seatFail ∈ t.faults.seen)
        (fun _ => (watchAsked_work x _).seen _ hseen) (detect_seen _ ?_ rfl (by decide)) fun _ _ h => h
      exact (KeepsWork.watchAsked hxs hxr hxp x).elim (fun h => by rw [h.seq]; exact hxs) fun h => by rw [h.seq]; exact hxs
    · exact hseen

section
variable {s : State} (hadv : s.jobAdvances = true) (hr : s.seq.runState = .running) (hs : s.seq.stage = .stress)
include hadv hr hs

theorem seating_stops (hp : s.jack.phase = .seating) (ht : s.jack.lockOffTimer = 30) :
    TickStops .seatFail .seat { s.jack with lockOffTimer := 31, topUp := false } s.winch s (secure s (noticeTick s)) ∧
    (secure s (noticeTick s)).drives = .off := by
  have hstress : ∀ p, p ≠ .seating → s.stressing p = false := fun p h => by simp [State.stressing, hp, h.symm]
  refine tick_stops hadv (by rw [hs]; decide) (by rw [hs]; decide) (hstress _ (by decide)) (hstress _ (by decide))
    fun v hv => ?_
  obtain ⟨u, hu⟩ : ∃ u : State, u = { v with
      jack := { v.jack with lockOffTimer := 31 }, drives := { v.drives with seating := false } } := ⟨_, rfl⟩
  have hclocks : stageClocks v = detect .seatFail .seat u := by
    rw [hu]
    simp [stageClocks, lockOffClock, hv.stage, hv.run, hv.jack, hs, hr, hp, ht]
  have hq : u.seq = v.seq := by rw [hu]
  have hj : u.jack = { s.jack with lockOffTimer := 31 } := by rw [hu, hv.jack]
  have hus : u.seq.stage ≠ .none := by rw [hq, hv.stage, hs]; decide
  obtain ⟨hstop, hnamed⟩ := (KeepsWork.refl u).detect hus (by rw [hq, hv.run, hr])
    (fun _ => by rw [hj, hp]; decide) (k := .seatFail) .seat rfl (by decide)
  rw [hclocks]
  refine .of_stopsWork hv hq hstop (fun _ => by rw [hj]) (by rw [hu]; exact hv.winch)
    (detect_seen _ hus rfl (by decide)) (fun _ => hnamed) (.trans ?_ (detect_work _ (by simp)))
  rw [hu]
  exact .quiet rfl

theorem release_stops (hp : s.jack.phase = .release) (ht : s.jack.lockOffTimer = 60) :
    TickStops .seatFail .release { s.jack with lockOffTimer := 61, topUp := false } s.winch s (secure s (noticeTick s)) ∧
    (secure s (noticeTick s)).drives = .off := by
  have hstress : ∀ p, p ≠ .release → s.stressing p = false := fun p h => by simp [State.stressing, hp, h.symm]
  refine tick_stops hadv (by rw [hs]; decide) (by rw [hs]; decide) (hstress _ (by decide)) (hstress _ (by decide))
    fun v hv => ?_
  obtain ⟨u, hu⟩ : ∃ u : State, u = { v with jack := { v.jack with lockOffTimer := 61 } } := ⟨_, rfl⟩
  have hclocks : stageClocks v = shutLower (detect .seatFail .release) u := by
    rw [hu]
    simp [stageClocks, lockOffClock, hv.stage, hv.run, hv.jack, hs, hr, hp, ht]
  have hq : u.seq = v.seq := by rw [hu]
  have hj : u.jack = { s.jack with lockOffTimer := 61 } := by rw [hu, hv.jack]
  obtain ⟨hstop, hseen, hnamed⟩ := shutLower_seatFail (u := u) (by rw [hq, hv.stage, hs]; decide) (by rw [hq, hv.run, hr])
    (by rw [hj, hp]; decide)
  have hwork : Work v u := by rw [hu]; exact .quiet rfl
  rw [hclocks]
  exact .of_stopsWork (u := { u with drives := { u.drives with lower := false } }) hv hq hstop (fun _ => by rw [hj])
    (by rw [hu]; exact hv.winch) hseen (fun h => hnamed ((hwork.sameField.watchQuiet.trans hv.quiet).trans h))
    (hwork.trans (shutLower_work (fun _ => detect_work _ (by simp)) u))

end

end Sys2Proof.Machine
end

section
/-!
PROOF. The winch at a sample event: its length and its tension; and what stops a drive as a whole (O43).
-/
namespace Sys2Proof.Machine

theorem finish_winch (s t : State) : (finish s t).winch = t.winch := by simp [finish, secure]

/-! ## The tension (R104) -/

/-- A tension above the snag limit turns the winch drive off and takes the snag. -/
theorem snagDecision_due {w : WinchRecord} {v : Nat} {s : State} (hs : s.winching = true) (hw : s.winch = some w)
    (hv : s.filtered .wt = some v) (h : w.snag < v) : snagDecision s = detect .winchSnag .tension (winchOff s) := by
  have hx : s.snagged = true := by
    simp only [State.snagged, hw, hs, hv, compareNat_some]
    rw [if_neg (by omega), if_pos h]
    rfl
  rw [snagDecision, snagAsked, if_pos hx]

/-- A sample on a channel other than LOAD and EXT leaves what overload and stroke are held against (R137, R138). -/
theorem takeSample_watchQuiet_other {i : SampleInput} {s : State} (hl : ChannelName.load ≠ inputChannel i)
    (he : ChannelName.ext ≠ inputChannel i) : (takeSample i s).watchQuiet = s.watchQuiet := by
  have hload : (takeSample i s).filtered .load = s.filtered .load := congrArg Channel.value (takeSample_chan_other hl s)
  have hext : (takeSample i s).filtered .ext = s.filtered .ext := congrArg Channel.value (takeSample_chan_other he s)
  have hcfg : (takeSample i s).seq.config = s.seq.config := rfl
  simp only [State.watchQuiet, hcfg, hload, hext]

theorem snag_stops {w : WinchRecord} {m v : Nat} {s : State} (hs : s.winching = true) (hw : s.winch = some w)
    (hv : (takeSample (.wt m) s).filtered .wt = some v) (h : w.snag < v) {t : State}
    (ht : finish s (sampleWork (.wt m) none s) = t) :
    .winchSnag ∈ t.faults.seen ∧ t.seq = { s.seq with runState := .faulted } ∧ t.drives = .off ∧ t.winch = some w ∧
    (s.watchQuiet = true → t.faults.taken.map (fun f => (f.kind, f.detail)) = some (.winchSnag, .tension)) := by
  obtain ⟨hstage, hrun⟩ := State.winching_iff.mp hs
  have hquiet : (sampleWork (.wt m) none s).watchQuiet = s.watchQuiet :=
    (sampleWork_readBy (.wt m) none s).field.watchQuiet.trans
      (takeSample_watchQuiet_other (i := .wt m) (by simp [inputChannel]) (by simp [inputChannel]))
  have hwork : sampleWork (.wt m) none s =
      markLost .wt false (detect .winchSnag .tension (winchOff (takeSample (.wt m) s))) := by
    rw [sampleWork_quiet (i := .wt m) (by simp [inputChannel]) rfl (standsLost_of_value hv)]
    exact congrArg (markLost .wt false) (snagDecision_due (s := takeSample (.wt m) s) hs hw hv h)
  obtain ⟨u, hu⟩ : ∃ u, u = winchOff (takeSample (.wt m) s) := ⟨_, rfl⟩
  have huq : u.seq = s.seq := by rw [hu]; rfl
  have hus : u.seq.stage ≠ .none := by rw [huq, hstage]; decide
  obtain ⟨hstop, hnamed⟩ := (KeepsWork.refl u).detect hus (by rw [huq, hrun]) (by rw [huq, hstage]; nofun)
    (k := .winchSnag) .tension rfl (by decide)
  rw [← hu] at hwork
  generalize hx : sampleWork (.wt m) none s = x at *
  have hmarked : StopsWork u x := by rw [hwork]; exact ⟨hstop.seq, hstop.jack, hstop.winch, hstop.taken⟩
  obtain ⟨hsettled, hseen, hkind⟩ := hmarked.settle hus s
  have hseq : t.seq = { s.seq with runState := .faulted } := by
    rw [← ht, ← huq, ← hsettled.seq]; simp [finish, secure]
  have hfaults : t.faults = (settle s x).faults := by rw [← ht]; simp [finish, secure]
  refine ⟨?_, hseq, ?_, ?_, fun hq => ?_⟩
  · rw [hfaults]
    exact hseen _ (by rw [hwork]; exact detect_seen _ hus rfl (by decide))
  · exact State.drives_off_faulted (by rw [← ht]; exact finish_legal _ _) (by rw [hseq])
  · rw [← ht, finish_winch, hmarked.winch, hu]
    exact hw
  · rw [hfaults, hkind (hquiet.trans hq), hwork]
    exact hnamed

/-! ## The length (R103, R105) -/

/-- The stall reference moves neither target, nor length, nor outcome. -/
def WinchRecord.result (r : WinchRecord) : Nat × Option Nat × WinchOutcome := (r.target, r.installed, r.outcome)

theorem stallReference_fields (s : State) :
    (stallReference s).seq = s.seq ∧ (stallReference s).drives = s.drives ∧ (stallReference s).faults = s.faults ∧
    (stallReference s).winch.map WinchRecord.result = s.winch.map WinchRecord.result := by
  unfold stallReference
  split
  · split
    · exact ⟨rfl, rfl, rfl, rfl⟩
    · refine ⟨rfl, rfl, rfl, ?_⟩
      rw [updateWinch_winch, Option.map_map]
      congr 1
      funext r
      dsimp only [Function.comp]
      split
      · rfl
      · split <;> rfl
  · exact ⟨rfl, rfl, rfl, rfl⟩

theorem winchOn_fields (s : State) :
    (winchOn s).seq = s.seq ∧ (winchOn s).drives = { s.drives with winch := true } ∧ (winchOn s).faults = s.faults ∧
    (winchOn s).winch.map WinchRecord.result = s.winch.map WinchRecord.result := by
  unfold winchOn
  split
  · rename_i h
    exact ⟨rfl, by rw [← h], rfl, rfl⟩
  · refine ⟨rfl, rfl, rfl, ?_⟩
    rw [updateWinch_winch, Option.map_map]
    rfl

section
variable {w : WinchRecord} {m v : Nat} {s : State} (hl : s.drivesLegal = true) (hs : s.winching = true)
  (hw : s.winch = some w) (hv : (takeSample (.wl m) s).filtered .wl = some v)

include hv in
theorem sampleWork_length :
    sampleWork (.wl m) none s = markLost .wl false (stallReference (lengthDecision reach (takeSample (.wl m) s))) :=
  sampleWork_quiet (i := .wl m) (by simp [inputChannel]) rfl (standsLost_of_value hv)

include hl hs in
/-- In a WINCH stage every drive but the winch is off. -/
theorem State.drives_winching : s.drives = { Drives.off with winch := s.drives.winch } := by
  obtain ⟨hstage, hrun⟩ := State.winching_iff.mp hs
  have hallowed : s.winchAllowed = true := by simp [State.winchAllowed, hstage, hrun]
  have h := State.drives_of_winch hl hstage
  rwa [hallowed, Bool.and_true] at h

include hl hs hw hv

/-- Below the target the winch drive is on. -/
theorem length_short (h : v < w.target) {t : State} (ht : finish s (sampleWork (.wl m) none s) = t) :
    t.seq = s.seq ∧ t.drives = { Drives.off with winch := true } ∧ t.faults = s.faults ∧
    t.winch.map WinchRecord.result = some w.result := by
  obtain ⟨hstage, hrun⟩ := State.winching_iff.mp hs
  have hd := State.drives_winching hl hs
  have hx : Test.short.holds (compareNat ((takeSample (.wl m) s).filtered .wl) w.target 0) = true := by
    rw [hv, compareNat_some, if_pos h]; rfl
  have hon := lengthDecision_short (s := takeSample (.wl m) s) hw hs hx
  obtain ⟨oseq, odr, ofl, owinch⟩ := winchOn_fields (takeSample (.wl m) s)
  obtain ⟨rseq, rdr, rfault, rwinch⟩ := stallReference_fields (winchOn (takeSample (.wl m) s))
  have hwork := sampleWork_length hv
  rw [hon] at hwork
  generalize hy : sampleWork (.wl m) none s = x at *
  have xseq : x.seq = s.seq := by rw [hwork]; exact rseq.trans oseq
  have xdr : x.drives = { Drives.off with winch := true } := by
    rw [hwork]
    refine (rdr.trans odr).trans ?_
    rw [show (takeSample (.wl m) s).drives = s.drives from rfl, hd]
  have xfl : x.faults = s.faults := by rw [hwork]; exact rfault.trans ofl
  have xwinch : x.winch.map WinchRecord.result = some w.result := by
    rw [hwork]
    refine (rwinch.trans owinch).trans ?_
    rw [show (takeSample (.wl m) s).winch = s.winch from rfl, hw]
    rfl
  have hlegal : x.drivesLegal = true := by
    simp [State.drivesLegal, xdr, Drives.off, State.winchAllowed, xseq, hstage, hrun]
  obtain ⟨fq, -, fd, ff, -⟩ := finish_fields (s := s)
    (settle_same hlegal (by rw [xseq]) (by rw [xdr, hd])) hlegal
  rw [ht] at fq fd ff
  exact ⟨fq.trans xseq, fd.trans xdr, ff.trans xfl, by rw [← ht, finish_winch, xwinch]⟩

/-- At the target the stage ends WINCHED. -/
theorem length_reached (h : w.target ≤ v) (hp : s.faults.pending = []) {t : State}
    (ht : finish s (sampleWork (.wl m) none s) = t) :
    t.seq.stage = .none ∧ t.seq.runState = .idle ∧ t.seq.progress = .winched ∧ t.seq.jobClock = 0 ∧ t.drives = .off ∧
    t.winch.map WinchRecord.result = some (w.target, some v, .complete) := by
  obtain ⟨hstage, -⟩ := State.winching_iff.mp hs
  have hd := State.drives_winching hl hs
  have hend := lengthDecision_reached (s := takeSample (.wl m) s) hw hs hv h hp
  obtain ⟨u, hu⟩ : ∃ u, u = updateWinch (fun w => { w with installed := some v }) (winchOff (takeSample (.wl m) s)) :=
    ⟨_, rfl⟩
  obtain ⟨pseq, pwinch, pdr, -⟩ := proceed_stageEnd_winch_fields false (s := u) (by rw [hu]; exact hstage)
  rw [← hu] at hend
  have hoff : (proceed chainBound (.stageEnd false) u).drives = .off := by
    rw [pdr, hu]
    refine (?_ : ({ s.drives with winch := false } : Drives) = .off)
    rw [hd]
    rfl
  have hidle : stallReference (proceed chainBound (.stageEnd false) u) = proceed chainBound (.stageEnd false) u := by
    unfold stallReference
    rw [hoff, if_neg (by decide)]
  have hwork := sampleWork_length hv
  rw [hend, hidle] at hwork
  have hclose := finish_stageless s (t := sampleWork (.wl m) none s)
    (by rw [hwork]; exact congrArg Sequencer.stage pseq) (by rw [hwork]; exact hoff)
  rw [hwork] at hclose ht
  have hseq : t.seq = { u.seq.stageLess with progress := .winched } := by
    rw [← ht]; exact (congrArg State.seq hclose :).trans pseq
  rw [hseq]
  refine ⟨rfl, rfl, rfl, rfl, ?_, ?_⟩
  · rw [← ht]; exact (congrArg State.drives hclose :).trans hoff
  · rw [← ht, finish_winch]
    refine (congrArg (Option.map WinchRecord.result) pwinch).trans ?_
    rw [hu, updateWinch_winch, winchOff_winch, show (takeSample (.wl m) s).winch = s.winch from rfl, hw]
    rfl

end

/-- Above LOAD_LIMIT stands WALL_STOP alone (R162). -/
theorem FaultKind.loadLimit_of_priority {k : FaultKind} (h : k.priority ≤ FaultKind.loadLimit.priority)
    (hk : k ≠ .wallStop) : k = .loadLimit := by
  revert h hk
  cases k <;> decide

/-- Settles O43: the limits that the job clock counts, the winch at its samples, and overload and stroke at theirs. -/
theorem driveLimitsStopTheWork : Obligations.DriveLimitsStopTheWork := by
  intro w m v g s hl
  refine ⟨fun hadv hr => ⟨fun hs hd hw ht => ?_, fun hs hp ht => ?_, fun hs hp ht => ?_⟩, fun hs hw hv h => ?_,
    fun hs hw hv h => ?_, fun hs hw hv h hp => ?_, fun hg hv h hlow => ⟨fun hst hs ha => ?_, fun hs => ?_⟩,
    fun hg hv h => ⟨fun hlow hst hs => ?_, fun hlow => ?_⟩, fun hg hst hp hlow hv hn he => ?_⟩
  · obtain ⟨k, hoff⟩ := stall_stops hadv hr hs hd hw ht
    have hdue : stallDue s = true := by simp [stallDue, hadv, State.winching, hs, hr, hd, hw, ht]
    exact ⟨_, tick_due s hdue, k.seen, k.run, k.stage.trans hs, k.held, hoff, k.winch, k.named⟩
  · obtain ⟨k, hoff⟩ := seating_stops hadv hr hs hp ht
    have hdue : lockOffDue .seating 31 s = true := by simp [lockOffDue, hadv, State.stressing, hs, hr, hp, ht]
    exact ⟨_, tick_due s hdue, k.seen, k.run, k.stage.trans hs, k.held, hoff, k.jack hs, k.named⟩
  · obtain ⟨k, hoff⟩ := release_stops hadv hr hs hp ht
    have hdue : lockOffDue .release 61 s = true := by simp [lockOffDue, hadv, State.stressing, hs, hr, hp, ht]
    exact ⟨_, tick_due s hdue, k.seen, k.run, k.stage.trans hs, k.held, hoff, k.jack hs, k.named⟩
  · exact ⟨_, rfl, snag_stops hs hw hv h rfl⟩
  · exact ⟨_, rfl, length_short hl hs hw hv h rfl⟩
  · exact ⟨_, rfl, length_reached hl hs hw hv h hp rfl⟩
  · have k := overload_stops hg hv h hlow hl hst hs ha
    refine ⟨_, rfl, k.seen, k.run, k.drives, k.stage, ?_⟩
    obtain ⟨f, hf, hpr, hwall⟩ := k.taken
    rw [hf, Option.map_some, Option.some.injEq]
    split
    · exact hwall.mpr ‹_›
    · exact FaultKind.loadLimit_of_priority hpr fun e => ‹¬ _› (hwall.mp e)
  · exact ⟨_, rfl, overload_stageless hg hv h hlow hl hs⟩
  · have k := stroke_stops hg hv h hlow hl hst hs
    obtain ⟨f, hf, hpr, -⟩ := k.taken
    exact ⟨_, rfl, k.seen, k.run, k.drives, k.stage, by rw [hf]; exact decide_eq_true hpr⟩
  · exact ⟨_, rfl, stroke_open hv hlow hl⟩
  · obtain ⟨hseen, f, hf, hk⟩ := unloading_stops hg hst hp hlow hv hn he
    exact ⟨_, rfl, hseen, hf.run, hf.stage, finish_halted_drives hf, by rw [hf.taken, Option.map_some, hk]⟩

end Sys2Proof.Machine
end

section
/-!
PROOF. The schedule checks as properties of an accepted schedule (O25).
-/
namespace Sys2Proof.Machine

/-! ## The checks of one step (R122) -/

/-- Step `x` obeys the schedule checks after the steps `before` and in front of the steps `after`, under the tendon load limit
and the datum target (R122). -/
structure StepObeys (limit datum : Nat) (before : List ScheduleStep) (x : ScheduleStep) (after : List ScheduleStep) :
    Prop where
  first : before = [] → x.kind = .load ∧ x.datum = true ∧ 1 ≤ x.target
  later : before ≠ [] → x.datum = false
  last : x.kind = .lock ↔ after = []
  rises : x.kind = .load → ∀ p ∈ before.getLast?, p.target < x.target
  falls : x.kind = .unload → (∀ p ∈ before.getLast?, x.target < p.target) ∧ datum ≤ x.target
  peak : x.kind = .load → after.head?.map ScheduleStep.kind ≠ some .load → ∀ m ∈ (runPeaks before []).head?, m ≤ x.target
  limited : x.target ≤ limit
  locks : x.kind = .lock → datum ≤ x.target
  evaluates : x.evaluate = true → x.kind = .load ∧ 5 ≤ x.hold
  extending : x.extend = true → x.evaluate = true
  elastic : x.elastic = true →
    x.kind = .unload ∧ x.target = datum ∧ before.getLast?.map ScheduleStep.kind = some .load ∧
    ∀ p ∈ before, p.elastic = false
  holds : x.hold ∈ allowedHolds

theorem StepObeys.of_checks {limit datum : Nat} {before after : List ScheduleStep} {x : ScheduleStep}
    (h : ∀ c ∈ stepChecks limit datum before x after, c.1 = true) : StepObeys limit datum before x after := by
  have hlen : before.length + 1 = 1 ↔ before = [] := by simp
  simp only [stepChecks, List.forall_mem_cons, hlen] at h
  obtain ⟨c1, c2, c3, c4, c5, c6, c7, c8, c9, c10, c11, -⟩ := h
  refine ⟨fun hb => ?_, fun hb => ?_, ?_, fun hk p hp => ?_, fun hk => ?_, fun hk ha m hm => ?_, by simpa using c7,
    fun hk => by simpa [hk] using c8, fun he => ?_, fun he => ?_, fun he => ?_, by simpa using c11⟩
  · simpa [hb, and_assoc] using c1
  · simpa [hb] using c2
  · rw [← List.isEmpty_iff, ← beq_iff_eq.mp c3, decide_eq_true_iff]
  · have hb : before ≠ [] := by rintro rfl; simp at hp
    simpa [hb, hk, Option.mem_def.mp hp] using c4
  · simp only [hk, ne_eq, not_true_eq_false, decide_false, Bool.false_or, Bool.and_eq_true, decide_eq_true_eq] at c5
    exact ⟨fun p hp => by simpa [Option.mem_def.mp hp] using c5.1, c5.2⟩
  · obtain ⟨rest, hrest⟩ := List.head?_eq_some_iff.mp (Option.mem_def.mp hm)
    simpa [hk, ha, hrest] using c6
  · simpa [he] using (Bool.and_eq_true_iff.mp c9).1
  · simpa [he] using (Bool.and_eq_true_iff.mp c9).2
  · simpa [he, and_assoc] using c10

/-! ## The checks of a whole schedule (R121) -/

/-- Every step of the schedule obeys its checks, in its place (R121, R122). -/
def Obeys (limit datum : Nat) (l : List ScheduleStep) : Prop :=
  ∀ before x after, l = before ++ x :: after → StepObeys limit datum before x after

theorem stepChecks_of_scheduleChecks {limit datum : Nat} {c : Bool × Refused} {before after : List ScheduleStep}
    {x : ScheduleStep} : ∀ seen, c ∈ stepChecks limit datum (seen ++ before) x after →
      c ∈ scheduleChecks limit datum seen (before ++ x :: after) := by
  induction before with
  | nil =>
    intro seen h
    exact List.mem_append_left _ (by simpa using h)
  | cons y rest ih =>
    intro seen h
    exact List.mem_append_right _ (ih (seen ++ [y]) (by simpa using h))

theorem obeys_of_scheduleRefusal {limit : Nat} {l : List ScheduleStep} (h : scheduleRefusal limit l = none) :
    Obeys limit ((l.head?.map ScheduleStep.target).getD 0) l := fun before x after hl =>
  .of_checks fun c hc => firstFailing_eq_none.mp h c
    (by
      have := stepChecks_of_scheduleChecks (before := before) [] (by simpa using hc)
      rwa [← hl] at this)

/-- An accepted body holds at most 12 steps, which obey the schedule checks (R120, R121). -/
theorem scheduleRefusal_of_accepted {limit : Nat} {b : List Byte} (h : stressRefusal limit b = none) :
    (scheduleOf b).length ≤ 12 ∧ scheduleRefusal limit (scheduleOf b) = none := by
  unfold stressRefusal at h
  split at h
  · cases h
  · split at h
    · cases h
    · rename_i hn
      have hcount : fieldAt b 0 1 ≤ 12 := by simp [within] at hn; exact hn.2
      split at h
      · cases h
      · split at h
        · cases h
        · exact ⟨by simpa [scheduleOf] using hcount, h⟩

section
variable {limit datum : Nat} {l : List ScheduleStep} (h : Obeys limit datum l)
include h

theorem Obeys.at {i : Nat} {x : ScheduleStep} (hx : l[i]? = some x) :
    StepObeys limit datum (l.take i) x (l.drop (i + 1)) := by
  obtain ⟨hi, rfl⟩ := List.getElem?_eq_some_iff.mp hx
  exact h _ _ _ (by rw [← List.drop_eq_getElem_cons hi, List.take_append_drop])

theorem Obeys.of_mem {x : ScheduleStep} (hx : x ∈ l) : ∃ before after, StepObeys limit datum before x after := by
  obtain ⟨before, after, rfl⟩ := List.append_of_mem hx
  exact ⟨before, after, h _ _ _ rfl⟩

/-- The LOCK step stands last and nowhere else (R122, check 3). -/
theorem Obeys.lock_iff {i : Nat} {x : ScheduleStep} (hx : l[i]? = some x) : x.kind = .lock ↔ i + 1 = l.length := by
  obtain ⟨hi, -⟩ := List.getElem?_eq_some_iff.mp hx
  rw [(h.at hx).last, List.drop_eq_nil_iff]
  omega

end

/-- The step before step `i + 1` is step `i`. -/
theorem getLast?_take_succ {l : List ScheduleStep} {i : Nat} {p : ScheduleStep} (hp : l[i]? = some p) :
    (l.take (i + 1)).getLast? = some p := by
  simp [List.getLast?_take, hp]

/-! ## The peaks of the loading runs (R122, check 6) -/

/-- A step that ends a loading run, by the step behind it (R122). -/
def EndsRun (x y : ScheduleStep) : Prop := x.kind = .load ∧ y.kind ≠ .load

theorem mem_runPeaks_of_acc {t : Nat} : ∀ {l : List ScheduleStep} {acc : List Nat}, t ∈ acc → t ∈ runPeaks l acc
  | [], _, h => h
  | [_], _, h => h
  | x :: y :: rest, acc, h => mem_runPeaks_of_acc (l := y :: rest) (by split <;> simp [h])

/-- A loading run that has ended within the steps has its peak among theirs. -/
theorem mem_runPeaks {p q : ScheduleStep} (hr : EndsRun p q) :
    ∀ {l : List ScheduleStep} {acc : List Nat} {i : Nat}, l[i]? = some p → l[i + 1]? = some q →
      p.target ∈ runPeaks l acc
  | [], _, _, hp, _ => by simp at hp
  | [_], _, _, _, hq => by simp at hq
  | x :: y :: rest, acc, 0, hp, hq => by
    obtain rfl : x = p := by simpa using hp
    obtain rfl : y = q := by simpa using hq
    rw [runPeaks, if_pos (show x.kind = .load ∧ y.kind ≠ .load from hr)]
    exact mem_runPeaks_of_acc (List.mem_cons_self)
  | x :: y :: rest, acc, i + 1, hp, hq => by
    rw [runPeaks]
    exact mem_runPeaks hr (l := y :: rest) (i := i) (by simpa using hp) (by simpa using hq)

/-- One step more ends at most the run of the step before it. -/
theorem runPeaks_concat (w z : ScheduleStep) : ∀ (l : List ScheduleStep) (acc : List Nat),
    runPeaks (l ++ [w, z]) acc =
      if w.kind = .load ∧ z.kind ≠ .load then w.target :: runPeaks (l ++ [w]) acc else runPeaks (l ++ [w]) acc
  | [], _ => rfl
  | [x], acc => runPeaks_concat w z [] (if x.kind = .load ∧ w.kind ≠ .load then x.target :: acc else acc)
  | x :: y :: rest, acc =>
    runPeaks_concat w z (y :: rest) (if x.kind = .load ∧ y.kind ≠ .load then x.target :: acc else acc)

theorem take_two {l : List ScheduleStep} {n : Nat} {w z : ScheduleStep} (hw : l[n]? = some w) (hz : l[n + 1]? = some z) :
    l.take (n + 2) = l.take n ++ [w, z] := by
  rw [List.take_add_one, List.take_add_one, hw, hz]
  simp

/-- A LOAD step goes on with the run before it. -/
theorem runPeaks_take_load {l : List ScheduleStep} {w : ScheduleStep} (hk : w.kind = .load) :
    ∀ {n : Nat}, l[n]? = some w → runPeaks (l.take (n + 1)) [] = runPeaks (l.take n) []
  | 0, hw => by rw [List.take_add_one, hw]; rfl
  | n + 1, hw => by
    obtain ⟨hn, -⟩ := List.getElem?_eq_some_iff.mp hw
    have hv : l[n]? = some l[n] := List.getElem?_eq_getElem (by omega)
    rw [take_two hv hw, runPeaks_concat, if_neg (by simp [hk]), List.take_add_one, hv]
    rfl

section
variable {limit datum : Nat} {l : List ScheduleStep} (h : Obeys limit datum l)
include h

/-- A run's peak is no lower than the ones before it, where those fall from the latest on. -/
theorem Obeys.peak_of_sorted {n : Nat} {x y : ScheduleStep} (hx : l[n]? = some x) (hy : l[n + 1]? = some y)
    (hr : EndsRun x y) (hs : (runPeaks (l.take n) []).Pairwise (· ≥ ·)) : ∀ t ∈ runPeaks (l.take n) [], t ≤ x.target := by
  have hnext : (l.drop (n + 1)).head?.map ScheduleStep.kind ≠ some .load := by simp [hy, hr.2]
  have hpeak := (h.at hx).peak hr.1 hnext
  cases hp : runPeaks (l.take n) [] with
  | nil => simp
  | cons m rest =>
    rw [hp] at hpeak hs
    have hm : m ≤ x.target := hpeak m rfl
    exact List.forall_mem_cons.mpr ⟨hm, fun t ht => (List.rel_of_pairwise_cons hs ht).trans hm⟩

/-- The peaks fall from the latest on (R122, check 6). -/
theorem Obeys.peaks_sorted : ∀ n, (runPeaks (l.take n) []).Pairwise (· ≥ ·)
  | 0 => by simp [runPeaks]
  | 1 => by cases l <;> simp [runPeaks]
  | n + 2 => by
    have ih := Obeys.peaks_sorted (n + 1)
    cases hz : l[n + 1]? with
    | none =>
      have hlen := List.getElem?_eq_none_iff.mp hz
      rwa [List.take_of_length_le (by omega), ← List.take_of_length_le hlen]
    | some z =>
      obtain ⟨hn, -⟩ := List.getElem?_eq_some_iff.mp hz
      have hw : l[n]? = some l[n] := List.getElem?_eq_getElem (by omega)
      have htake : l.take n ++ [l[n]] = l.take (n + 1) := by rw [List.take_add_one, hw]; rfl
      rw [take_two hw hz, runPeaks_concat, htake]
      split
      · rename_i hr
        refine List.pairwise_cons.mpr ⟨?_, ih⟩
        have hsame := runPeaks_take_load hr.1 hw
        rw [hsame] at ih ⊢
        exact h.peak_of_sorted hw hz hr ih
      · exact ih

/-- Each loading run is as high as those before it (R122, check 6). -/
theorem Obeys.runs_rise {i j : Nat} {p q x y : ScheduleStep} (hp : l[i]? = some p) (hq : l[i + 1]? = some q)
    (hx : l[j]? = some x) (hy : l[j + 1]? = some y) (hij : i < j) (hr : EndsRun p q) (hr' : EndsRun x y) :
    p.target ≤ x.target := by
  have hne : i + 1 ≠ j := by
    rintro rfl
    obtain rfl : q = x := by simpa [hq] using hx
    exact hr.2 hr'.1
  refine h.peak_of_sorted hx hy hr' (h.peaks_sorted j) _ (mem_runPeaks hr (i := i) ?_ ?_)
  · rwa [List.getElem?_take_of_lt hij]
  · rwa [List.getElem?_take_of_lt (by omega)]

end

/-- Settles O25: each check of `StepObeys` where it stands in the schedule, and `Obeys.runs_rise` for the loading runs. -/
theorem acceptedSchedulesObeyTheirChecks : Obligations.AcceptedSchedulesObeyTheirChecks := by
  intro limit i j p q x y body hbody
  obtain ⟨-, hfirst, -⟩ := stressRefusal_none hbody
  obtain ⟨hlen, hchecks⟩ := scheduleRefusal_of_accepted hbody
  have h := obeys_of_scheduleRefusal hchecks
  have hhead : (scheduleOf body).head? = some (stepOf body 0) := by rw [List.head?_eq_getElem?, hfirst]
  rw [hhead, Option.map_some, Option.getD_some] at h
  obtain ⟨hload, hdatum, htarget⟩ := (h.at hfirst).first rfl
  generalize scheduleOf body = l at *
  generalize stepOf body 0 = x0 at *
  have hlast : ∀ {k : Nat} {z : ScheduleStep}, l[k]? = some z → (z.kind = .lock ↔ k + 1 = l.length) := h.lock_iff
  have hpos : 0 < l.length := (List.getElem?_eq_some_iff.mp hfirst).1
  have htwo : 2 ≤ l.length := by
    have hne : ¬ (0 + 1 = l.length) := fun e => by simpa [hload] using (hlast hfirst).mpr e
    omega
  refine ⟨fun z hz => ?_, by rw [hhead, Option.map_some, hload, hdatum], htarget, fun z hz => ?_, ?_, fun z hz => ?_, htwo,
    hlen, fun z hz hk => ?_, fun hp hq => ⟨fun hk => ?_, fun hk => ?_, fun he => ?_, fun hx hy hij hpk hqk hxk hyk => ?_⟩,
    fun hp hx hij he => ?_, ?_⟩
  · obtain ⟨_, _, o⟩ := h.of_mem hz
    exact ⟨o.limited, o.holds, o.evaluates, o.extending⟩
  · obtain ⟨k, hk⟩ := List.mem_iff_getElem?.mp hz
    rw [List.getElem?_drop] at hk
    exact (h.at hk).later (by simp [List.ne_nil_of_length_pos hpos])
  · have hk : l[l.length - 1]? = some l[l.length - 1] := List.getElem?_eq_getElem (by omega)
    rw [List.getLast?_eq_getElem?, hk, Option.map_some, (hlast hk).mpr (by omega)]
  · obtain ⟨k, hk⟩ := List.mem_iff_getElem?.mp hz
    have hlt : k < l.length - 1 := by simpa using (List.getElem?_eq_some_iff.mp hk).1
    rw [List.getElem?_dropLast, if_pos hlt] at hk
    exact fun e => by have := (hlast hk).mp e; omega
  · obtain ⟨_, _, o⟩ := h.of_mem hz
    exact o.locks hk
  · exact (h.at hq).rises hk p (getLast?_take_succ hp)
  · exact ⟨((h.at hq).falls hk).1 p (getLast?_take_succ hp), ((h.at hq).falls hk).2⟩
  · obtain ⟨hu, ht, hprev, -⟩ := (h.at hq).elastic he
    rw [getLast?_take_succ hp] at hprev
    exact ⟨hu, ht, by simpa using hprev⟩
  · exact h.runs_rise hp hq hx hy hij ⟨hpk, hqk⟩ ⟨hxk, hyk⟩
  · by_contra hne
    obtain ⟨-, -, -, hnone⟩ := (h.at hx).elastic (by simpa using hne)
    have hmem : p ∈ l.take j := List.mem_iff_getElem?.mpr ⟨i, by rwa [List.getElem?_take_of_lt hij]⟩
    simp [hnone p hmem] at he
  · by_contra hne
    have hu := ((h.at hfirst).elastic (by simpa using hne)).1
    rw [hload] at hu
    cases hu

end Sys2Proof.Machine
end

section
/-!
PROOF. The drift watch of a locked anchor at a LOAD sample event, and ACCEPT_DRIFT (O36).
-/
namespace Sys2Proof.Machine

/-! ## The station beside its drift watch (R13, R139) -/

/-- The station but for what the drift watch and the close of an event with no stage move: DRIFT, the seen set, the marks of
losses, the count of free orders, the notice and the queue of commands. -/
def State.offWatch (s : State) : State :=
  { s.withoutNotice with
    faults := { s.faults with seen := [] }
    table := { s.withoutNotice.table with drift := false }
    chans := { s.chans with load := { s.chans.load with lostBefore := false }, driftLostBefore := false }
    freeCount := 0, pending := [] }

/-- From `s` to `t` the drift watch may have moved DRIFT and its marks, and kinds have been seen; the rest of the station
stands. -/
structure Watched (s t : State) : Prop where
  same : t.offWatch = s.offWatch
  seen : ∀ k, k ∈ s.faults.seen → k ∈ t.faults.seen

theorem Watched.refl (s : State) : Watched s s := ⟨rfl, fun _ => id⟩

theorem Watched.trans {s t u : State} (h : Watched s t) (k : Watched t u) : Watched s u :=
  ⟨k.same.trans h.same, fun j hj => k.seen j (h.seen j hj)⟩

section
variable {s t : State} (h : Watched s t)
include h

theorem Watched.seq : t.seq = s.seq := (congrArg State.seq h.same :)
theorem Watched.jack : t.jack = s.jack := (congrArg State.jack h.same :)
theorem Watched.drives : t.drives = s.drives := (congrArg State.drives h.same :)
theorem Watched.log : t.log = s.log := (congrArg State.log h.same :)
theorem Watched.pending : t.faults.pending = s.faults.pending := (congrArg (fun u => u.faults.pending) h.same :)
theorem Watched.taken : t.faults.taken = s.faults.taken := (congrArg (fun u => u.faults.taken) h.same :)
theorem Watched.filtered : t.filtered .load = s.filtered .load := (congrArg (fun u => u.filtered .load) h.same :)
theorem Watched.outOfBand : t.outOfBand = s.outOfBand := (congrArg State.outOfBand h.same :)
theorem Watched.stageless (hs : s.seq.stage = .none) : t.seq.stage = .none := by rw [h.seq, hs]

end

/-! ## The drift decisions (R139) -/

/-- The load stands within half the drift band of a locked anchor (R139). -/
def State.backInBand (s : State) : Bool :=
  s.driftWatched &&
    Test.inband.holds (compareNat (s.filtered .load) (s.jack.lockedLoad.getD 0) (s.cfg Setup.driftBand 0 / 2))

/-- DRIFT as the drift decisions leave it (R139). -/
def State.driftJudged (s : State) : Bool := if s.table.drift then !s.backInBand else s.outOfBand

theorem Watched.driftJudged {s t : State} (h : Watched s t) (hd : t.table.drift = s.table.drift) :
    t.driftJudged = s.driftJudged := by
  have hback : t.backInBand = s.backInBand := (congrArg State.backInBand h.same :)
  rw [State.driftJudged, State.driftJudged, hd, hback, h.outOfBand]

/-- With DRIFT set the drift decisions clear it once the load is back within half the band (R139). -/
theorem driftDecision_set {s : State} (hd : s.table.drift = true) :
    driftDecision s = { s with table := { s.table with drift := !s.backInBand } } := by
  have hstay : ({ s with table := { s.table with drift := true } } : State) = s := by rw [← hd]
  unfold driftDecision State.backInBand
  cases s.driftWatched with
  | false => exact hstay.symm
  | true =>
    simp only [if_true, hd, Bool.true_and]
    split
    · rename_i hx
      rw [hx]
      rfl
    · rename_i hx
      rw [Bool.not_eq_true] at hx
      rw [hx]
      exact hstay.symm

section
variable {s : State} (hs : s.seq.stage = .none)
include hs

theorem detect_watched {k : FaultKind} (d : Detail) (hw : k ≠ .wallStop) (hv : k ≠ .voidTest) :
    Watched s (detect k d s) ∧ (detect k d s).table.drift = s.table.drift := by
  rw [detect_stageless d hs hw hv]
  split
  · exact ⟨.refl s, rfl⟩
  · exact ⟨⟨rfl, fun _ hj => mem_insertKind.mpr (.inr hj)⟩, rfl⟩

/-- The drift decisions judge DRIFT, and leave ANCHOR_DRIFT seen where they set it unmasked (R139, R164). -/
theorem driftDecision_watched :
    Watched s (driftDecision s) ∧ (driftDecision s).table.drift = s.driftJudged ∧
    (s.table.drift = false → s.outOfBand = true → s.masked .anchorDrift = false →
      .anchorDrift ∈ (driftDecision s).faults.seen) := by
  have hseen := (driftDecision_work s).seen
  cases hd : s.table.drift with
  | true =>
    rw [driftDecision_set hd, State.driftJudged, if_pos hd]
    exact ⟨⟨rfl, fun _ => id⟩, rfl, nofun⟩
  | false =>
    refine ⟨⟨?_, hseen⟩, ?_, fun _ ho hm => ?_⟩
    · rw [driftDecision_clear hs hd]; rfl
    · rw [driftDecision_clear hs hd, State.driftJudged, hd]; rfl
    · simp only [State.outOfBand, Bool.and_eq_true] at ho
      have hm' : State.masked { s with table := { s.table with drift := true } } .anchorDrift = false := hm
      simp only [driftDecision, ho.1, ho.2, if_true, hd, Bool.false_eq_true, if_false]
      rw [detect_anchorDrift _ (by exact hs), if_neg (by simp [hm'])]
      exact mem_insertKind.mpr (.inl rfl)

theorem driftLossWatch_watched : Watched s (driftLossWatch s) ∧ (driftLossWatch s).table.drift = s.table.drift := by
  have hmark : ∀ (b : Bool) (u : State), u = { s with chans := { s.chans with driftLostBefore := b } } →
      (Watched s u ∧ u.table.drift = s.table.drift) ∧
      Watched s (detect .anchorDrift .loadVoid u) ∧ (detect .anchorDrift .loadVoid u).table.drift = s.table.drift :=
    fun b u hu => by
      have h : Watched s u := by rw [hu]; exact ⟨rfl, fun _ => id⟩
      have hdrift : u.table.drift = s.table.drift := by rw [hu]
      obtain ⟨hw, hd⟩ := detect_watched (k := .anchorDrift) (h.stageless hs) .loadVoid (by decide) (by decide)
      exact ⟨⟨h, hdrift⟩, h.trans hw, hd.trans hdrift⟩
  unfold driftLossWatch
  dsimp only
  split
  · exact (hmark _ _ rfl).2
  · exact (hmark _ _ rfl).1

/-- What is asked of a LOAD value beside the drift decisions leaves DRIFT (R137, R164). -/
theorem watchAt_watched (u : State) :
    Watched s (watchAt .load (u.watchKind .load) false s) ∧
    (watchAt .load (u.watchKind .load) false s).table.drift = s.table.drift := by
  have hkind : Watched s (detectKind (u.watchKind .load) s) ∧
      (detectKind (u.watchKind .load) s).table.drift = s.table.drift := by
    cases hk : u.watchKind .load with
    | none => exact ⟨.refl s, rfl⟩
    | some k => rcases State.watchKind_cases hk with rfl | rfl <;> exact detect_watched hs .none (by decide) (by decide)
  obtain ⟨hw, hd⟩ := driftLossWatch_watched (hkind.1.stageless hs)
  exact ⟨hkind.1.trans hw, hd.trans hkind.2⟩

end

/-! ## The LOAD sample event of a locked anchor (R139) -/

/-- From `s` to `t` the drift decisions have been taken. -/
structure DriftTaken (s t : State) : Prop where
  watched : Watched s t
  drift : t.table.drift = s.driftJudged
  seen : s.table.drift = false → s.outOfBand = true → s.masked .anchorDrift = false → .anchorDrift ∈ t.faults.seen

theorem DriftTaken.then {s t u : State} (h : DriftTaken s t) (k : Watched t u) (hd : u.table.drift = t.table.drift) :
    DriftTaken s u :=
  ⟨h.watched.trans k, hd.trans h.drift, fun hc ho hm => k.seen _ (h.seen hc ho hm)⟩

theorem State.drives_stageless {s : State} (h : s.drivesLegal = true) (hs : s.seq.stage = .none) : s.drives = .off := by
  rw [State.drives_rows h]
  simp [Drives.off, State.raiseAllowed, State.lowerAllowed, State.seatingAllowed, State.groutAllowed, State.winchAllowed, hs]

/-- With no stage active a LOAD sample event completes with the drift decisions on the sample, whichever of its parts acts
first. -/
theorem sampleWork_driftTaken (m : Nat) {s : State} (hs : s.seq.stage = .none) :
    DriftTaken (takeSample (.load m) s) (sampleWork (.load m) none s) := by
  have hlost : (takeSample (.load m) s).standsLost .load = false := by
    simp [State.standsLost, State.needed, takeSample, hs]
  have hwork : ∀ u : State, u.seq.stage = .none → eventWork .load none u = driftDecision u := fun u hu => by
    simp [eventWork, workAt, loadWork, hu]
  have hsample : sampleWork (.load m) none s = markLost .load false
      (besideKinds (watchAt .load ((takeSample (.load m) s).watchKind .load) false) (eventWork .load none)
        (takeSample (.load m) s)) := by
    simp only [sampleWork, show inputChannel (.load m) = .load from rfl, hlost]
  have hu : (takeSample (.load m) s).seq.stage = .none := hs
  rw [hsample]
  generalize takeSample (.load m) s = u at hu
  suffices h : DriftTaken u
      (besideKinds (watchAt .load (u.watchKind .load) false) (eventWork .load none) u) from
    h.then (u := markLost .load false _) ⟨rfl, fun _ => id⟩ rfl
  refine besideKinds_elim (p := DriftTaken u) (fun _ => ?_) ?_ fun t n h => h.then ⟨rfl, fun _ => id⟩ rfl
  · rw [hwork u hu]
    obtain ⟨hw, hd, hseen⟩ := driftDecision_watched hu
    obtain ⟨hk, hkd⟩ := watchAt_watched (hw.stageless hu) u
    exact .then ⟨hw, hd, hseen⟩ hk hkd
  · obtain ⟨hk, hkd⟩ := watchAt_watched hu u
    rw [hwork _ (hk.stageless hu)]
    obtain ⟨hw, hd, hseen⟩ := driftDecision_watched (hk.stageless hu)
    have hmask : (watchAt .load (u.watchKind .load) false u).masked .anchorDrift = u.masked .anchorDrift :=
      (congrArg (fun v => v.masked .anchorDrift) hk.same :)
    exact ⟨hk.trans hw, hd.trans (hk.driftJudged hkd), fun hc ho hm =>
      hseen (hkd.trans hc) (hk.outOfBand.trans ho) (hmask.trans hm)⟩

theorem exec_loadSample_driftTaken (m : Nat) {s : State} (hl : s.drivesLegal = true) (hs : s.seq.stage = .none) :
    ∃ t, exec (.sampleEvent (.load m) none) s = .next t ∧ DriftTaken (takeSample (.load m) s) t := by
  have h := sampleWork_driftTaken m hs
  refine ⟨_, rfl, ?_⟩
  generalize sampleWork (.load m) none s = x at h
  have hclose := finish_stageless s (h.watched.stageless hs) (h.watched.drives.trans (State.drives_stageless hl hs))
  exact h.then ⟨(congrArg State.offWatch hclose :), fun _ => finish_seen⟩ (congrArg (fun u => u.table.drift) hclose :)

/-! ## The two bands in numbers (R139) -/

section
variable {g : Setup} {l w : Nat} {s : State} (hg : s.seq.config = some g) (hp : s.seq.progress = .locked)
  (hs : s.seq.stage = .none) (hl : s.jack.lockedLoad = some l) (hw : s.filtered .load = some w)
include hg hp hs hl hw

theorem State.outOfBand_iff : s.outOfBand = true ↔ w + g.driftBand < l ∨ l + g.driftBand < w := by
  have hwatch : s.driftWatched = true := by simp [State.driftWatched, hg, hp, hs]
  rw [State.outOfBand, hwatch, Bool.true_and, Test.out_iff, hw, hl, State.cfg_some hg, Option.getD_some]
  simp only [compareNat, Option.map_some, compare_below_iff, compare_above_iff (Int.natCast_nonneg _),
    Int.ofNat_eq_natCast]
  omega

theorem State.backInBand_iff : s.backInBand = true ↔ l ≤ w + g.driftBand / 2 ∧ w ≤ l + g.driftBand / 2 := by
  have hwatch : s.driftWatched = true := by simp [State.driftWatched, hg, hp, hs]
  rw [State.backInBand, hwatch, Bool.true_and, Test.inband_iff, hw, hl, State.cfg_some hg, Option.getD_some]
  simp only [compareNat, Option.map_some, compare_within_iff, Int.ofNat_eq_natCast]
  omega

end

/-! ## ACCEPT_DRIFT (R140) -/

section
variable {s : State} (hport : s.portFree = true) (hr : s.seq.runState ≠ .unconfigured)

include hport in
theorem execAcceptDrift_refused (hl : s.drivesLegal = true) {why : Refused} (h : acceptDriftRefused [] s = some why) :
    exec (.acceptDrift []) s = .next (s.replied codeAcceptDrift [] why.1.code why.2 []) :=
  congrArg Host.Outcome.next (emptyRequest_refused hport hl h _)

variable (hp : s.seq.progress = .locked) (hs : s.seq.stage = .none) {v : Nat} (hv : s.filtered .load = some v)
include hport hr hp hs hv

theorem execAcceptDrift_accepted :
    exec (.acceptDrift []) s = .next (finish s (setReply codeAcceptDrift [] 0 0 [] (driftAccepted s))) := by
  have hn : acceptDriftRefused [] s = none := by
    simp [acceptDriftRefused, needConfigured, State.configured, State.stageActive, noBody, firstFailing, hr, hp, hs, hv]
  exact congrArg Host.Outcome.next (emptyRequest_accepted hport hn _)

omit hport hr hp hs in
/-- The locked load moved, DRIFT clear, and the reply formed. -/
theorem setReply_driftAccepted :
    setReply codeAcceptDrift [] 0 0 [] (driftAccepted s) =
      ({ s with jack := { s.jack with lockedLoad := some v },
                table := { s.table with drift := false } } : State).replied codeAcceptDrift [] 0 0 [] := by
  rw [← hv]
  rfl

variable (hl : s.drivesLegal = true)
include hl

/-- The accepted request closes with its effects and at most a notice. -/
theorem execAcceptDrift_closes :
    exec (.acceptDrift []) s =
      .next { prompt s (setReply codeAcceptDrift [] 0 0 [] (driftAccepted s)) with pending := s.pending } := by
  have hlegal : (setReply codeAcceptDrift [] 0 0 [] (driftAccepted s)).drivesLegal = true := hl
  rw [execAcceptDrift_accepted hport hr hp hs hv, finish_of_settled (s := s) (settle_same hlegal rfl rfl) hlegal]

theorem execAcceptDrift_clear (hd : s.table.drift = false) :
    exec (.acceptDrift []) s =
      .next (({ s with jack := { s.jack with lockedLoad := some v } } : State).replied codeAcceptDrift [] 0 0 []) := by
  have hann : (setReply codeAcceptDrift [] 0 0 [] (driftAccepted s)).announced = s.announced := by
    simp only [State.announced, State.ownFlags, hd]
    rfl
  rw [execAcceptDrift_closes hport hr hp hs hv hl, prompt_same hann, setReply_driftAccepted hv]
  simp only [← hd]
  rfl

theorem execAcceptDrift_set (hc : s.seq.config.isSome = true) (hd : s.table.drift = true) :
    exec (.acceptDrift []) s =
      .next (requestNotice
        (({ s with jack := { s.jack with lockedLoad := some v },
                   table := { s.table with drift := false } } : State).replied codeAcceptDrift [] 0 0 [])) := by
  have hann : (setReply codeAcceptDrift [] 0 0 [] (driftAccepted s)).announced ≠ s.announced := fun e => by
    have hflag : false = s.table.drift := congrArg (fun a : NoticePhase × Flags => a.2.drift) e
    rw [hd] at hflag
    cases hflag
  have hask : prompt s (setReply codeAcceptDrift [] 0 0 [] (driftAccepted s)) =
      requestNotice (setReply codeAcceptDrift [] 0 0 [] (driftAccepted s)) := if_pos ⟨hc, hann⟩
  rw [execAcceptDrift_closes hport hr hp hs hv hl, hask, setReply_driftAccepted hv]
  exact congrArg Host.Outcome.next (by rw [requestNotice_shape]; rfl)

end

/-- Settles O36: the request by its checks and its close, the sample events by `DriftTaken`. -/
theorem acceptDriftMovesTheLockedLoad : Obligations.AcceptDriftMovesTheLockedLoad := by
  intro v w l m g s hport hl
  have hload : ∀ u : State, u.chans = s.chans →
      (takeSample (.load m) u).filtered .load = (takeSample (.load m) s).filtered .load := fun u hu =>
    congrArg (fun c : Channels => (c.load.take (loopSample ChannelName.load.top m)).value) hu
  refine ⟨fun hg hr hp hs hv hw => ?_, fun hg hp hs hlock hw => ?_, fun hr => ?_, fun hr hn => ?_, fun hr hp hs hv => ?_,
    fun hr _ hp hs hv hd => execAcceptDrift_clear hport hr hp hs hv hl hd,
    fun hr hc hp hs hv hd => execAcceptDrift_set hport hr hp hs hv hl hc hd⟩
  · have hlegal : (setReply codeAcceptDrift [] 0 0 [] (driftAccepted s)).drivesLegal = true := hl
    have ht := answered_of_settled (s := s) (t := driftAccepted s) (code := codeAcceptDrift) (body := []) hl
      (settle_same hlegal rfl rfl) rfl
    refine ⟨_, execAcceptDrift_accepted hport hr hp hs hv, ?_⟩
    have htl := finish_legal s (setReply codeAcceptDrift [] 0 0 [] (driftAccepted s))
    generalize finish s (setReply codeAcceptDrift [] 0 0 [] (driftAccepted s)) = t at ht htl
    have hseq : t.seq = s.seq := ht.seq
    have hjack : t.jack.lockedLoad = some v := (congrArg Jack.lockedLoad ht.jack).trans hv
    obtain ⟨u, hu, k⟩ := exec_loadSample_driftTaken m htl (by rw [hseq, hs])
    refine ⟨u, hu, (congrArg Jack.lockedLoad k.watched.jack).trans hjack, ?_⟩
    have hclear : (takeSample (.load m) t).table.drift = false := ht.drift
    rw [k.drift, State.driftJudged, hclear]
    exact State.outOfBand_iff (s := takeSample (.load m) t) (by exact hseq ▸ hg) (by exact hseq ▸ hp) (by exact hseq ▸ hs)
      hjack ((hload t ht.chans).trans hw)
  · obtain ⟨t, ht, k⟩ := exec_loadSample_driftTaken m hl hs
    refine ⟨t, ht, k.watched.jack, k.watched.seq, k.watched.log, k.watched.pending, k.watched.taken, fun hd => ?_, fun hd => ?_⟩
    · have hjudged : (takeSample (.load m) s).driftJudged = (takeSample (.load m) s).outOfBand := by
        rw [State.driftJudged, if_neg (by simp [takeSample, hd])]
      rw [k.drift, hjudged]
      exact ⟨State.outOfBand_iff (s := takeSample (.load m) s) hg hp hs hlock hw, fun ho hm => k.seen hd ho hm⟩
    · have hjudged : (takeSample (.load m) s).driftJudged = !(takeSample (.load m) s).backInBand := by
        rw [State.driftJudged, if_pos (by simp [takeSample, hd])]
      rw [k.drift, hjudged, Bool.not_eq_false']
      exact State.backInBand_iff (s := takeSample (.load m) s) hg hp hs hlock hw
  · exact execAcceptDrift_refused hport hl (why := (.notConfigured, 0))
      (by simp [acceptDriftRefused, firstFailing, needConfigured, State.configured, hr])
  · refine execAcceptDrift_refused hport hl (why := (.wrongState, 0)) ?_
    have hstate : (s.seq.progress == .locked && !s.stageActive) = false := by
      rcases hn with h | h <;> simp [State.stageActive, h]
    simp [acceptDriftRefused, firstFailing, needConfigured, State.configured, hr, hstate]
  · refine execAcceptDrift_refused hport hl (why := (.voidValue, 0)) ?_
    simp [acceptDriftRefused, firstFailing, needConfigured, State.configured, State.stageActive, hr, hp, hs, hv]

end Sys2Proof.Machine
end

section
/-!
PROOF. What a detection can do, and the end of SETTLE with its lock check (O44).
-/
namespace Sys2Proof.Machine

/-! ## What a detection can do (R164, R166, R170) -/

/-- A detection leaves no record, is seen, waits in the pending set, or is taken. -/
theorem detect_cases (k : FaultKind) (d : Detail) (s : State) :
    detect k d s = s ∨ detect k d s = seeKind k s ∨ detect k d s = pendKind k d (seeKind k s) ∨
    detect k d s = takeFault k d (seeKind k s) ∨ detect k d s = replaceTaken k d (seeKind k s) := by
  have honce : ∀ u : State, takeAtOnce k d u = u ∨ takeAtOnce k d u = takeFault k d u ∨
      takeAtOnce k d u = replaceTaken k d u := fun u => by
    unfold takeAtOnce
    split
    · exact .inl rfl
    · split
      · split
        · exact .inr (.inr rfl)
        · exact .inl rfl
      · exact .inr (.inl rfl)
    · exact .inr (.inl rfl)
  have htake : ∀ x : State, x = takeAtOnce k d (seeKind k s) → x = s ∨ x = seeKind k s ∨ x = pendKind k d (seeKind k s) ∨
      x = takeFault k d (seeKind k s) ∨ x = replaceTaken k d (seeKind k s) := fun x hx => by
    rcases honce (seeKind k s) with h | h | h
    · exact .inr (.inl (hx.trans h))
    · exact .inr (.inr (.inr (.inl (hx.trans h))))
    · exact .inr (.inr (.inr (.inr (hx.trans h))))
  unfold detect
  dsimp only
  split
  · exact .inl rfl
  · split
    · split
      · exact .inr (.inl rfl)
      · exact htake _ rfl
    · split
      · split
        · exact htake _ rfl
        · exact .inr (.inl rfl)
      · split
        · exact .inr (.inl rfl)
        · split
          · exact htake _ rfl
          · split
            · exact .inr (.inr (.inl rfl))
            · exact .inr (.inl rfl)

/-! ## The evaluator beside a taking -/

@[simp] theorem stopWork_eval (s : State) : (stopWork s).eval = s.eval := by
  have hend : ∀ c u, (endClaim c u).eval = u.eval := fun c u => by unfold endClaim; split <;> simp
  unfold stopWork
  split
  · rfl
  · rfl
  · dsimp only
    split
    · simp [hend]
    · split <;> simp
  · dsimp only
    split <;> simp

@[simp] theorem logTaken_eval (k : FaultKind) (s : State) : (logTaken k s).eval = s.eval := by
  unfold logTaken; split <;> simp

@[simp] theorem takeFault_eval (k : FaultKind) (d : Detail) (s : State) : (takeFault k d s).eval = s.eval := by
  simp [takeFault, writeTaken]

@[simp] theorem detect_eval (k : FaultKind) (d : Detail) (s : State) : (detect k d s).eval = s.eval := by
  rcases detect_cases k d s with h | h | h | h | h <;> rw [h]
  · simp
  · simp
  · simp
  · unfold replaceTaken
    dsimp only
    split <;> simp [writeTaken]

@[simp] theorem watchAsked_eval (u s : State) : (watchAsked u s).eval = s.eval := by
  have hd : ∀ (b : Bool) (k : FaultKind) (t : State), (detectIf b k .none t).eval = t.eval := fun b k t =>
    detectIf_elim (p := fun x => x.eval = t.eval) (fun _ => rfl) fun _ => detect_eval _ _ _
  exact eitherOrder_elim (p := fun x => x.eval = s.eval) (by rw [hd, hd]) (by rw [hd, hd]) fun _ _ h => h

@[simp] theorem settle_eval (s t : State) : (settle s t).eval = t.eval :=
  settle_elim (p := fun x => x.eval = t.eval) (by simp) (by simp [watchDecisions])

/-! ## The lock check (R135, R136) -/

theorem lockOutcomeOf_eq (l target tolerance : Nat) :
    lockOutcomeOf l target tolerance = if l + tolerance < target then .loss else .pass := by
  have hx : Test.short.holds (compareNat (some l) target tolerance) = true ↔ l + tolerance < target := by
    simp only [Test.short_iff, compareNat, Option.map_some, compare_below_iff, Int.ofNat_eq_natCast]
    omega
  unfold lockOutcomeOf
  simp only [hx]

/-- The locked load recorded and judged, and the LOCK step's entry closed (R135, R136, R158). -/
def loadLocked (l : Nat) (s : State) : State :=
  updateEntry (StepEntry.setOutcome .done)
    (updateSummary
      (fun j => { j with
        lockedLoad := some l, lockOutcome := lockOutcomeOf l s.stepTarget (s.cfg Setup.lockTolerance 0) })
      { s with jack := { s.jack with lockedLoad := some l } })

/-- The same with LOCK_LOSS detected where the check finds it (R136). -/
def lockJudged (l : Nat) (s : State) : State :=
  if lockOutcomeOf l s.stepTarget (s.cfg Setup.lockTolerance 0) = .loss then detect .lockLoss .none (loadLocked l s)
  else loadLocked l s

/-- At 60 s of SETTLE a valid load is judged, and the end of the stage is reached (R135, R136). -/
theorem settleEnd_due {s : State} {l : Nat} (hp : s.stressing .settle = true) (ht : 60 ≤ s.jack.lockOffTimer)
    (hf : s.filtered .load = some l) : settleEnd reach s = reach (.stageEnd false) (lockJudged l s) := by
  unfold settleEnd
  rw [if_pos (by simp [hp, ht]), hf]
  rfl

section
variable {l : Nat} {u : State}

/-- A lock check that finds no loss, or a masked one, leaves the pending set. -/
theorem lockJudged_passed (h : u.stepTarget ≤ l + u.cfg Setup.lockTolerance 0 ∨ u.masked .lockLoss = true) :
    ∃ fs, lockJudged l u = { loadLocked l u with faults := fs } ∧ fs.pending = u.faults.pending := by
  unfold lockJudged
  split
  · rename_i hloss
    have hm : (loadLocked l u).masked .lockLoss = true := h.resolve_left fun hle => by
      rw [lockOutcomeOf_eq, if_neg (by omega)] at hloss
      cases hloss
    rw [detect_maskable _ _ rfl (by decide) (by decide), if_neg (by simp [hm])]
    exact ⟨_, rfl, rfl⟩
  · exact ⟨_, rfl, rfl⟩

/-- An unmasked loss waits for the end of the stage. -/
theorem lockJudged_lost (hs : u.seq.stage = .stress) (h : l + u.cfg Setup.lockTolerance 0 < u.stepTarget)
    (hm : u.masked .lockLoss = false) :
    lockJudged l u = pendKind .lockLoss .none (seeKind .lockLoss (loadLocked l u)) := by
  have hm' : (loadLocked l u).masked .lockLoss = false := hm
  have hactive : (loadLocked l u).stageActive = true := by simp [State.stageActive, loadLocked, hs]
  rw [lockJudged, lockOutcomeOf_eq, if_pos h, if_pos rfl, detect_maskable _ _ rfl (by decide) (by decide),
    if_pos ⟨hm', hactive⟩]

end

/-- The end of a STRESS stage closes the summary, shuts every drive and leaves the pending set (R36, R53, R136). -/
theorem proceed_stageEnd_stress_rest (refused : Bool) {s : State} (h : s.seq.stage = .stress) :
    (proceed chainBound (.stageEnd refused) s).eval.summary = { s.eval.summary with jobStatus := .complete } ∧
    (proceed chainBound (.stageEnd refused) s).drives = .off ∧
    (proceed chainBound (.stageEnd refused) s).faults.pending = s.faults.pending := by
  have hp : proceed chainBound (.stageEnd refused) s = endStage refused { s with seq := { s.seq with held := none } } :=
    rfl
  have hdrift : ∀ {u : State}, u.seq.stage = .none → (driftDecision u).drives = u.drives ∧
      (driftDecision u).faults.pending = u.faults.pending := fun hu =>
    ⟨(driftDecision_watched hu).1.drives, (driftDecision_watched hu).1.pending⟩
  rw [hp]
  refine ⟨?_, ?_, ?_⟩ <;> simp [endStage, h, driftDecision_stageless, hdrift, Sequencer.stageLess, updateSummary]

/-! ## The tick that ends SETTLE (R135, R136) -/

/-- The summary with the locked load of the station `s` recorded and judged (R158). -/
def State.lockSummary (s : State) (l : Nat) : JobSummary :=
  { s.eval.summary with
    lockedLoad := some l, lockOutcome := lockOutcomeOf l s.stepTarget (s.cfg Setup.lockTolerance 0) }

/-- From `s` to `w` the stage has ended LOCKED with the load `l` (R36, R136). -/
structure AnchorLocked (l : Nat) (s w : State) : Prop where
  progress : w.seq.progress = .locked
  stage : w.seq.stage = .none
  run : w.seq.runState = .idle
  clock : w.seq.jobClock = 0
  jack : w.jack = { s.jack.stageLess with lockedLoad := some l }
  summary : w.eval.summary = { s.lockSummary l with jobStatus := .complete }
  drives : w.drives = .off
  pending : w.faults.pending = []

theorem AnchorLocked.congr {l : Nat} {s t v : State} (h : t.worked = v.worked) (k : AnchorLocked l s v) :
    AnchorLocked l s t :=
  ⟨by rw [worked_seq h, k.progress], by rw [worked_seq h, k.stage], by rw [worked_seq h, k.run],
    by rw [worked_seq h, k.clock], by rw [worked_jack h, k.jack], by rw [worked_eval h, k.summary],
    by rw [worked_drives h, k.drives], by rw [worked_faults h, k.pending]⟩

/-- From `s` to `w` the loss of the locked load `l` has been taken at the stage's end (R136, R167). -/
structure LockLost (l : Nat) (s w : State) : Prop where
  progress : w.seq.progress = s.seq.progress
  stage : w.seq.stage = .stress
  run : w.seq.runState = .faulted
  held : w.seq.held = some (.stageEnd false)
  locked : w.jack.lockedLoad = some l
  summary : w.eval.summary = s.lockSummary l
  seen : .lockLoss ∈ w.faults.seen
  pending : w.faults.pending = []
  taken : w.faults.taken.isSome = true
  named : s.watchQuiet = true → w.faults.taken.map TakenFault.kind = some .lockLoss
  quiet : w.watchQuiet = s.watchQuiet

theorem LockLost.congr {l : Nat} {s t v : State} (h : t.worked = v.worked) (k : LockLost l s v) : LockLost l s t :=
  ⟨by rw [worked_seq h, k.progress], by rw [worked_seq h, k.stage], by rw [worked_seq h, k.run],
    by rw [worked_seq h, k.held], by rw [worked_jack h, k.locked], by rw [worked_eval h, k.summary],
    by rw [worked_faults h]; exact k.seen, by rw [worked_faults h, k.pending], by rw [worked_faults h, k.taken],
    fun hq => by rw [worked_faults h, k.named hq], by rw [worked_watchQuiet h, k.quiet]⟩

/-- A tick's counts leave the anchor progress. -/
theorem tickCounts_progress (s : State) : (tickCounts s).seq.progress = s.seq.progress := by
  rw [tickCounts, jobTick_shape]
  exact (congrArg Sequencer.progress (ageEntries_fields s).1 :)

/-- The state at 60 s of SETTLE, before its check. -/
def settleOver (v : State) : State := { v with jack := { v.jack with lockOffTimer := 60 } }

section
variable {s : State} {l : Nat} (hadv : s.jobAdvances = true) (hb : s.boundaryClear = true)
  (hp : s.stressing .settle = true) (ht : s.jack.lockOffTimer = 59) (hf : s.filtered .load = some l)

include hp ht hf in
/-- The sixtieth second brings the lock check and the end of the stage, and no other clock. -/
theorem stageClocks_settle {v : State} (h : AtTick s v) :
    stageClocks v = reach (.stageEnd false) (lockJudged l (settleOver v)) := by
  have hp' : v.stressing .settle = true := (h.stressing _).trans hp
  obtain ⟨hs, hr, hphase⟩ := State.stressing_iff.mp hp'
  have hclock : stageClocks v = settleEnd reach (settleOver v) := by
    have htimer : v.jack.lockOffTimer = 59 := by rw [h.jack, ht]
    simp [stageClocks, lockOffClock, settleOver, hs, hr, hphase, htimer]
  rw [hclock]
  exact settleEnd_due (s := settleOver v) hp' (Nat.le_refl 60) ((h.filtered .load).trans hf)

include hadv hp in
theorem workOfTick_settle {v : State} (h : AtTick s v) : workOfTick s.jobAdvances v = gateWork (stageClocks v) := by
  obtain ⟨-, -, hphase⟩ := State.stressing_iff.mp hp
  have hdue : v.timeoutDue = false := by rw [h.timeoutDue]; simp [State.stressing, hphase]
  simp [workOfTick, hadv, hdue]

/-- What the lock check finds at the tick is what the station gives before it. -/
theorem settleOver_reads {v : State} (h : AtTick s v) :
    (settleOver v).stepTarget = s.stepTarget ∧
    (settleOver v).cfg Setup.lockTolerance 0 = s.cfg Setup.lockTolerance 0 ∧
    (settleOver v).masked .lockLoss = s.masked .lockLoss ∧ (settleOver v).lockSummary l = s.lockSummary l := by
  have htarget : (settleOver v).stepTarget = s.stepTarget := h.stepTarget
  have hcfg : (settleOver v).cfg Setup.lockTolerance 0 = s.cfg Setup.lockTolerance 0 := h.cfg _ _
  have heval : (settleOver v).eval = s.eval := h.eval
  have hmask : (settleOver v).masked .lockLoss = s.masked .lockLoss := congrArg
    (fun f : FaultUnit => FaultKind.lockLoss.maskable && f.mask.contains .lockLoss) h.faults
  exact ⟨htarget, hcfg, hmask, by rw [State.lockSummary, htarget, hcfg, heval]; rfl⟩

include hadv hp ht in
theorem settleWaitEnd_due : exec .settleWaitEnd s = .next (secure s (noticeTick s)) :=
  tick_due s (by simp [lockOffDue, hadv, hp, ht])

include hadv hb hp ht hf

/-- Without a loss, or with it masked, the tick ends the stage LOCKED. -/
theorem tick_anchorLocks (hok : s.stepTarget ≤ l + s.cfg Setup.lockTolerance 0 ∨ s.masked .lockLoss = true) :
    AnchorLocked l s (secure s (noticeTick s)) := by
  have hwork : AnchorLocked l s (tickWork s.jobAdvances (tickCounts s)) := by
    refine tickWork_elim AnchorLocked.congr fun v hv => ?_
    have h : AtTick s v := ⟨hv, hb⟩
    obtain ⟨htarget, hcfg, hmask, hsum⟩ := settleOver_reads (l := l) h
    obtain ⟨fs, hjudged, hpend⟩ := lockJudged_passed (l := l) (u := settleOver v) (by rwa [htarget, hcfg, hmask])
    rw [workOfTick_settle hadv hp h, stageClocks_settle hp ht hf h, hjudged]
    generalize hx : ({ loadLocked l (settleOver v) with faults := fs } : State) = x
    have hxs : x.seq.stage = .stress := by rw [← hx]; exact h.stage.trans (State.stressing_iff.mp hp).1
    have hxp : x.faults.pending = [] := by rw [← hx]; exact hpend.trans h.pending
    have hxj : x.jack.stageLess = { s.jack.stageLess with lockedLoad := some l } := by
      rw [← h.jack, ← hx]; rfl
    have hxe : x.eval.summary = s.lockSummary l := by rw [← hsum, ← hx]; rfl
    obtain ⟨gseq, gjack, -, -⟩ := proceed_stageEnd_stress_fields false hxs
    obtain ⟨gsum, gdrives, gpend⟩ := proceed_stageEnd_stress_rest false hxs
    rw [reach, reachWith_pass hxp]
    have hgate : gateWork (proceed chainBound (.stageEnd false) x) = proceed chainBound (.stageEnd false) x :=
      workOfTick_stageless (by rw [gseq]; rfl) false
    rw [hgate]
    exact ⟨by rw [gseq], by rw [gseq]; rfl, by rw [gseq]; rfl, by rw [gseq]; rfl, gjack.trans hxj, by rw [gsum, hxe],
      gdrives, gpend.trans hxp⟩
  generalize hw : tickWork s.jobAdvances (tickCounts s) = w at hwork
  obtain ⟨hseen, -⟩ := settle_stageless s hwork.stage hwork.drives
  have hsettled : AnchorLocked l s (settle s w) := by
    rw [hseen]
    exact ⟨hwork.progress, hwork.stage, hwork.run, hwork.clock, hwork.jack, hwork.summary, hwork.drives, hwork.pending⟩
  refine hsettled.congr (noticeTick_worked hw fun _ hg => ?_)
  rw [State.grouting_iff, hsettled.stage] at hg
  exact absurd hg.1.1 (by decide)

/-- An unmasked loss is taken at the end of the stage, which is held. -/
theorem tick_lockLost (hlow : l + s.cfg Setup.lockTolerance 0 < s.stepTarget) (hm : s.masked .lockLoss = false) :
    LockLost l s (secure s (noticeTick s)) := by
  have hwork : LockLost l s (tickWork s.jobAdvances (tickCounts s)) := by
    refine tickWork_elim LockLost.congr fun v hv => ?_
    have h : AtTick s v := ⟨hv, hb⟩
    have hstress : v.seq.stage = .stress := h.stage.trans (State.stressing_iff.mp hp).1
    have hphase : v.jack.phase = .settle := by rw [h.jack]; exact (State.stressing_iff.mp hp).2.2
    obtain ⟨htarget, hcfg, hmask, hsum⟩ := settleOver_reads (l := l) h
    have hfield : SameField v (stageClocks v) := (stageClocks_work (by rw [hstress]; decide)).sameField
    have hjudged := lockJudged_lost (l := l) (u := settleOver v) hstress (by rwa [htarget, hcfg]) (hmask.trans hm)
    have hclock := stageClocks_settle hp ht hf h
    rw [hjudged] at hclock
    generalize hx : pendKind .lockLoss .none (seeKind .lockLoss (loadLocked l (settleOver v))) = x at hclock
    have hxp : x.faults.pending = [(.lockLoss, .none)] := by
      have hpend : (loadLocked l (settleOver v)).faults.pending = [] := h.pending
      rw [← hx]; simp [hpend, insertPending]
    have hxq : x.seq = v.seq := by rw [← hx]; rfl
    have htake : reach (.stageEnd false) x = takeAtBoundary .lockLoss .none (.stageEnd false) x := by
      unfold reach reachWith; rw [hxp]
    obtain ⟨tseq, tkind, -, tpend, tseen⟩ := reachWith_taken hxp (by decide) (proceed chainBound) (.stageEnd false)
    have tjack : (reach (.stageEnd false) x).jack = { x.jack with topUp := false } := by
      rw [htake]
      exact (takeFault_stress (k := .lockLoss) .none (s := { x with faults := { x.faults with pending := [] } })
        (by rw [← hx]; exact hstress) (by rw [← hx]; simp [loadLocked, settleOver, hphase])).1
    have teval : (reach (.stageEnd false) x).eval = x.eval := by rw [htake]; simp [takeAtBoundary]
    have tseq' : (reach (.stageEnd false) x).seq = { x.seq with runState := .faulted, held := some (.stageEnd false) } := tseq
    have hidle : gateWork (stageClocks v) = stageClocks v := by
      rw [hclock]
      refine gateWork_stopped ?_ ?_ <;> rw [tseq']
      rw [hxq, hstress]
      decide
    have hkind : (stageClocks v).faults.taken.map TakenFault.kind = some .lockLoss := by rw [hclock]; exact tkind
    rw [workOfTick_settle hadv hp h, hidle]
    refine ⟨?_, ?_, ?_, ?_, ?_, ?_, ?_, ?_, ?_, fun _ => hkind, hfield.watchQuiet.trans h.watchQuiet⟩
    · rw [hclock, tseq', hxq, worked_seq hv]
      exact tickCounts_progress s
    · rw [hclock, tseq', hxq]
      exact hstress
    · rw [hclock, tseq']
    · rw [hclock, tseq']
    · rw [hclock, tjack, ← hx]
      rfl
    · rw [hclock, teval, ← hsum, ← hx]
      rfl
    · rw [hclock]
      refine tseen ▸ ?_
      rw [← hx]
      exact mem_insertKind.mpr (.inl rfl)
    · rw [hclock]
      exact tpend
    · obtain ⟨f, hf, -⟩ := Option.map_eq_some_iff.mp hkind
      rw [hf]
      rfl
  generalize hw : tickWork s.jobAdvances (tickCounts s) = w at hwork
  obtain ⟨k, kquiet⟩ := settle_staysFaulted (s := s) (by rw [hwork.stage]; decide) hwork.run hwork.taken
  have hsettled : LockLost l s (settle s w) :=
    ⟨by rw [k.seq, hwork.progress], by rw [k.seq, hwork.stage], by rw [k.seq, hwork.run], by rw [k.seq, hwork.held],
      by rw [k.jack, hwork.locked], by rw [settle_eval, hwork.summary], k.seen _ hwork.seen, by rw [k.pending, hwork.pending],
      k.taken, fun hq => by rw [kquiet (hwork.quiet.trans hq), hwork.named hq],
      (settle_work s w).sameField.watchQuiet.trans hwork.quiet⟩
  refine hsettled.congr (noticeTick_worked hw fun _ hg => ?_)
  rw [State.grouting_iff, hsettled.stage] at hg
  exact absurd hg.1.1 (by decide)

end

/-- Settles O44: the lock check either lets the stage end LOCKED or takes the loss at that end. -/
theorem settleWaitLocksTheAnchor : Obligations.SettleWaitLocksTheAnchor := by
  intro l s hl hadv hb hp ht hf
  refine ⟨_, settleWaitEnd_due hadv hp ht, ?_⟩
  have houtcome : (s.lockSummary l).lockOutcome =
      if l + s.cfg Setup.lockTolerance 0 < s.stepTarget then .loss else .pass := lockOutcomeOf_eq _ _ _
  by_cases hok : s.stepTarget ≤ l + s.cfg Setup.lockTolerance 0 ∨ s.masked .lockLoss = true
  · have k := tick_anchorLocks hadv hb hp ht hf hok
    refine ⟨by rw [k.jack], by rw [k.summary]; rfl, k.drives, by rw [k.summary]; exact houtcome,
      fun _ => ⟨k.progress, k.stage, k.run, k.clock, by rw [k.summary], by rw [k.jack]; rfl, by rw [k.jack]; rfl,
        by rw [k.jack]; rfl, k.pending, by simpa [State.ownFlags] using k.progress, by rw [k.jack]; rfl⟩,
      fun hlow hm => ?_⟩
    rcases hok with h | h
    · omega
    · rw [hm] at h; cases h
  · obtain ⟨hlow, hm⟩ := not_or.mp hok
    have hlow' : l + s.cfg Setup.lockTolerance 0 < s.stepTarget := by omega
    have k := tick_lockLost hadv hb hp ht hf hlow' (by simpa using hm)
    exact ⟨k.locked, by rw [k.summary]; rfl, State.drives_off_faulted (secure_legal _ _) k.run,
      by rw [k.summary]; exact houtcome, fun h => absurd h hok,
      fun _ _ => ⟨k.progress, k.stage, k.run, k.held, k.seen, k.pending, k.named⟩⟩

end Sys2Proof.Machine
end

section
/-!
PROOF. The ramp clock at a tick of RAMP_UP (O48).
-/
namespace Sys2Proof.Machine

/-! ## The raise valve alone (R53) -/

section
variable {s : State} (ha : s.raiseAllowed = true)
include ha

/-- Where the raise valve may be open, no other drive is on. -/
theorem State.drives_of_raise (hl : s.drivesLegal = true) : s.drives = { Drives.off with raise := s.drives.raise } := by
  have hrow := State.drives_rows hl
  have hlower : s.lowerAllowed = false := by simpa [ha] using raise_lower_apart s
  have hrest : s.seatingAllowed = false ∧ s.groutAllowed = false ∧ s.winchAllowed = false := by
    simp only [State.raiseAllowed, Bool.and_eq_true, beq_iff_eq, Bool.or_eq_true] at ha
    obtain ⟨hs, ⟨-, hp⟩ | ⟨-, hp⟩⟩ := ha <;>
      simp [State.seatingAllowed, State.groutAllowed, State.winchAllowed, hs, hp]
  obtain ⟨hseat, hgrout, hwinch⟩ := hrest
  rw [ha, hlower, hseat, hgrout, hwinch] at hrow
  simpa [Drives.off] using hrow

theorem State.legal_of_raise {b : Bool} (hd : s.drives = { Drives.off with raise := b }) : s.drivesLegal = true := by
  simp [State.drivesLegal, hd, ha, Drives.off]

end

theorem State.raiseAllowed_rampUp {s : State} (h : s.stressing .rampUp = true) : s.raiseAllowed = true := by
  obtain ⟨hs, hr, hp⟩ := State.stressing_iff.mp h
  simp [State.raiseAllowed, hs, hr, hp]

/-- In RAMP_DOWN only the lower valve can be open. -/
theorem State.drives_of_unload {s : State} (hl : s.drivesLegal = true) (h : s.stressing .rampDown = true) :
    s.drives = { Drives.off with lower := s.drives.lower } := by
  obtain ⟨hs, -, hp⟩ := State.stressing_iff.mp h
  obtain ⟨kr, -, ks, kg, kw⟩ := State.drives_shut hl
  exact Drives.ext_lower (kr (by simp [State.raiseAllowed, hp])) rfl (ks (by simp [State.seatingAllowed, hp]))
    (kg (by simp [State.groutAllowed, hs])) (kw (by simp [State.winchAllowed, hs]))

/-! ## What the counts of a tick leave of the fault unit (R79) -/

theorem insertPending_named (k : FaultKind) (d : Detail) (l : List (FaultKind × Detail)) :
    k ∈ (insertPending k d l).map Prod.fst := by
  induction l with
  | nil => simp [insertPending]
  | cons x rest ih =>
    obtain ⟨j, e⟩ := x
    unfold insertPending
    split
    · simp
    · split
      · simp [*]
      · simpa using .inr (by simpa using ih)

theorem ageEntries_taken (s : State) : (ageEntries s).faults.taken = s.faults.taken := by
  have hlost : ∀ (gone : List Entry) (u : State),
      (gone.foldl (fun s e => detect .neighbourLost (.station e.station) s) u).faults.taken = u.faults.taken :=
    fun gone => by
      induction gone with
      | nil => exact fun _ => rfl
      | cons e rest ih =>
        intro u
        have hd : ∀ t, t = detect .neighbourLost (.station e.station) u → t.faults.taken = u.faults.taken := fun t ht => by
          rw [ht, detect_maskable _ u rfl (by decide) (by decide)]
          split <;> rfl
        exact (ih _).trans (hd _ rfl)
  unfold ageEntries
  split
  · rfl
  · exact hlost _ _

theorem tickCounts_reads {s v : State} (h : v.worked = (tickCounts s).worked) :
    v.seq.config = s.seq.config ∧ v.faults.mask = s.faults.mask ∧ v.faults.taken = s.faults.taken := by
  obtain ⟨-, -, hc, hm, -, -⟩ := tickCounts_field s .load
  have ht : (tickCounts s).faults.taken = s.faults.taken := by
    rw [tickCounts, jobTick_shape]
    exact ageEntries_taken s
  rw [worked_seq h, worked_faults h]
  exact ⟨hc, hm, ht⟩

/-! ## The ramp clock (R126, R128) -/

section
variable {s : State} (hclock : s.jack.ramp.clock < 16777215)
include hclock

theorem rampClock_slows
    (hover : rampAllowance s.stepTarget s.jack.ramp.startLoad (s.cfg Setup.rampRate 0) < s.jack.ramp.clock + 1)
    (hs : s.jack.ramp.slow = false) :
    rampClock s =
      detect .rateSlow .none
        { s with jack := { s.jack with ramp := { s.jack.ramp with clock := s.jack.ramp.clock + 1, slow := true } } } := by
  have hmin : min (s.jack.ramp.clock + 1) Config.clockMax = s.jack.ramp.clock + 1 := by
    simp only [Config.clockMax]; omega
  have hstep : ∀ r, State.stepTarget { s with jack := { s.jack with ramp := r } } = s.stepTarget := fun _ => rfl
  have hcfg : ∀ r, State.cfg { s with jack := { s.jack with ramp := r } } Setup.rampRate 0 = s.cfg Setup.rampRate 0 :=
    fun _ => rfl
  simp only [rampClock, hmin, hstep, hcfg, hover, hs]
  rfl

theorem rampClock_counts (hs : s.jack.ramp.slow = true) :
    rampClock s = { s with jack := { s.jack with ramp := { s.jack.ramp with clock := s.jack.ramp.clock + 1 } } } := by
  have hmin : min (s.jack.ramp.clock + 1) Config.clockMax = s.jack.ramp.clock + 1 := by
    simp only [Config.clockMax]; omega
  simp [rampClock, hmin, hs]

end

/-- The tick in RAMP_UP advances the ramp clock and no other, and its gates do nothing. -/
theorem workOfTick_rampUp {v w : State} (hv : v.stressing .rampUp = true) (hw : rampClock v = w)
    (hws : w.stressing .rampUp = true) : workOfTick true v = w := by
  obtain ⟨hs, hr, hp⟩ := State.stressing_iff.mp hv
  obtain ⟨hs', -, hp'⟩ := State.stressing_iff.mp hws
  have hdue : v.timeoutDue = false := by simp [State.timeoutDue, State.stressing, hp]
  have hclocks : stageClocks v = w := by simpa [stageClocks, hs, hr, hp] using hw
  have hidle : gateWork w = w :=
    gateWork_idle hs' (by simp [State.stressing, hp']) (by simp [State.stressing, hp'])
  simp only [workOfTick, hdue, if_true, Bool.false_eq_true, if_false, hclocks, hidle]

/-- From `s` to `w` a tick has advanced the ramp clock to the ramp record `r`, and the ramp goes on. -/
structure RampTicked (r : Ramp) (s w : State) : Prop where
  stage : w.seq.stage = s.seq.stage
  run : w.seq.runState = s.seq.runState
  jack : w.jack = { s.jack with ramp := r }
  drives : w.drives = s.drives

theorem RampTicked.congr {r : Ramp} {s t v : State} (h : t.worked = v.worked) (k : RampTicked r s v) :
    RampTicked r s t :=
  ⟨by rw [worked_seq h, k.stage], by rw [worked_seq h, k.run], by rw [worked_jack h, k.jack],
    by rw [worked_drives h, k.drives]⟩

theorem RampTicked.stressing {r : Ramp} {s w : State} (k : RampTicked r s w) (h : s.stressing .rampUp = true) :
    w.stressing .rampUp = true := by
  obtain ⟨hs, hr, hp⟩ := State.stressing_iff.mp h
  exact State.stressing_iff.mpr ⟨k.stage.trans hs, k.run.trans hr, by rw [k.jack]; exact hp⟩

section
variable {s : State} (hl : s.drivesLegal = true) (h : s.stressing .rampUp = true)
include hl h

theorem RampTicked.settles {r : Ramp} {w : State} (k : RampTicked r s w) : TickSettles s w where
  legal := State.legal_of_raise (State.raiseAllowed_rampUp (k.stressing h))
    (k.drives.trans (State.drives_of_raise (State.raiseAllowed_rampUp h) hl))
  run := k.run
  lower := by rw [k.drives]
  gate _ hg := by
    have hs := (State.grouting_iff.mp hg.1).1
    rw [k.stage, (State.stressing_iff.mp h).1] at hs
    cases hs

/-- What the ramp clock comes to from any state with the tick's counts is what the tick leaves. -/
theorem rampTick_elim {p : State → Prop} {r : Ramp} (hadv : s.jobAdvances = true)
    (hp : ∀ {t v : State}, t.worked = v.worked → p v → p t)
    (hw : ∀ v : State, v.worked = (tickCounts s).worked → RampTicked r s (rampClock v) ∧ p (rampClock v)) :
    RampTicked r s (secure s (noticeTick s)) ∧ p (secure s (noticeTick s)) := by
  refine noticeTick_elim (p := fun t => RampTicked r s t ∧ p t) (fun e k => ⟨k.1.congr e, hp e k.2⟩) fun v hv => ?_
  obtain ⟨k, hk⟩ := hw v hv
  have hv' := TickWorks.of_counts hv
  have hstress : v.stressing .rampUp = true := by
    rw [← h]; simp only [State.stressing, hv'.stage, hv'.run, hv'.jack]
  rw [hadv, workOfTick_rampUp hstress rfl (k.stressing h)]
  exact ⟨k.settles hl h, k, hk⟩

variable (hadv : s.jobAdvances = true) (hclock : s.jack.ramp.clock < 16777215)
include hadv hclock

/-- The tick on which the ramp clock first exceeds the ramp allowance (R128). -/
theorem tick_rateSlow {g : Setup} (hg : s.seq.config = some g)
    (hover : rampAllowance s.stepTarget s.jack.ramp.startLoad g.rampRate < s.jack.ramp.clock + 1)
    (hslow : s.jack.ramp.slow = false) {t : State} (ht : secure s (noticeTick s) = t) :
    RampTicked { s.jack.ramp with clock := s.jack.ramp.clock + 1, slow := true } s t ∧
    .rateSlow ∈ t.faults.seen ∧ t.faults.taken = s.faults.taken ∧
    (s.masked .rateSlow = false → .rateSlow ∈ t.faults.pending.map Prod.fst) ∧
    (s.masked .rateSlow = true → s.boundaryClear = true → t.faults.pending = []) := by
  rw [← ht]
  refine rampTick_elim (p := fun t => .rateSlow ∈ t.faults.seen ∧ t.faults.taken = s.faults.taken ∧
    (s.masked .rateSlow = false → .rateSlow ∈ t.faults.pending.map Prod.fst) ∧
    (s.masked .rateSlow = true → s.boundaryClear = true → t.faults.pending = [])) hl h hadv (fun e k => ?_) fun v hv => ?_
  · rwa [worked_faults e]
  · have hv' := TickWorks.of_counts hv
    obtain ⟨hcfg, hmask, htaken⟩ := tickCounts_reads hv
    have htarget : v.stepTarget = s.stepTarget := by simp only [State.stepTarget, State.currentStep, hv'.jack]
    have hrate : v.cfg Setup.rampRate 0 = g.rampRate := State.cfg_some (hcfg.trans hg) _ _
    have hmasked : v.masked .rateSlow = s.masked .rateSlow := by simp only [State.masked, hmask]
    have hactive : v.stageActive = true := by
      simp [State.stageActive, hv'.stage, (State.stressing_iff.mp h).1]
    rw [rampClock_slows (by rwa [hv'.jack]) (by rw [htarget, hrate, hv'.jack]; exact hover) (by rw [hv'.jack, hslow]),
      detect_maskable _ _ rfl (by decide) (by decide)]
    have hjack : ({ v.jack with ramp := { v.jack.ramp with clock := v.jack.ramp.clock + 1, slow := true } } : Jack) =
        { s.jack with ramp := { s.jack.ramp with clock := s.jack.ramp.clock + 1, slow := true } } := by rw [hv'.jack]
    split
    · rename_i hpend
      have hm : s.masked .rateSlow = false := hmasked.symm.trans hpend.1
      exact ⟨⟨hv'.stage, hv'.run, hjack, hv'.drives⟩, mem_insertKind.mpr (.inl rfl), htaken,
        fun _ => insertPending_named _ _ _, fun e => absurd (hm.symm.trans e) (by decide)⟩
    · rename_i hpend
      refine ⟨⟨hv'.stage, hv'.run, hjack, hv'.drives⟩, mem_insertKind.mpr (.inl rfl), htaken,
        fun e => absurd ⟨hmasked.trans e, hactive⟩ hpend, fun _ hb => ?_⟩
      have k : AtTick s v := ⟨hv, hb⟩
      exact k.pending

/-- With the slow mark set a tick only counts (R128). -/
theorem tick_staysSlow (hb : s.boundaryClear = true) (hslow : s.jack.ramp.slow = true) {t : State}
    (ht : secure s (noticeTick s) = t) :
    RampTicked { s.jack.ramp with clock := s.jack.ramp.clock + 1 } s t ∧ t.faults = s.faults := by
  rw [← ht]
  refine rampTick_elim (p := fun t => t.faults = s.faults) hl h hadv (fun e k => (worked_faults e).trans k) fun v hv => ?_
  have k : AtTick s v := ⟨hv, hb⟩
  rw [rampClock_counts (by rwa [k.jack]) (by rw [k.jack, hslow])]
  exact ⟨⟨k.stage, k.run, by rw [k.jack], k.drives⟩, k.faults⟩

end

/-! ## The command RATE_SLOW (R128) -/

theorem execRateSlow_due {s : State} {g : Setup} (hadv : s.jobAdvances = true) (hclock : s.jack.ramp.clock < 16777215)
    (hg : s.seq.config = some g) (h : s.stressing .rampUp = true)
    (hover : rampAllowance s.stepTarget s.jack.ramp.startLoad g.rampRate < s.jack.ramp.clock + 1)
    (hslow : s.jack.ramp.slow = false) : exec .rateSlow s = .next (secure s (noticeTick s)) := by
  have hlt : rampAllowance s.stepTarget s.jack.ramp.startLoad g.rampRate < min (s.jack.ramp.clock + 1) Config.clockMax := by
    simp only [Config.clockMax]; omega
  exact tick_due s (by simp [rateSlowDue, hadv, h, hslow, State.cfg_some hg, hlt])

/-- With the slow mark set the occasion does not come about. -/
theorem execRateSlow_not {s : State} (hl : s.drivesLegal = true) (hslow : s.jack.ramp.slow = true) :
    exec .rateSlow s = .next s := by
  have hdue : rateSlowDue s = false := by simp [rateSlowDue, hslow]
  have hsame : secure s (occasion (rateSlowDue s) noticeTick s) = s := by
    rw [hdue]
    exact secure_of_legal hl rfl
  exact congrArg Host.Outcome.next hsame

end Sys2Proof.Machine
end

section
/-!
PROOF. A LOAD sample event of a STRESS stage with neither overload, nor stroke, nor loss due: what its decisions act on, and
what its close leaves of them (O48).
-/
namespace Sys2Proof.Machine

/-! ## The station at the decisions on LOAD (R25) -/

/-- The station but for its log, its wall line and the marks of losses. -/
def State.unmarked (s : State) : State :=
  { s.worked with
    chans := { s.worked.chans with load := { s.worked.chans.load with lostBefore := false }, driftLostBefore := false } }

theorem unmarked_of_worked {s t : State} (h : t.worked = s.worked) : t.unmarked = s.unmarked := by
  unfold State.unmarked
  rw [h]

theorem markLost_load_unmarked (b : Bool) (s : State) : (markLost .load b s).unmarked = s.unmarked := rfl

theorem driftLost_unmarked (s : State) :
    State.unmarked { s with chans := { s.chans with driftLostBefore := false } } = s.unmarked := rfl

theorem unmarked_filtered {s t : State} (h : t.unmarked = s.unmarked) (c : ChannelName) : t.filtered c = s.filtered c := by
  have hf : ∀ u : State, u.filtered c = u.unmarked.filtered c := fun u => by cases c <;> rfl
  rw [hf t, h, ← hf s]

/-- The station `v` at which the decisions on LOAD act, in a sample event of `s`. -/
structure AtLoad (m : Nat) (s v : State) : Prop where
  same : v.unmarked = (takeSample (.load m) s).unmarked

section
variable {m : Nat} {s v : State} (h : AtLoad m s v)
include h

theorem AtLoad.seq : v.seq = s.seq := (congrArg State.seq h.same :)
theorem AtLoad.jack : v.jack = s.jack := (congrArg State.jack h.same :)
theorem AtLoad.drives : v.drives = s.drives := (congrArg State.drives h.same :)
theorem AtLoad.faults : v.faults = s.faults := (congrArg State.faults h.same :)
theorem AtLoad.eval : v.eval = s.eval := (congrArg State.eval h.same :)
theorem AtLoad.contacts : v.contacts = s.contacts := (congrArg State.contacts h.same :)
theorem AtLoad.filtered (c : ChannelName) : v.filtered c = (takeSample (.load m) s).filtered c := unmarked_filtered h.same c
theorem AtLoad.quiet : v.watchQuiet = (takeSample (.load m) s).watchQuiet := (congrArg State.watchQuiet h.same :)
theorem AtLoad.stressing (p : StepPhase) : v.stressing p = s.stressing p := by simp only [State.stressing, h.seq, h.jack]
theorem AtLoad.currentStep : v.currentStep = s.currentStep := by simp only [State.currentStep, h.jack]
theorem AtLoad.stepTarget : v.stepTarget = s.stepTarget := by simp only [State.stepTarget, h.currentStep]
theorem AtLoad.currentEntry : v.currentEntry = s.currentEntry := by simp only [State.currentEntry, h.jack, h.eval]
theorem AtLoad.cfg {g : Setup} (hg : s.seq.config = some g) {α : Type} (f : Setup → α) (d : α) : v.cfg f d = f g :=
  State.cfg_some (by rw [h.seq]; exact hg) f d

end

/-! ## The event around its decisions (R2, R25, R168) -/

/-- With no kind due beside it, a LOAD sample event comes to what its decisions come to. -/
theorem loadSample_shape {m : Nat} {s : State} (hs : s.seq.stage ≠ .none)
    (hkind : (takeSample (.load m) s).watchKind .load = none)
    (hlost : (takeSample (.load m) s).standsLost .load = false)
    (hstage : ∀ v, AtLoad m s v → (loadWork v).seq.stage ≠ .none) :
    ∃ v, AtLoad m s v ∧ (sampleWork (.load m) none s).unmarked = (loadWork v).unmarked := by
  have hsample : sampleWork (.load m) none s =
      markLost .load false (besideKinds (watchAt .load none false) loadWork (takeSample (.load m) s)) := by
    simp only [sampleWork, show inputChannel (.load m) = .load from rfl, hkind, hlost]
    rfl
  have hkinds : ∀ w : State, w.seq.stage ≠ .none →
      watchAt .load none false w = { w with chans := { w.chans with driftLostBefore := false } } := fun w hw =>
    driftLossWatch_staged (s := w) hw
  have hu : AtLoad m s (takeSample (.load m) s) := ⟨rfl⟩
  rw [hsample, markLost_load_unmarked]
  refine besideKinds_elim (p := fun t => ∃ v, AtLoad m s v ∧ t.unmarked = (loadWork v).unmarked) (fun _ => ?_) ?_
    fun _ _ k => k
  · rw [hkinds _ (hstage _ hu), driftLost_unmarked]
    exact ⟨_, hu, rfl⟩
  · rw [hkinds (takeSample (.load m) s) hs]
    exact ⟨_, ⟨driftLost_unmarked _⟩, rfl⟩

/-- What a LOAD sample event leaves at `t`, where its decisions come to `x`. -/
structure LoadClosed (x t : State) : Prop where
  seq : t.seq = x.seq
  jack : t.jack = x.jack
  drives : t.drives = x.drives
  faults : t.faults = x.faults
  eval : t.eval = x.eval
  gateTimer : t.table.gateTimer = x.table.gateTimer
  conditions : t.raiseConditions = x.raiseConditions

theorem LoadClosed.of_unmarked {x t : State} (h : t.unmarked = x.unmarked) : LoadClosed x t :=
  ⟨(congrArg State.seq h :), (congrArg State.jack h :), (congrArg State.drives h :), (congrArg State.faults h :),
    (congrArg State.eval h :), (congrArg (fun u => u.table.gateTimer) h :), (congrArg State.raiseConditions h :)⟩

theorem LoadClosed.currentEntry {x t : State} (h : LoadClosed x t) : t.currentEntry = x.currentEntry := by
  simp only [State.currentEntry, h.jack, h.eval]

/-- Effects `x` like those of a station `w` with its drives in their rows and neither overload nor stroke due close as `w`. -/
theorem finish_unmarked {s x w : State} (h : x.unmarked = w.unmarked) (hl : w.drivesLegal = true)
    (hq : w.watchQuiet = true) : (finish s x).unmarked = w.unmarked := by
  have hlegal : x.drivesLegal = true := (congrArg State.drivesLegal h :).trans hl
  have hquiet : x.watchQuiet = true := (congrArg State.watchQuiet h :).trans hq
  exact (congrArg State.unmarked (finish_offLine (settle_quiet (s := s) hlegal hquiet) hlegal) :).trans h

/-- The event closes as its decisions leave the station, where those keep every drive in its row. -/
theorem loadSample_closes {m : Nat} {s : State} (hs : s.seq.stage ≠ .none)
    (hq : (takeSample (.load m) s).watchQuiet = true) (hlost : (takeSample (.load m) s).standsLost .load = false)
    (hwork : ∀ v, AtLoad m s v → (loadWork v).seq.stage ≠ .none ∧ (loadWork v).drivesLegal = true) :
    ∃ t v, exec (.sampleEvent (.load m) none) s = .next t ∧ AtLoad m s v ∧ LoadClosed (loadWork v) t := by
  have hkind : (takeSample (.load m) s).watchKind .load = none := by
    simp [State.watchKind, State.watchQuiet_overloaded hq]
  obtain ⟨v, hv, hshape⟩ := loadSample_shape hs hkind hlost fun v hv => (hwork v hv).1
  have hquiet := ((loadWork_work v).sameField.watchQuiet.trans hv.quiet).trans hq
  exact ⟨_, v, rfl, hv, .of_unmarked (finish_unmarked hshape (hwork v hv).2 hquiet)⟩

/-! ## Where LOAD lies against a target (R18, R27) -/

section
variable {s : State} {v : Nat} (hv : s.filtered .load = some v) (n : Nat)
include hv

theorem load_short_iff : Test.short.holds (s.loadAgainst n) = true ↔ v + s.cfg Setup.loadTolerance 0 < n := by
  simp only [State.loadAgainst, hv, compareNat, Option.map_some, Test.short_iff, compare_below_iff, Int.ofNat_eq_natCast]
  omega

theorem load_reached_iff : Test.reached.holds (s.loadAgainst n) = true ↔ n ≤ v + s.cfg Setup.loadTolerance 0 := by
  simp only [State.loadAgainst, hv, compareNat, Option.map_some, Test.reached_iff, compare_within_iff, Int.ofNat_eq_natCast,
    compare_above_iff (Int.natCast_nonneg _)]
  omega

theorem load_over_iff : Test.overTest.holds (s.loadAgainst n) = true ↔ n + s.cfg Setup.loadTolerance 0 < v := by
  simp only [State.loadAgainst, hv, compareNat, Option.map_some, Test.overTest_iff, Int.ofNat_eq_natCast,
    compare_above_iff (Int.natCast_nonneg _)]
  omega

theorem load_clear_iff : Test.clear.holds (s.loadAgainst n) = true ↔ v ≤ n + s.cfg Setup.loadTolerance 0 := by
  simp only [State.loadAgainst, hv, compareNat, Option.map_some, Test.clear_iff, compare_below_iff, compare_within_iff,
    Int.ofNat_eq_natCast]
  omega

end

/-! ## The rate limit (R127) -/

/-- The valve is open against a history exactly where its first value is VOID or leaves the rate within the limit. -/
theorem rateHolds_push (rate v : Nat) (h : List (Option Nat)) :
    (!rateHolds rate (pushHistory (some v) h)) =
      (pushHistory (some v) h).head?.join.all fun old => decide (6 * v ≤ 6 * old + rate) := by
  have hlast : (pushHistory (some v) h).getLast? = some (some v) := by
    rw [pushHistory, List.drop_append_of_le_length (by omega), List.getLast?_concat]
  unfold rateHolds
  rw [hlast]
  match (pushHistory (some v) h).head? with
  | none => rfl
  | some none => rfl
  | some (some old) =>
    simp only [Option.join_some, Option.all_some, ← decide_not, decide_eq_decide]
    omega

/-- A history whose last value is VOID holds nothing back. -/
theorem rateHolds_void (rate : Nat) (h : List (Option Nat)) : rateHolds rate (pushHistory none h) = false := by
  have hlast : (pushHistory none h).getLast? = some none := by
    rw [pushHistory, List.drop_append_of_le_length (by omega), List.getLast?_concat]
  unfold rateHolds
  rw [hlast]
  split <;> simp_all

/-- The station with the present LOAD in its rate history (R127). -/
def rated (s : State) : State :=
  { s with
    jack := { s.jack with ramp := { s.jack.ramp with history := pushHistory (s.filtered .load) s.jack.ramp.history } } }

/-- The ramp goes on, the raise valve open where the rate limit does not hold it (R126, R127). -/
def ramped (s : State) : State :=
  { rated s with
    drives :=
      { s.drives with
        raise := !rateHolds (s.cfg Setup.rampRate 0) (pushHistory (s.filtered .load) s.jack.ramp.history) } }

section
variable {s : State} (h : s.stressing .rampUp = true)
include h

theorem loadWork_rampUp :
    loadWork s =
      rampStop reach (rateHolds (s.cfg Setup.rampRate 0) (pushHistory (s.filtered .load) s.jack.ramp.history)) (rated s) := by
  obtain ⟨hs, -, hp⟩ := State.stressing_iff.mp h
  simp only [loadWork, hs, hp, h, if_true]
  rfl

theorem loadWork_rampShort (hx : Test.short.holds (s.loadAgainst s.stepTarget) = true) : loadWork s = ramped s := by
  obtain ⟨hvoid, hreached⟩ := Test.reached_of_short hx
  have hr : (rated s).stressing .rampUp = true := h
  rw [loadWork_rampUp h, rampStop, if_pos hr]
  exact unaware_false _ _ (rated s) hvoid hreached

theorem loadWork_rampReached (hx : Test.reached.holds (s.loadAgainst s.stepTarget) = true) :
    loadWork s = rampStopped reach (rated s) := by
  have hr : (rated s).stressing .rampUp = true := h
  rw [loadWork_rampUp h, rampStop, if_pos hr]
  exact unaware_true _ _ (rated s) hx

/-- On VOID the ramp stop detects VOID_TEST, and where that is masked the ramp goes on (R22). -/
theorem loadWork_rampVoid (hf : s.filtered .load = none) :
    loadWork s =
      if s.masked .voidTest then { detect .voidTest (.channel .load) (rated s) with drives := (ramped s).drives }
      else detect .voidTest (.channel .load) (rated s) := by
  have hr : (rated s).stressing .rampUp = true := h
  have hvoid : (rated s).loadAgainst (rated s).stepTarget = .void :=
    congrArg (fun x => compareNat x s.stepTarget (s.cfg Setup.loadTolerance 0)) hf
  have hd : (rated s).masked .voidTest = true → (detect .voidTest (.channel .load) (rated s)).drives = s.drives :=
    fun hm => by rw [detect_voidTest, if_pos hm]; rfl
  rw [loadWork_rampUp h, rampStop, if_pos hr, unaware, if_pos hvoid]
  by_cases hm : (rated s).masked .voidTest = true
  · rw [if_pos hm, if_pos (by exact hm), hd hm]
    rfl
  · rw [if_neg hm, if_neg (by exact hm)]

end

end Sys2Proof.Machine
end

section
/-!
PROOF. The LOAD decisions that leave a step in its phase: the ramp short of its target, the unloading over it, the top-up, and
the ramp stop on VOID (O48).
-/
namespace Sys2Proof.Machine

/-! ## The entry of the current step (R147) -/

theorem updateEntry_currentEntry {f : StepEntry → StepEntry} (hf : ∀ e, (f e).index = e.index) (s : State) :
    (updateEntry f s).currentEntry = s.currentEntry.map f := by
  have hkeep : ((fun e : StepEntry => e.index == s.jack.stepIndex) ∘ fun e => if e.index = s.jack.stepIndex then f e else e) =
      fun e => e.index == s.jack.stepIndex := by
    funext e
    simp only [Function.comp]
    split <;> simp [hf]
  unfold State.currentEntry updateEntry
  rw [List.find?_map, hkeep]
  cases h : s.eval.results.find? (fun e => e.index == s.jack.stepIndex) with
  | none => rfl
  | some e =>
    have he : e.index = s.jack.stepIndex := by simpa using List.find?_some h
    simp [he]

/-! ## Load maintenance (R131) -/

/-- A top-up under way, not yet counted. -/
def topUpOn (s : State) : State := { s with drives := { s.drives with raise := true }, jack := { s.jack with topUp := true } }

/-- A top-up ended. -/
def topUpOff (s : State) : State := { s with drives := { s.drives with raise := false }, jack := { s.jack with topUp := false } }

theorem loadWork_hold {s : State} (hs : s.seq.stage = .stress) (hp : s.jack.phase = .hold) :
    loadWork s = loadMaintenance s := by simp only [loadWork, hs, hp]

theorem countTopUp_currentEntry (s : State) :
    (countTopUp s).currentEntry = s.currentEntry.map fun e => { e with topUps := min (e.topUps + 1) 65535 } :=
  updateEntry_currentEntry (f := fun e => { e with topUps := min (e.topUps + 1) 65535 }) (fun _ => rfl) s

section
variable {s : State} (hs : s.seq.stage = .stress) (hp : s.jack.phase = .hold)
  (hr : s.seq.runState = .running ∨ s.seq.runState = .paused)
include hs hp hr

theorem State.raiseAllowed_hold : s.raiseAllowed = true := by
  rcases hr with h | h <;> simp [State.raiseAllowed, hs, hp, h]

theorem loadMaintenance_starts (ht : s.jack.topUp = false) (hx : Test.short.holds (s.loadAgainst s.stepTarget) = true) :
    loadMaintenance s = countTopUp (topUpOn s) := by
  unfold loadMaintenance
  rw [if_pos (by rcases hr with h | h <;> simp [hs, hp, h]), if_neg (by simp [ht])]
  exact unaware_true _ _ s hx

theorem loadMaintenance_stops (ht : s.jack.topUp = true) (hx : Test.reached.holds (s.loadAgainst s.stepTarget) = true) :
    loadMaintenance s = topUpOff s := by
  unfold loadMaintenance
  rw [if_pos (by rcases hr with h | h <;> simp [hs, hp, h]), if_pos ht]
  exact unaware_true _ _ s hx

theorem loadMaintenance_tops (ht : s.jack.topUp = true) (hx : Test.short.holds (s.loadAgainst s.stepTarget) = true) :
    loadMaintenance s = s := by
  obtain ⟨hv, hc⟩ := Test.reached_of_short hx
  unfold loadMaintenance
  rw [if_pos (by rcases hr with h | h <;> simp [hs, hp, h]), if_pos ht]
  exact unaware_false _ _ s hv hc

end

/-! ## Decisions on a valid LOAD that keep the phase -/

/-- A LOAD sample event of a STRESS stage whose decisions come to `w`, with the stage and the rows of R53 kept. -/
theorem loadSample_value {m v : Nat} {s : State} {w : State → State} (hs : s.seq.stage = .stress)
    (hv : (takeSample (.load m) s).filtered .load = some v) (hq : (takeSample (.load m) s).watchQuiet = true)
    (hwork : ∀ y, AtLoad m s y → loadWork y = w y)
    (hlegal : ∀ y, AtLoad m s y → (w y).seq.stage = .stress ∧ (w y).drivesLegal = true) :
    ∃ t y, exec (.sampleEvent (.load m) none) s = .next t ∧ AtLoad m s y ∧ LoadClosed (w y) t := by
  obtain ⟨t, y, ht, hy, k⟩ := loadSample_closes (m := m) (s := s) (by rw [hs]; decide) hq (standsLost_of_value hv)
    fun y hy => by
      obtain ⟨h, k⟩ := hlegal y hy
      rw [hwork y hy, h]
      exact ⟨by decide, k⟩
  exact ⟨t, y, ht, hy, hwork y hy ▸ k⟩

section
variable {g : Setup} {m v : Nat} {s y : State} (hg : s.seq.config = some g)
  (hv : (takeSample (.load m) s).filtered .load = some v) (hy : AtLoad m s y)
include hg hv hy

theorem AtLoad.short (h : v + g.loadTolerance < s.stepTarget) :
    Test.short.holds (y.loadAgainst y.stepTarget) = true :=
  (load_short_iff ((hy.filtered _).trans hv) _).mpr (by rw [hy.cfg hg, hy.stepTarget]; exact h)

theorem AtLoad.reached (h : s.stepTarget ≤ v + g.loadTolerance) :
    Test.reached.holds (y.loadAgainst y.stepTarget) = true :=
  (load_reached_iff ((hy.filtered _).trans hv) _).mpr (by rw [hy.cfg hg, hy.stepTarget]; exact h)

theorem AtLoad.over (h : s.stepTarget + g.loadTolerance < v) :
    Test.overTest.holds (y.loadAgainst y.stepTarget) = true :=
  (load_over_iff ((hy.filtered _).trans hv) _).mpr (by rw [hy.cfg hg, hy.stepTarget]; exact h)

theorem AtLoad.clear (h : v ≤ s.stepTarget + g.loadTolerance) :
    Test.clear.holds (y.loadAgainst y.stepTarget) = true :=
  (load_clear_iff ((hy.filtered _).trans hv) _).mpr (by rw [hy.cfg hg, hy.stepTarget]; exact h)

end

section
variable {g : Setup} {m v : Nat} {s : State} (hl : s.drivesLegal = true) (hg : s.seq.config = some g)
  (hv : (takeSample (.load m) s).filtered .load = some v) (hq : (takeSample (.load m) s).watchQuiet = true)
include hl hg hv hq

/-- Short of the target the ramp goes on, the raise valve as the rate limit lets it (R126, R127). -/
theorem load_ramps (hp : s.stressing .rampUp = true) (hlow : v + g.loadTolerance < s.stepTarget) :
    ∃ t, exec (.sampleEvent (.load m) none) s = .next t ∧ t.seq = s.seq ∧ t.faults = s.faults ∧
      t.jack = { s.jack with ramp := { s.jack.ramp with history := pushHistory (some v) s.jack.ramp.history } } ∧
      t.drives.lower = false ∧
      t.drives.raise = t.jack.ramp.history.head?.join.all fun old => decide (6 * v ≤ 6 * old + g.rampRate) := by
  have hdrives := State.drives_of_raise (State.raiseAllowed_rampUp hp) hl
  have hramped : ∀ y, AtLoad m s y → (ramped y).drives =
      { Drives.off with raise := !rateHolds g.rampRate (pushHistory (some v) s.jack.ramp.history) } := fun y hy => by
    have hf : y.filtered .load = some v := (hy.filtered _).trans hv
    simp only [ramped, hy.cfg hg, hf, hy.jack, hy.drives]
    rw [hdrives]
  obtain ⟨t, y, ht, hy, k⟩ := loadSample_value (w := ramped) (State.stressing_iff.mp hp).1 hv hq
    (fun y hy => loadWork_rampShort ((hy.stressing _).trans hp) (hy.short hg hv hlow)) fun y hy => by
      have hstress : (ramped y).stressing .rampUp = true := (hy.stressing _).trans hp
      exact ⟨(State.stressing_iff.mp hstress).1,
        State.legal_of_raise (State.raiseAllowed_rampUp hstress) (hramped y hy)⟩
  have hf : y.filtered .load = some v := (hy.filtered _).trans hv
  have hjack : t.jack =
      { s.jack with ramp := { s.jack.ramp with history := pushHistory (some v) s.jack.ramp.history } } := by
    rw [k.jack]
    simp only [ramped, rated, hf, hy.jack]
  refine ⟨t, ht, k.seq.trans hy.seq, k.faults.trans hy.faults, hjack, ?_, ?_⟩
  · rw [k.drives, hramped y hy]
    rfl
  · rw [hjack, k.drives, hramped y hy, ← rateHolds_push]

/-- Over the target's band the unloading goes on (R129). -/
theorem load_unloads (hp : s.stressing .rampDown = true) (hover : s.stepTarget + g.loadTolerance < v) :
    ∃ t, exec (.sampleEvent (.load m) none) s = .next t ∧ t.seq = s.seq ∧ t.jack = s.jack ∧ t.faults = s.faults ∧
      t.drives = { Drives.off with lower := true } := by
  obtain ⟨hs, hr, hphase⟩ := State.stressing_iff.mp hp
  have hdrives := State.drives_of_unload hl hp
  have hlower : ∀ y, AtLoad m s y → ({ y.drives with lower := true } : Drives) = { Drives.off with lower := true } :=
    fun y hy => by rw [hy.drives, hdrives]
  obtain ⟨t, y, ht, hy, k⟩ := loadSample_value (w := fun y => { y with drives := { y.drives with lower := true } }) hs hv hq
    (fun y hy => by
      obtain ⟨hs', hr', hphase'⟩ := State.stressing_iff.mp ((hy.stressing _).trans hp)
      have hstop := unloadStop_over (reach := reach) ((hy.stressing _).trans hp) (hy.over hg hv hover)
      have hunload : loadWork y = lowering (unloadStop reach y) := by simp only [loadWork, hs', hphase']
      rw [hunload, hstop, lowering_other (by simp [hr'])])
    fun y hy => by
      refine ⟨(congrArg Sequencer.stage hy.seq).trans hs, State.drivesLegal_of_lower (hlower y hy) fun _ => ?_⟩
      simp [State.lowerAllowed, hy.seq, hy.jack, hs, hr, hphase]
  exact ⟨t, ht, k.seq.trans hy.seq, k.jack.trans hy.jack, k.faults.trans hy.faults, k.drives.trans (hlower y hy)⟩

section
variable (hs : s.seq.stage = .stress) (hp : s.jack.phase = .hold)
  (hr : s.seq.runState = .running ∨ s.seq.runState = .paused)
include hs hp hr

omit hg in
/-- The decisions of a hold that come to `w`, which moves at most the raise valve. -/
theorem loadSample_hold {w : State → State} (hwork : ∀ y, AtLoad m s y → y.seq.stage = .stress → y.jack.phase = .hold →
      (y.seq.runState = .running ∨ y.seq.runState = .paused) → loadMaintenance y = w y)
    (hw : ∀ y : State, (w y).seq = y.seq ∧ (w y).jack.phase = y.jack.phase ∧
      ∃ b, (w y).drives = { y.drives with raise := b }) :
    ∃ t y, exec (.sampleEvent (.load m) none) s = .next t ∧ AtLoad m s y ∧ LoadClosed (w y) t := by
  have hdrives := State.drives_of_raise (State.raiseAllowed_hold hs hp hr) hl
  refine loadSample_value hs hv hq (fun y hy => ?_) fun y hy => ?_
  · have hs' : y.seq.stage = .stress := by rw [hy.seq, hs]
    have hp' : y.jack.phase = .hold := by rw [hy.jack, hp]
    rw [loadWork_hold hs' hp']
    exact hwork y hy hs' hp' (by rwa [hy.seq])
  · obtain ⟨wseq, wphase, b, wdrives⟩ := hw y
    rw [hy.seq] at wseq
    rw [hy.jack] at wphase
    rw [hy.drives, hdrives] at wdrives
    exact ⟨by rw [wseq, hs], State.legal_of_raise (State.raiseAllowed_hold (by rw [wseq, hs]) (by rw [wphase, hp])
      (by rwa [wseq])) wdrives⟩

/-- Below the band a top-up starts, and is counted (R131, R147). -/
theorem load_topUpStarts (ht : s.jack.topUp = false) (hlow : v + g.loadTolerance < s.stepTarget) :
    ∃ t, exec (.sampleEvent (.load m) none) s = .next t ∧ t.seq = s.seq ∧ t.faults = s.faults ∧
      t.jack = { s.jack with topUp := true } ∧ t.drives = { s.drives with raise := true } ∧
      t.currentEntry.map StepEntry.topUps = s.currentEntry.map (fun e => min (e.topUps + 1) 65535) := by
  obtain ⟨t, y, he, hy, k⟩ := loadSample_hold hl hv hq hs hp hr (w := fun y => countTopUp (topUpOn y))
    (fun y hy hs' hp' hr' => loadMaintenance_starts hs' hp' hr' (by rw [hy.jack, ht]) (hy.short hg hv hlow))
    fun y => ⟨rfl, rfl, true, rfl⟩
  refine ⟨t, he, k.seq.trans hy.seq, k.faults.trans hy.faults,
    k.jack.trans (congrArg (fun j : Jack => { j with topUp := true }) hy.jack),
    k.drives.trans (congrArg (fun d : Drives => { d with raise := true }) hy.drives), ?_⟩
  have hentry : (topUpOn y).currentEntry = s.currentEntry := hy.currentEntry
  rw [k.currentEntry, countTopUp_currentEntry, hentry, Option.map_map]
  rfl

/-- At the target a top-up stops (R131). -/
theorem load_topUpStops (ht : s.jack.topUp = true) (hn : s.stepTarget ≤ v + g.loadTolerance) :
    ∃ t, exec (.sampleEvent (.load m) none) s = .next t ∧ t.seq = s.seq ∧ t.faults = s.faults ∧
      t.jack = { s.jack with topUp := false } ∧ t.drives = { s.drives with raise := false } ∧ t.eval = s.eval := by
  obtain ⟨t, y, he, hy, k⟩ := loadSample_hold hl hv hq hs hp hr (w := topUpOff)
    (fun y hy hs' hp' hr' => loadMaintenance_stops hs' hp' hr' (by rw [hy.jack, ht]) (hy.reached hg hv hn))
    fun y => ⟨rfl, rfl, false, rfl⟩
  exact ⟨t, he, k.seq.trans hy.seq, k.faults.trans hy.faults,
    k.jack.trans (congrArg (fun j : Jack => { j with topUp := false }) hy.jack),
    k.drives.trans (congrArg (fun d : Drives => { d with raise := false }) hy.drives), k.eval.trans hy.eval⟩

/-- A top-up goes on below the band, and none starts in or above it (R131). -/
theorem load_holds (hn : s.jack.topUp = true ↔ v + g.loadTolerance < s.stepTarget) :
    ∃ t, exec (.sampleEvent (.load m) none) s = .next t ∧ t.seq = s.seq ∧ t.faults = s.faults ∧ t.jack = s.jack ∧
      t.drives = s.drives ∧ t.eval = s.eval := by
  obtain ⟨t, y, he, hy, k⟩ := loadSample_hold hl hv hq hs hp hr (w := id)
    (fun y hy hs' hp' hr' => by
      by_cases hlow : v + g.loadTolerance < s.stepTarget
      · exact loadMaintenance_tops hs' hp' hr' (by rw [hy.jack]; exact hn.mpr hlow) (hy.short hg hv hlow)
      · have ht : y.jack.topUp = false := by rw [hy.jack]; simpa using mt hn.mp hlow
        exact loadMaintenance_reached ht (hy.reached hg hv (Nat.not_lt.mp hlow)))
    fun y => ⟨rfl, rfl, y.drives.raise, rfl⟩
  exact ⟨t, he, k.seq.trans hy.seq, k.faults.trans hy.faults, k.jack.trans hy.jack, k.drives.trans hy.drives,
    k.eval.trans hy.eval⟩

end

end

end Sys2Proof.Machine
end

section
/-!
PROOF. A VOID LOAD at the ramp stop: VOID_TEST stops the work, or is masked and the ramp goes on (O48).
-/
namespace Sys2Proof.Machine

/-- An unmasked VOID_TEST stops running work, and stands taken with its detail (R22, R165). -/
theorem voidTest_stops {u : State} {p : StepPhase} (h : u.stressing p = true) (hp : p ≠ .raiseIntent)
    (hm : u.masked .voidTest = false) (d : Detail) :
    StopsWork u (detect .voidTest d u) ∧ .voidTest ∈ (detect .voidTest d u).faults.seen ∧
    (detect .voidTest d u).faults.taken.map (fun f => (f.kind, f.detail)) = some (.voidTest, d) := by
  obtain ⟨hs, hr, hphase⟩ := State.stressing_iff.mp h
  have htake : detect .voidTest d u = takeFault .voidTest d (seeKind .voidTest u) := by
    rw [detect_voidTest, if_neg (by simp [hm])]
    simp [takeAtOnce, seeKind, hr]
  have hne : (seeKind .voidTest u).seq.stage ≠ .none := by simp [seeKind, hs]
  have hjack := (takeFault_stress (k := .voidTest) d (s := seeKind .voidTest u) hs
    (show u.jack.phase ≠ .raiseIntent by rwa [hphase])).1
  have hseen := (takeFault_work (k := .voidTest) d (.inl hne)).seen .voidTest (mem_insertKind.mpr (.inl rfl))
  rw [htake]
  refine ⟨⟨?_, fun _ => hjack, takeFault_winch _ _ _, rfl⟩, hseen, rfl⟩
  simp [takeFault, writeTaken, setRunState, seeKind, runStateOf]

/-- A run of VOID values short of its end loses no channel (R12). -/
theorem load_notLost {u : State} (hrun : u.chans.load.voidRun < 100) : u.standsLost .load = false := by
  have hne : (u.chan .load).voidRun ≠ Config.lostCount := Nat.ne_of_lt hrun
  simp [State.standsLost, hne]

section
variable {m : Nat} {s : State} (hl : s.drivesLegal = true) (hp : s.stressing .rampUp = true)
  (hf : (takeSample (.load m) s).filtered .load = none) (hrun : (takeSample (.load m) s).chans.load.voidRun < 100)
include hp hf hrun

/-- Unmasked, the VOID value stops the ramp (R22, R50). -/
theorem load_voidStops (hm : s.masked .voidTest = false) :
    ∃ t, exec (.sampleEvent (.load m) none) s = .next t ∧ .voidTest ∈ t.faults.seen ∧
      t.seq = { s.seq with runState := .faulted } ∧ t.drives = .off ∧ t.jack.phase = .rampUp ∧
      ((takeSample (.load m) s).watchQuiet = true →
        t.faults.taken.map (fun f => (f.kind, f.detail)) = some (.voidTest, .channel .load)) := by
  obtain ⟨hs, hr, hphase⟩ := State.stressing_iff.mp hp
  have hwork : ∀ y, AtLoad m s y → loadWork y = detect .voidTest (.channel .load) (rated y) := fun y hy => by
    rw [loadWork_rampVoid ((hy.stressing _).trans hp) ((hy.filtered _).trans hf), if_neg]
    simpa [State.masked, hy.faults] using hm
  obtain ⟨y, hy, hshape⟩ := loadSample_shape (by rw [hs]; decide) (State.watchKind_void hf) (load_notLost hrun)
    fun y hy => by
    rw [hwork y hy, detect_stage, show (rated y).seq = y.seq from rfl, hy.seq, hs]
    decide
  have hym : (rated y).masked .voidTest = false := by
    rw [← hm]; exact congrArg (fun f : FaultUnit => FaultKind.voidTest.maskable && f.mask.contains .voidTest) hy.faults
  obtain ⟨hstop, hseen, htaken⟩ := voidTest_stops (u := rated y) ((hy.stressing _).trans hp) (by decide) hym (.channel .load)
  rw [hwork y hy] at hshape
  have hquiet : (sampleWork (.load m) none s).watchQuiet = (takeSample (.load m) s).watchQuiet :=
    (sampleWork_readBy (.load m) none s).field.watchQuiet
  have k := LoadClosed.of_unmarked hshape
  have hstopped : StopsWork (rated y) (sampleWork (.load m) none s) :=
    ⟨k.seq.trans hstop.seq, fun e => k.jack.trans (hstop.jack e), (congrArg State.winch hshape :).trans hstop.winch,
      by rw [k.faults]; exact hstop.taken⟩
  have hys : (rated y).seq.stage = .stress := (congrArg Sequencer.stage hy.seq).trans hs
  obtain ⟨hsettled, hsettledSeen, hkind⟩ := hstopped.settle (by rw [hys]; decide) s
  have hseq : (finish s (sampleWork (.load m) none s)).seq = { s.seq with runState := .faulted } := by
    rw [← hy.seq]
    exact Eq.trans (by simp [finish, secure]) hsettled.seq
  have hfaults : (finish s (sampleWork (.load m) none s)).faults = (settle s (sampleWork (.load m) none s)).faults := by
    simp [finish, secure]
  have hjack : (finish s (sampleWork (.load m) none s)).jack = { (rated y).jack with topUp := false } :=
    Eq.trans (by simp [finish, secure]) (hsettled.jack hys)
  refine ⟨_, rfl, ?_, hseq, State.drives_off_faulted (finish_legal _ _) (by rw [hseq]), ?_, fun hq => ?_⟩
  · rw [hfaults]
    exact hsettledSeen _ (by rw [k.faults]; exact hseen)
  · rw [hjack]
    exact (congrArg Jack.phase hy.jack).trans hphase
  · rw [hfaults, hkind (hquiet.trans hq), k.faults]
    exact htaken

include hl in
/-- Masked, the VOID value leaves the raise valve open (R22, R127). -/
theorem load_voidPasses (hm : s.masked .voidTest = true) (hq : (takeSample (.load m) s).watchQuiet = true) :
    ∃ t, exec (.sampleEvent (.load m) none) s = .next t ∧ .voidTest ∈ t.faults.seen ∧ t.seq = s.seq ∧
      t.faults.taken = s.faults.taken ∧ t.drives = { Drives.off with raise := true } := by
  have hdrives := State.drives_of_raise (State.raiseAllowed_rampUp hp) hl
  have hramped : ∀ y, AtLoad m s y → (ramped y).drives = { Drives.off with raise := true } := fun y hy => by
    simp only [ramped, hy.filtered, hf, rateHolds_void, hy.drives]
    rw [hdrives]
    rfl
  have hwork : ∀ y, AtLoad m s y →
      loadWork y = { seeKind .voidTest (rated y) with drives := { Drives.off with raise := true } } := fun y hy => by
    have hym : y.masked .voidTest = true := by simpa [State.masked, hy.faults] using hm
    have hrm : (rated y).masked .voidTest = true := hym
    rw [loadWork_rampVoid ((hy.stressing _).trans hp) ((hy.filtered _).trans hf), if_pos hym, hramped y hy, detect_voidTest,
      if_pos hrm]
  obtain ⟨hs, -, -⟩ := State.stressing_iff.mp hp
  obtain ⟨t, y, ht, hy, k⟩ := loadSample_closes (m := m) (s := s) (by rw [hs]; decide) hq (load_notLost hrun) fun y hy => by
    have hstress : (loadWork y).stressing .rampUp = true := by rw [hwork y hy]; exact (hy.stressing _).trans hp
    exact ⟨by rw [(State.stressing_iff.mp hstress).1]; decide,
      State.legal_of_raise (State.raiseAllowed_rampUp hstress) (by rw [hwork y hy])⟩
  rw [hwork y hy] at k
  refine ⟨t, ht, ?_, k.seq.trans hy.seq, ?_, k.drives⟩
  · rw [k.faults]
    exact mem_insertKind.mpr (.inl rfl)
  · rw [k.faults]
    exact (congrArg FaultUnit.taken hy.faults :)

end

end Sys2Proof.Machine
end

section
/-!
PROOF. The ramp stop and the unload stop at the target: on to the hold, to SEATING, or to the next step (O48).
-/
namespace Sys2Proof.Machine

/-! ## A step stopped at its target (R126, R129, R147) -/

theorem handReached_currentEntry (s : State) :
    (handReached s).currentEntry = s.currentEntry.map fun e => { e with reached := s.filtered .load } :=
  updateEntry_currentEntry (f := fun e => { e with reached := s.filtered .load }) (fun _ => rfl) s

/-- A step that goes on to a hold or to SEATING is handed its reached load and no more. -/
theorem stepReached_goesOn {s : State} {x : ScheduleStep} (hx : s.currentStep = some x) (he : x.ends = false) :
    stepReached s = handReached s := by
  have hx' : (handReached s).currentStep = some x := hx
  unfold stepReached
  simp only [hx', he, Bool.false_eq_true, if_false]

/-- A stop outside the ELASTIC step moves only the evaluator. -/
theorem stepReached_plain {s : State} (he : s.elasticAt s.jack.stepIndex = false) :
    ∃ e, stepReached s = { s with eval := e } := by
  unfold stepReached
  dsimp only
  split
  · split
    · unfold takePair
      split
      · rename_i h
        exact absurd (he.symm.trans h) (by decide)
      · split <;> exact ⟨_, rfl⟩
    · exact ⟨_, rfl⟩
  · exact ⟨_, rfl⟩

/-- The boundaries at which a ramp or an unloading ends. -/
def RampEnd (b : Boundary) : Prop := b = .rampUpEnd ∨ b = .rampDownEnd

/-- The station with nothing held. -/
def unheld (s : State) : State := { s with seq := { s.seq with held := none } }

theorem finishPhase_ramp {b : Boundary} (hb : RampEnd b) {s : State} (hr : s.seq.runState = .running)
    (hn : s.faults.pending = []) : finishPhase reach b s = afterRamp (reachWith (proceed 31)) (unheld s) := by
  rw [finishPhase, if_pos hr, reach, reachWith_pass hn]
  rcases hb with rfl | rfl <;> rfl

section
variable {x : ScheduleStep} {s : State} (hx : s.currentStep = some x)
include hx

theorem afterRamp_lock (reach : Boundary → State → State) (hk : x.kind = .lock) :
    afterRamp reach s = enterSeating reach s := by
  simp only [afterRamp, hx, hk, if_true]

theorem afterRamp_hold (reach : Boundary → State → State) (hk : x.kind ≠ .lock) (hh : x.hold ≠ 0) :
    afterRamp reach s = enterHold s := by
  simp only [afterRamp, hx, hk, hh, if_false]

theorem afterRamp_next (reach : Boundary → State → State) (hk : x.kind ≠ .lock) (hh : x.hold = 0) :
    afterRamp reach s = beginStep reach (s.jack.stepIndex + 1) s := by
  simp only [afterRamp, hx, hk, hh, if_false, if_true]

end

/-! ## On to the hold (R130, R131) -/

/-- HOLD at its start, before its load maintenance. -/
def holdOpened (n : Option Nat) (s : State) : State :=
  { setStepPhase .hold s with jack := { s.jack with phase := .hold, holdClock := 0, holdLength := n, topUp := false } }

theorem enterHold_eq {s : State} {x : ScheduleStep} (hx : s.currentStep = some x) :
    enterHold s = loadMaintenance (holdOpened (some x.hold) s) := by
  have hx' : (setStepPhase .hold s).currentStep = some x := by simpa [State.currentStep] using hx
  simp only [enterHold, holdOpened, hx', setStepPhase_jack, Option.map_some]

/-- From the stop `s` to `w` the hold of step `x` has begun at load `v`, topped up where that is short of the target. -/
structure HoldBegun (x : ScheduleStep) (v : Nat) (s w : State) : Prop where
  seq : w.seq = { s.seq with held := none }
  jack : w.jack =
    { s.jack with
      phase := .hold, holdClock := 0, holdLength := some x.hold
      topUp := decide (v + s.cfg Setup.loadTolerance 0 < x.target) }
  drives : w.drives = { Drives.off with raise := decide (v + s.cfg Setup.loadTolerance 0 < x.target) }
  faults : w.faults = s.faults
  reached : w.currentEntry.map StepEntry.reached = s.currentEntry.map fun _ => some v

section
variable {x : ScheduleStep} {v : Nat} {s : State} (hs : s.seq.stage = .stress) (hr : s.seq.runState = .running)
  (hx : s.currentStep = some x) (hv : s.filtered .load = some v)
include hs hr hx hv

theorem loadMaintenance_opened (n : Option Nat) :
    loadMaintenance (holdOpened n s) =
      if v + s.cfg Setup.loadTolerance 0 < x.target then countTopUp (topUpOn (holdOpened n s)) else holdOpened n s := by
  have hfield : SameField s (holdOpened n s) := (setStepPhase_work .hold s).sameField.trans (.of_parts rfl rfl rfl rfl rfl rfl)
  have hv' : (holdOpened n s).filtered .load = some v := (hfield.filtered _).trans hv
  have htarget : (holdOpened n s).stepTarget = x.target := by
    have hstep : (holdOpened n s).currentStep = some x := hx
    simp [State.stepTarget, hstep]
  have htol : (holdOpened n s).cfg Setup.loadTolerance 0 = s.cfg Setup.loadTolerance 0 := by
    simp only [State.cfg, hfield.config]
  split
  · rename_i hlow
    exact loadMaintenance_starts (by simpa [holdOpened] using hs) rfl (.inl (by simpa [holdOpened] using hr)) rfl
      ((load_short_iff hv' _).mpr (by rw [htarget, htol]; exact hlow))
  · rename_i hlow
    exact loadMaintenance_reached rfl ((load_reached_iff hv' _).mpr (by rw [htarget, htol]; exact Nat.not_lt.mp hlow))

end

section
variable {b : Boundary} {x : ScheduleStep} {s : State} (hb : RampEnd b) (hr : s.seq.runState = .running)
  (hn : s.faults.pending = [])
include hb hr hn

/-- A step with a hold or with lock-off to come goes on with its reached load. -/
theorem stop_goesOn (hx : s.currentStep = some x) (he : x.ends = false) :
    finishPhase reach b (stepReached s) = afterRamp (reachWith (proceed 31)) (unheld (handReached s)) := by
  rw [stepReached_goesOn hx he]
  exact finishPhase_ramp hb (s := handReached s) hr hn

end

section
variable {b : Boundary} {x : ScheduleStep} {v : Nat} {s : State} (hb : RampEnd b) (hs : s.seq.stage = .stress)
  (hr : s.seq.runState = .running) (hn : s.faults.pending = []) (hx : s.currentStep = some x)
  (hv : s.filtered .load = some v) (hd : s.drives = .off)
include hb hs hr hn hx hv hd

/-- The stop of a step with a hold begins the hold. -/
theorem stop_holdBegun (hk : x.kind ≠ .lock) (hh : x.hold ≠ 0) : HoldBegun x v s (finishPhase reach b (stepReached s)) := by
  have hends : x.ends = false := by simp [ScheduleStep.ends, hh]
  have hx' : (unheld (handReached s)).currentStep = some x := hx
  have hentry : (holdOpened (some x.hold) (unheld (handReached s))).currentEntry.map StepEntry.reached =
      s.currentEntry.map fun _ => some v := by
    have hsame : (holdOpened (some x.hold) (unheld (handReached s))).currentEntry = (handReached s).currentEntry := by
      simp [State.currentEntry, holdOpened, unheld, handReached]
    rw [hsame, handReached_currentEntry, hv, Option.map_map]
    rfl
  have hmaintained := loadMaintenance_opened (s := unheld (handReached s)) hs hr hx' hv (some x.hold)
  rw [show (unheld (handReached s)).cfg Setup.loadTolerance 0 = s.cfg Setup.loadTolerance 0 from rfl] at hmaintained
  rw [stop_goesOn hb hr hn hx hends, afterRamp_hold hx' _ hk hh, enterHold_eq hx', hmaintained]
  generalize hu : holdOpened (some x.hold) (unheld (handReached s)) = u at hentry
  obtain ⟨useq, ujack, udrives, ufaults⟩ : u.seq = { s.seq with held := none } ∧
      u.jack = { s.jack with phase := .hold, holdClock := 0, holdLength := some x.hold, topUp := false } ∧
      u.drives = .off ∧ u.faults = s.faults := by
    rw [← hu]; simp [holdOpened, unheld, handReached, hd]
  by_cases hlow : v + s.cfg Setup.loadTolerance 0 < x.target
  · rw [if_pos hlow]
    refine ⟨useq, ?_, ?_, ufaults, ?_⟩
    · rw [decide_eq_true hlow]
      exact congrArg (fun j : Jack => { j with topUp := true }) ujack
    · rw [decide_eq_true hlow]
      exact congrArg (fun d : Drives => { d with raise := true }) udrives
    · rw [countTopUp_currentEntry, Option.map_map]
      exact hentry
  · rw [if_neg hlow]
    exact ⟨useq, by rw [decide_eq_false hlow, ujack], by rw [decide_eq_false hlow, udrives]; rfl, ufaults, hentry⟩

end

/-! ## On to SEATING (R133) -/

/-- From the stop `s` to `w` SEATING has begun at load `v`, its drive on. -/
structure SeatingBegun (v : Nat) (s w : State) : Prop where
  seq : w.seq = { s.seq with held := none }
  jack : w.jack = { s.jack with phase := .seating, lockOffTimer := 0 }
  drives : w.drives = { s.drives with seating := true }
  faults : w.faults = s.faults
  reached : w.currentEntry.map StepEntry.reached = s.currentEntry.map fun _ => some v

/-- The stop of the LOCK step begins SEATING, and leaves the load it has handed. -/
theorem stop_seatingBegun {b : Boundary} {x : ScheduleStep} {v : Nat} {s : State} (hb : RampEnd b)
    (hr : s.seq.runState = .running) (hn : s.faults.pending = []) (hx : s.currentStep = some x)
    (hv : s.filtered .load = some v) (hk : x.kind = .lock) (hseat : s.contacts.seat.active = false) :
    SeatingBegun v s (finishPhase reach b (stepReached s)) := by
  have hends : x.ends = false := by simp [ScheduleStep.ends, hk]
  have hx' : (unheld (handReached s)).currentStep = some x := hx
  rw [stop_goesOn hb hr hn hx hends, afterRamp_lock hx' _ hk, enterSeating,
    startSeating_on (by simpa [unheld, handReached] using hseat)]
  generalize hu : setStepPhase .seating (unheld (handReached s)) = u
  have hentry : u.currentEntry = (handReached s).currentEntry := by
    rw [← hu]; simp [State.currentEntry, unheld]
  have hkept := updateEntry_currentEntry
    (f := fun e => if e.reached.isNone then { e with reached := u.filtered .load } else e) (fun e => by split <;> rfl) u
  refine ⟨by simp [← hu, unheld, handReached], by simp [← hu, unheld, handReached], by simp [← hu, unheld, handReached],
    by simp [← hu, unheld, handReached], ?_⟩
  refine (congrArg (Option.map StepEntry.reached) hkept).trans ?_
  rw [hentry, handReached_currentEntry, hv, Option.map_map, Option.map_map]
  rfl

/-! ## On to the next step (R124, R130) -/

/-- From the stop `s` to `w` the next step, a LOAD step, stands at its raise gate. -/
structure NextBegun (s w : State) : Prop where
  seq : w.seq = { s.seq with held := none }
  index : w.jack.stepIndex = s.jack.stepIndex + 1
  phase : w.jack.phase = if w.raiseConditions = true then .raiseIntent else .raiseWait
  drives : w.drives = s.drives
  faults : w.faults = s.faults
  gateTimer : w.table.gateTimer = 0

/-- The stop of a step with hold 0, outside the ELASTIC step, begins the next one. -/
theorem stop_nextBegun {b : Boundary} {x : ScheduleStep} {s : State} (hb : RampEnd b) (hs : s.seq.stage = .stress)
    (hr : s.seq.runState = .running) (hn : s.faults.pending = []) (hx : s.currentStep = some x) (hk : x.kind ≠ .lock)
    (hh : x.hold = 0) (he : s.elasticAt s.jack.stepIndex = false)
    (hnext : (s.jack.schedule[s.jack.stepIndex]?).map ScheduleStep.kind = some .load) :
    NextBegun s (finishPhase reach b (stepReached s)) := by
  obtain ⟨y, hy, hload⟩ := Option.map_eq_some_iff.mp hnext
  obtain ⟨e, hstop⟩ := stepReached_plain he
  rw [hstop, finishPhase_ramp hb (s := { s with eval := e }) hr hn]
  generalize hu : unheld { s with eval := e } = u
  obtain ⟨useq, ujack, udrives, ufaults⟩ : u.seq = { s.seq with held := none } ∧ u.jack = s.jack ∧ u.drives = s.drives ∧
      u.faults = s.faults := by rw [← hu]; exact ⟨rfl, rfl, rfl, rfl⟩
  have hux : u.currentStep = some x := by rw [← hu]; exact hx
  rw [afterRamp_next hux _ hk hh, beginStep_load (by rw [ujack]; exact hy) hload]
  obtain ⟨eseq, ejack, edrives, efaults, -, -, etimer⟩ := stepEntered_fields (u.jack.stepIndex + 1) y u
  have g : Gated (stepEntered (u.jack.stepIndex + 1) y u)
      (raiseGate (reachWith (proceed 31)) (stepEntered (u.jack.stepIndex + 1) y u)) :=
    raiseGate_gated 30 (by rw [eseq, useq]; exact hs) (by rw [ejack]) (by rw [ejack]; nofun) (by rw [efaults, ufaults, hn])
  refine ⟨?_, ?_, ?_, g.drives.trans (edrives.trans udrives), g.faults.trans (efaults.trans ufaults),
    g.gateTimer.trans etimer⟩
  · rw [g.seq, g.held (by rw [eseq, useq]), eseq, useq]
  · rw [g.jack, ejack, ujack]
  · exact congrArg Jack.phase g.jack

end Sys2Proof.Machine
end

section
/-!
PROOF. The LOAD sample events that stop a ramp or an unloading, and every LOAD decision of a step together (O48).
-/
namespace Sys2Proof.Machine

/-! ## The ramp stop at a LOAD sample event (R126, R132) -/

/-- The raise valve shut at the ramp stop, with the datum extension taken in step 1. -/
def rampShut (s : State) : State :=
  { s with
    drives := { s.drives with raise := false }
    jack := { s.jack with datum := if s.jack.stepIndex = 1 then some (s.filtered .ext) else s.jack.datum } }

theorem rampStopped_eq (reach : Boundary → State → State) (s : State) :
    rampStopped reach s = finishPhase reach .rampUpEnd (stepReached (rampShut s)) := by
  unfold rampStopped rampShut
  dsimp only
  split <;> rfl

/-- What the ramp stop finds at the state `z` where it hands its load, in a sample event of `s`. -/
structure StopAt (v : Nat) (s z : State) : Prop where
  seq : z.seq = s.seq
  faults : z.faults = s.faults
  drives : z.drives = .off
  contacts : z.contacts = s.contacts
  schedule : z.jack.schedule = s.jack.schedule
  index : z.jack.stepIndex = s.jack.stepIndex
  load : z.filtered .load = some v
  entry : z.currentEntry = s.currentEntry

theorem StopAt.currentStep {v : Nat} {s z : State} (h : StopAt v s z) : z.currentStep = s.currentStep := by
  simp only [State.currentStep, h.schedule, h.index]

section
variable {m v : Nat} {s y : State} (hl : s.drivesLegal = true)
  (hv : (takeSample (.load m) s).filtered .load = some v) (hy : AtLoad m s y)
include hl hv hy

theorem AtLoad.rampStop (hp : s.stressing .rampUp = true) : StopAt v s (rampShut (rated y)) where
  seq := hy.seq
  faults := hy.faults
  drives := by
    refine (congrArg (fun d : Drives => { d with raise := false }) hy.drives).trans ?_
    rw [State.drives_of_raise (State.raiseAllowed_rampUp hp) hl]
    rfl
  contacts := hy.contacts
  schedule := (congrArg Jack.schedule hy.jack :)
  index := (congrArg Jack.stepIndex hy.jack :)
  load := (hy.filtered _).trans hv
  entry := hy.currentEntry

theorem AtLoad.unloadStop (hp : s.stressing .rampDown = true) :
    StopAt v s { y with drives := { y.drives with lower := false } } where
  seq := hy.seq
  faults := hy.faults
  drives := by
    refine (congrArg (fun d : Drives => { d with lower := false }) hy.drives).trans ?_
    rw [State.drives_of_unload hl hp]
    rfl
  contacts := hy.contacts
  schedule := (congrArg Jack.schedule hy.jack :)
  index := (congrArg Jack.stepIndex hy.jack :)
  load := (hy.filtered _).trans hv
  entry := hy.currentEntry

end

theorem HoldBegun.legal {x : ScheduleStep} {v : Nat} {s w : State} (h : HoldBegun x v s w) (hs : s.seq.stage = .stress)
    (hr : s.seq.runState = .running) : w.drivesLegal = true :=
  State.legal_of_raise (State.raiseAllowed_hold (by rw [h.seq, hs]) (by rw [h.jack]) (.inl (by rw [h.seq, hr]))) h.drives

theorem SeatingBegun.legal {v : Nat} {s w : State} (h : SeatingBegun v s w) (hs : s.seq.stage = .stress)
    (hr : s.seq.runState = .running) (hd : s.drives = .off) : w.drivesLegal = true := by
  have hdrives := h.drives.trans (by rw [hd])
  simp [State.drivesLegal, State.seatingAllowed, hdrives, h.seq, h.jack, hs, hr, Drives.off]

/-- The datum extension as the ramp stop leaves it (R132). -/
theorem AtLoad.rampStop_datum {m : Nat} {s y : State} (hy : AtLoad m s y) :
    (rampShut (rated y)).jack.datum = if s.jack.stepIndex = 1 then some (s.filtered .ext) else s.jack.datum := by
  have hext : y.filtered .ext = s.filtered .ext :=
    (hy.filtered _).trans (congrArg Channel.value (takeSample_chan_other (i := .load m) (c := .ext) (by simp [inputChannel]) s))
  rw [← hext, ← hy.jack]
  rfl

theorem stepTarget_of_currentStep {s : State} {x : ScheduleStep} (hx : s.currentStep = some x) : s.stepTarget = x.target := by
  simp [State.stepTarget, hx]

section
variable {g : Setup} {m v : Nat} {x : ScheduleStep} {s : State} (hl : s.drivesLegal = true)
  (hg : s.seq.config = some g) (hv : (takeSample (.load m) s).filtered .load = some v)
  (hq : (takeSample (.load m) s).watchQuiet = true) (hx : s.currentStep = some x)
include hl hg hv hq hx

section
variable (hp : s.stressing .rampUp = true) (hreach : x.target ≤ v + g.loadTolerance)
include hp hreach

/-- At the target a LOAD sample event in RAMP_UP comes to what follows its stop. -/
theorem loadSample_stop (hlegal : ∀ z, StopAt v s z → (finishPhase reach .rampUpEnd (stepReached z)).seq.stage = .stress ∧
      (finishPhase reach .rampUpEnd (stepReached z)).drivesLegal = true) :
    ∃ t y, exec (.sampleEvent (.load m) none) s = .next t ∧ AtLoad m s y ∧
      LoadClosed (finishPhase reach .rampUpEnd (stepReached (rampShut (rated y)))) t := by
  refine loadSample_value (w := fun y => finishPhase reach .rampUpEnd (stepReached (rampShut (rated y))))
    (State.stressing_iff.mp hp).1 hv hq (fun y hy => ?_) fun y hy => hlegal _ (hy.rampStop hl hv hp)
  rw [loadWork_rampReached ((hy.stressing _).trans hp)
    (hy.reached hg hv (by rwa [stepTarget_of_currentStep hx])), rampStopped_eq]

variable (hn : s.faults.pending = [])
include hn

/-- A step with a hold goes on to it (R126, R130). -/
theorem load_rampHolds (hk : x.kind ≠ .lock) (hh : x.hold ≠ 0) :
    ∃ t, exec (.sampleEvent (.load m) none) s = .next t ∧ t.seq.runState = .running ∧ t.seq.stage = .stress ∧
      t.jack.phase = .hold ∧ t.jack.stepIndex = s.jack.stepIndex ∧ t.jack.holdClock = 0 ∧
      t.jack.holdLength = some x.hold ∧ t.jack.topUp = false ∧ t.drives = .off ∧ t.faults = s.faults ∧
      t.currentEntry.map StepEntry.reached = s.currentEntry.map (fun _ => some v) ∧
      t.jack.datum = (if s.jack.stepIndex = 1 then some (s.filtered .ext) else s.jack.datum) := by
  obtain ⟨hs, hr, -⟩ := State.stressing_iff.mp hp
  have hhold : ∀ z, StopAt v s z → HoldBegun x v z (finishPhase reach .rampUpEnd (stepReached z)) := fun z hz =>
    stop_holdBegun (.inl rfl) (by rw [hz.seq, hs]) (by rw [hz.seq, hr]) (by rw [hz.faults, hn])
      (hz.currentStep.trans hx) hz.load hz.drives hk hh
  obtain ⟨t, y, ht, hy, k⟩ := loadSample_stop hl hg hv hq hx hp hreach fun z hz =>
    ⟨by rw [(hhold z hz).seq, hz.seq, hs], (hhold z hz).legal (by rw [hz.seq, hs]) (by rw [hz.seq, hr])⟩
  have hz := hy.rampStop hl hv hp
  have h := hhold _ hz
  have hlow : decide (v + (rampShut (rated y)).cfg Setup.loadTolerance 0 < x.target) = false :=
    decide_eq_false (Nat.not_lt.mpr (hreach.trans_eq (congrArg (v + ·) (hy.cfg hg _ _).symm)))
  have hjack := k.jack.trans h.jack
  have hseq := k.seq.trans h.seq
  rw [hlow] at hjack
  refine ⟨t, ht, by rw [hseq, hz.seq, hr], by rw [hseq, hz.seq, hs], by rw [hjack], by rw [hjack]; exact hz.index,
    by rw [hjack], by rw [hjack], by rw [hjack], ?_, k.faults.trans (h.faults.trans hz.faults), ?_, ?_⟩
  · rw [k.drives, h.drives, hlow]
    rfl
  · rw [k.currentEntry, h.reached, hz.entry]
  · rw [hjack]
    exact hy.rampStop_datum

/-- The LOCK step goes on to SEATING (R126, R133). -/
theorem load_rampSeats (hk : x.kind = .lock) (hseat : s.contacts.seat.active = false) :
    ∃ t, exec (.sampleEvent (.load m) none) s = .next t ∧ t.seq.runState = .running ∧ t.jack.phase = .seating ∧
      t.jack.lockOffTimer = 0 ∧ t.faults = s.faults ∧ t.drives = { Drives.off with seating := true } ∧
      t.jack.datum = (if s.jack.stepIndex = 1 then some (s.filtered .ext) else s.jack.datum) ∧
      t.currentEntry.map StepEntry.reached = s.currentEntry.map (fun _ => some v) := by
  obtain ⟨hs, hr, -⟩ := State.stressing_iff.mp hp
  have hseating : ∀ z, StopAt v s z → SeatingBegun v z (finishPhase reach .rampUpEnd (stepReached z)) := fun z hz =>
    stop_seatingBegun (.inl rfl) (by rw [hz.seq, hr]) (by rw [hz.faults, hn]) (hz.currentStep.trans hx) hz.load hk
      (by rw [hz.contacts, hseat])
  obtain ⟨t, y, ht, hy, k⟩ := loadSample_stop hl hg hv hq hx hp hreach fun z hz =>
    ⟨by rw [(hseating z hz).seq, hz.seq, hs], (hseating z hz).legal (by rw [hz.seq, hs]) (by rw [hz.seq, hr]) hz.drives⟩
  have hz := hy.rampStop hl hv hp
  have h := hseating _ hz
  have hjack := k.jack.trans h.jack
  refine ⟨t, ht, ?_, by rw [hjack], by rw [hjack], k.faults.trans (h.faults.trans hz.faults), ?_, ?_, ?_⟩
  · rw [k.seq, h.seq, hz.seq, hr]
  · rw [k.drives, h.drives, hz.drives]
  · rw [hjack]
    exact hy.rampStop_datum
  · rw [k.currentEntry, h.reached, hz.entry]

/-- A step with hold 0, outside the ELASTIC step, goes on to the next (R126, R130). -/
theorem load_rampNext (hk : x.kind ≠ .lock) (hh : x.hold = 0) (he : s.elasticAt s.jack.stepIndex = false)
    (hnext : (s.jack.schedule[s.jack.stepIndex]?).map ScheduleStep.kind = some .load) :
    ∃ t, exec (.sampleEvent (.load m) none) s = .next t ∧ t.seq.runState = .running ∧
      t.jack.stepIndex = s.jack.stepIndex + 1 ∧ t.faults = s.faults ∧ t.drives = .off ∧
      t.jack.phase = (if t.raiseConditions = true then .raiseIntent else .raiseWait) ∧ t.table.gateTimer = 0 := by
  obtain ⟨hs, hr, -⟩ := State.stressing_iff.mp hp
  have hbegun : ∀ z, StopAt v s z → NextBegun z (finishPhase reach .rampUpEnd (stepReached z)) := fun z hz =>
    stop_nextBegun (.inl rfl) (by rw [hz.seq, hs]) (by rw [hz.seq, hr]) (by rw [hz.faults, hn]) (hz.currentStep.trans hx) hk
      hh (by simpa [State.elasticAt, hz.schedule, hz.index] using he) (by rw [hz.schedule, hz.index, hnext])
  obtain ⟨t, y, ht, hy, k⟩ := loadSample_stop hl hg hv hq hx hp hreach fun z hz =>
    ⟨by rw [(hbegun z hz).seq, hz.seq, hs], State.drivesLegal_of_off ((hbegun z hz).drives.trans hz.drives)⟩
  have hz := hy.rampStop hl hv hp
  have h := hbegun _ hz
  refine ⟨t, ht, by rw [k.seq, h.seq, hz.seq, hr], by rw [k.jack, h.index, hz.index],
    k.faults.trans (h.faults.trans hz.faults), k.drives.trans (h.drives.trans hz.drives), ?_, k.gateTimer.trans h.gateTimer⟩
  rw [k.jack, k.conditions]
  exact h.phase

end

/-! ## The unload stop at a LOAD sample event (R129, R131) -/

omit hl hg hv hq hx in
/-- The unload stop with neither overload nor stroke due at the closing of the lower valve. -/
theorem unloadStop_clear {y : State} (hp : y.stressing .rampDown = true)
    (hc : Test.clear.holds (y.loadAgainst y.stepTarget) = true) (hw : y.watchQuiet = true) :
    unloadStop reach y =
      finishPhase reach .rampDownEnd (stepReached { y with drives := { y.drives with lower := false } }) := by
  have hp' : State.stressing { y with drives := { y.drives with lower := false } } .rampDown = true := hp
  rw [unloadStop, if_pos hp, unaware_true _ _ _ hc, unloadStopped, shutLower_quiet hw, if_pos hp']

/-- An UNLOAD step with a hold goes on to it, topped up where the load has fallen below the band. -/
theorem load_unloadHolds (hp : s.stressing .rampDown = true) (hle : v ≤ s.stepTarget + g.loadTolerance)
    (hn : s.faults.pending = []) (hk : x.kind ≠ .lock) (hh : x.hold ≠ 0) :
    ∃ t, exec (.sampleEvent (.load m) none) s = .next t ∧ t.seq.runState = .running ∧ t.jack.phase = .hold ∧
      t.jack.stepIndex = s.jack.stepIndex ∧ t.jack.holdClock = 0 ∧ t.jack.holdLength = some x.hold ∧
      t.faults = s.faults ∧ t.jack.topUp = decide (v + g.loadTolerance < x.target) ∧
      t.drives = { Drives.off with raise := decide (v + g.loadTolerance < x.target) } ∧
      t.currentEntry.map StepEntry.reached = s.currentEntry.map (fun _ => some v) := by
  obtain ⟨hs, hr, -⟩ := State.stressing_iff.mp hp
  have hhold : ∀ y, AtLoad m s y → HoldBegun x v { y with drives := { y.drives with lower := false } }
      (finishPhase reach .rampDownEnd (stepReached { y with drives := { y.drives with lower := false } })) := fun y hy => by
    have hz := hy.unloadStop hl hv hp
    exact stop_holdBegun (.inr rfl) (by rw [hz.seq, hs]) (by rw [hz.seq, hr]) (by rw [hz.faults, hn])
      (hz.currentStep.trans hx) hz.load hz.drives hk hh
  obtain ⟨t, y, ht, hy, k⟩ := loadSample_value
    (w := fun y => finishPhase reach .rampDownEnd (stepReached { y with drives := { y.drives with lower := false } })) hs hv hq
    (fun y hy => by
      obtain ⟨hs', -, hp'⟩ := State.stressing_iff.mp ((hy.stressing _).trans hp)
      have hunload : loadWork y = lowering (unloadStop reach y) := by simp only [loadWork, hs', hp']
      rw [hunload, unloadStop_clear ((hy.stressing _).trans hp) (hy.clear hg hv hle) (hy.quiet.trans hq), lowering_other]
      rw [(hhold y hy).seq, (hy.unloadStop hl hv hp).seq, hr]
      decide)
    fun y hy => by
      have hz := hy.unloadStop hl hv hp
      exact ⟨by rw [(hhold y hy).seq, hz.seq, hs], (hhold y hy).legal (by rw [hz.seq, hs]) (by rw [hz.seq, hr])⟩
  have hz := hy.unloadStop hl hv hp
  have h := hhold y hy
  have htol : State.cfg { y with drives := { y.drives with lower := false } } Setup.loadTolerance 0 = g.loadTolerance :=
    hy.cfg hg _ _
  have hjack := k.jack.trans h.jack
  rw [htol] at hjack
  refine ⟨t, ht, by rw [k.seq, h.seq, hz.seq, hr], by rw [hjack], by rw [hjack]; exact hz.index, by rw [hjack],
    by rw [hjack], k.faults.trans (h.faults.trans hz.faults), by rw [hjack], ?_, ?_⟩
  · rw [k.drives, h.drives, htol]
  · rw [k.currentEntry, h.reached, hz.entry]

end

/-! ## The LOAD decisions of a step together (O48) -/

/-- Settles O48: the ramp clock's tick, and the LOAD sample event by the phase and the place of the load. -/
theorem slowRampsAreDetectedOnce : Obligations.SlowRampsAreDetectedOnce := by
  intro x m v tol g s u hl hu hg htol
  subst hu htol
  refine ⟨fun hadv hp hclock hover hslow => ?_, fun hadv hp hclock hslow => ⟨?_, fun hb => ?_⟩,
    fun hp hv hlow hq => load_ramps hl hg hv hq hp hlow, fun hp hx hv hreach hq hn => ⟨fun hk hh => ?_, fun hk hseat hi => ?_,
      fun hk hh he hnext => ?_⟩, fun hp hv hq => ⟨load_unloads hl hg hv hq hp, fun hle hx hk hh hn _ => ?_⟩,
    fun hs hp hr hv hq => ⟨load_topUpStarts hl hg hv hq hs hp hr, load_topUpStops hl hg hv hq hs hp hr,
      load_holds hl hg hv hq hs hp hr⟩, fun hp hf hrun => ⟨load_voidStops hp hf hrun, load_voidPasses hl hp hf hrun⟩⟩
  · obtain ⟨k, hseen, htaken, hpend, hclear⟩ := tick_rateSlow hl hp hadv hclock hg hover hslow rfl
    exact ⟨_, execRateSlow_due hadv hclock hg hp hover hslow, hseen, k.run.trans (State.stressing_iff.mp hp).2.1, k.jack,
      k.drives, htaken, hpend, hclear⟩
  · exact execRateSlow_not hl hslow
  · obtain ⟨k, hf⟩ := tick_staysSlow hl hp hadv hclock hb hslow rfl
    exact ⟨_, execJobClockAdvance_due hadv, hf, k.run.trans (State.stressing_iff.mp hp).2.1, k.drives, k.jack⟩
  · exact load_rampHolds hl hg hv hq hx hp hreach hn (by rw [hk]; decide) hh
  · obtain ⟨t, ht, hrun, hphase, htimer, hf, hd, hdatum, hentry⟩ := load_rampSeats hl hg hv hq hx hp hreach hn hk hseat
    rw [if_neg hi] at hdatum
    exact ⟨t, ht, hrun, hphase, htimer, hf, hd, hdatum, hentry⟩
  · exact load_rampNext hl hg hv hq hx hp hreach hn (by rw [hk]; decide) hh he hnext
  · exact load_unloadHolds hl hg hv hq hx hp hle hn (by rw [hk]; decide) hh

end Sys2Proof.Machine
end
